-- ==== Sys2Proof/Word.lean ====
section
/-! DEFINITION. The word and byte types of the package, the status codes of R19 and the unit state codes of R55. -/

namespace Sys2Proof

/-- A register value: registers are 64 bits wide (R16). -/
abbrev Word := BitVec 64

/-- One byte of package memory. -/
abbrev Byte := BitVec 8

/-- The status codes of R19. Codes 0x10 to 0xFF are reserved. -/
inductive Status where
  | ok | killed | illegalState | badArg | absent | noSpace | deferred | staleTag
  | perm | range | poison | homeLost | isolated | timeout | checkFail | version
  deriving DecidableEq, Repr

/-- The 8-bit code of a status (R19). -/
def Status.code : Status → Nat
  | .ok => 0x00 | .killed => 0x01 | .illegalState => 0x02 | .badArg => 0x03
  | .absent => 0x04 | .noSpace => 0x05 | .deferred => 0x06 | .staleTag => 0x07
  | .perm => 0x08 | .range => 0x09 | .poison => 0x0A | .homeLost => 0x0B
  | .isolated => 0x0C | .timeout => 0x0D | .checkFail => 0x0E | .version => 0x0F

/-- The unit states of R55. -/
inductive UState where
  | absent | offline | reset | idle | running | draining | killing | halted
  | test | quarantined | unmanaged
  deriving DecidableEq, Repr

/-- The 4-bit encoding of a unit state (R55). -/
def UState.code : UState → Nat
  | .absent => 0x0 | .offline => 0x1 | .reset => 0x2 | .idle => 0x3 | .running => 0x4
  | .draining => 0x5 | .killing => 0x6 | .halted => 0x7 | .test => 0x8
  | .quarantined => 0x9 | .unmanaged => 0xA

/-- The state that a code names; reserved codes (0xB to 0xF), which nothing writes, read as ABSENT. -/
def UState.ofCode : Nat → UState
  | 1 => .offline | 2 => .reset | 3 => .idle | 4 => .running | 5 => .draining
  | 6 => .killing | 7 => .halted | 8 => .test | 9 => .quarantined | 10 => .unmanaged
  | _ => .absent

/-- The unit types of R52. -/
inductive UType where
  | root | die | island | tile | gang | tgroup | partition | gmem | btier | mcache | pool
  | flink | frouter | enet | gct | dport | updraft | squall | stepseq | contrail | halo
  | check | cproc | rtu | boot | pwr | therm | time
  deriving DecidableEq, Repr

/-- The variants of the part (R5, R35). -/
inductive Variant where
  | dr9400 | dr9300 | dr9200
  deriving DecidableEq, Repr

/-- A register field: byte offset in the page, highest bit, lowest bit (R12). -/
structure Fld where
  off : Nat
  hi : Nat
  lo : Nat
  deriving DecidableEq, Repr

/-- A row of the register map: `n` registers from `off` on, `stride` bytes apart, their RW bits and reset value. -/
structure RegRow where
  off : Nat
  n : Nat
  stride : Nat
  rw : Nat
  rst : Nat
  deriving DecidableEq, Repr

end Sys2Proof
end

