-- ==== Sys2Proof/Syntax.lean ====
section
/-! DEFINITION. The commands of the package, one constructor for each row of the opcode table, and the data they carry. -/

namespace Sys2Proof

/-- A fabric transaction: the header of R366 and its payload. `rsv` collects the reserved bits of the header (0 when they are
all zero); `ext` is bytes 38 to 47 as one number, byte 38 most significant (R367). -/
structure Pkt where
  op : Nat
  tagged : Bool := false
  combined : Bool := false
  srcDom : Nat := 0
  dstDom : Nat := 0
  dstPkg : Nat := 0
  srcPkg : Nat := 0
  job : Nat := 0
  part : Nat := 0
  status : Nat := 0
  step : Nat := 0
  gen : Nat := 0
  srcTg : Nat := 0
  run : Nat := 0
  dstTg : Nat := 0
  unit : Nat := 0
  tag : Nat := 0
  cmd : Nat := 0
  count : Nat := 1
  addr : Nat := 0
  index : Nat := 0
  len : Nat := 0
  ext : Nat := 0
  rsv : Nat := 0
  pay : List Byte := []
  deriving DecidableEq, Repr

/-- An error that a device of the memory tiers reports on an access of a command (R192, R199, R205): the local offset of the
access that meets it. -/
inductive MemErr where
  /-- `n` failed attempts of a read or write CRC before one passes (n ≤ 8), or 9 when every retry fails (R192). -/
  | crc (off n : Nat)
  /-- A GDDR7 read with corrected severity. -/
  | corrected (off : Nat)
  /-- A GDDR7 read with uncorrectable severity. -/
  | severe (off : Nat)
  /-- A single-bit error of a cache line. -/
  | cacheCorr (off : Nat)
  /-- A double-bit error of a cache line. -/
  | cacheDouble (off : Nat)
  /-- A board-tier read that returns CXL poison. -/
  | cxlPoison (off : Nat)
  /-- The link of a board-tier device recovers during the access, without going down. -/
  | cxlRecovery (off : Nat)
  deriving DecidableEq, Repr

/-- The form of a GCT datagram (R416, R417): over IPv6 or IPv4 with its destination UDP port, or raw. -/
inductive Form where
  | ip6 (udp : Nat)
  | ip4 (udp : Nat)
  | raw
  deriving DecidableEq, Repr
/-- How a datagram came (R416, R417, R425): the ENET port, the host's address, the form, the AN of the secure association under which the frame
has valid MACsec protection, if any, and whether its FCS holds. The address of a host is a MAC in the raw form, and otherwise an IP address
(IPv4 as IPv4-mapped IPv6) with a UDP port, the 18 bytes of ALT_ADDR and ALT_PORT (R421) as a little-endian number. -/
structure Via where
  port : Nat
  src : Nat
  form : Form := .ip6 0xAC58
  guard : Option Nat := none
  fcs : Bool := true
  deriving DecidableEq, Repr
/-- The network of a port (R415). -/
def Via.net (v : Via) : Nat := v.port / 4
/-- The port of a raw datagram (R417). -/
def Via.raw (v : Via) : Option Nat := if v.form = .raw then some v.port else none

/-- A setup datagram of GCT (R417, R418, R421): how it came, the 40 header bytes and the body. -/
structure Setup where
  via : Via
  header : List Byte
  body : List Byte
  deriving DecidableEq, Repr

/-- A datagram of an established GCT session (R417, R418): how it came, the 40 header bytes, whether its tag holds, the body as it
decrypts, and whether another datagram of the session arrives on the other network at the same instant (R429). -/
structure Dgram where
  via : Via
  header : List Byte
  tagOk : Bool := true
  body : List Byte := []
  twin : Bool := false
  deriving DecidableEq, Repr

/-- How a PTP message came (R438): the ENET port, the transport as TIME_CFG codes it, the domain, the AN of the secure association under which
the frame has valid MACsec protection, if any, whether its FCS holds, and the bytes of the frame. -/
structure PtpVia where
  port : Nat
  transport : Nat := 0
  domain : Nat := 0
  guard : Option Nat := none
  fcs : Bool := true
  bytes : Nat := 128
  deriving DecidableEq, Repr

/-- The commands: one constructor for each row of the opcode table, in its order. A register action carries the word written, whose
action bit the command sets; a GCT message its session, MSG_ID and body; a packet the link it comes on. -/
inductive Instr where
  /-- REG_WRITE (R60). -/
  | regWrite (co keys : Bool) (p off : Nat) (v : Word)
  /-- HALT (R59). -/
  | halt (p : Nat) (v : Word)
  /-- DRAIN (R59). -/
  | drain (p : Nat) (v : Word)
  /-- KILL (R59). -/
  | kill (p : Nat) (v : Word)
  /-- RESUME (R59). -/
  | resume (p : Nat) (v : Word)
  /-- EVT_STAT_CLEAR (R61). -/
  | evtStatClear (p : Nat) (v set : Word)
  /-- EVT_MASK_WRITE (R62). -/
  | evtMaskWrite (p : Nat) (v : Word)
  /-- ERR_INFO_CLEAR (R66). -/
  | errInfoClear (p : Nat) (v : Word) (err : Option (Nat × Nat × Nat))
  /-- UNIT_RESET (R451). -/
  | unitReset (p : Nat) (v : Word)
  /-- ISOLATE (R449). -/
  | isolate (p : Nat) (v : Word)
  /-- RELEASE (R67). -/
  | release (p : Nat) (v : Word)
  /-- SELFTEST_START (R68). -/
  | selftestStart (p : Nat) (v : Word)
  /-- SELFTEST_DONE (R454). -/
  | selftestDone (p : Nat) (pass : Bool) (detail : Nat)
  /-- TG_ISLANDS_WRITE (R70). -/
  | tgIslandsWrite (g : Nat) (v : Word)
  /-- BIND (R72). -/
  | bind (p : Nat) (v : Word)
  /-- UNBIND (R75). -/
  | unbind (p : Nat) (v : Word)
  /-- TILE_ERROR (R111). -/
  | tileError (pos code loc : Nat)
  /-- TILE_RETIRE (R104). -/
  | tileRetire (p : Nat) (v : Word)
  /-- Q_TAIL_WRITE (R90). -/
  | qTailWrite (p q : Nat) (v : Word)
  /-- Q_CPL_HEAD_WRITE (R90). -/
  | qCplHeadWrite (p q : Nat) (v : Word)
  /-- Q_ENABLE_WRITE (R109). -/
  | qEnableWrite (p q : Nat) (v : Word)
  /-- TILE_APPLY (R107). -/
  | tileApply (p : Nat) (v : Word)
  /-- CMD_START (R117). -/
  | cmdStart (p : Nat)
  /-- CMD_COMPLETE (R92). -/
  | cmdComplete (p q idx : Nat)
  /-- KILL_COMPLETE (R94). -/
  | killComplete (p : Nat)
  /-- MESH_HOP_CRC_FAIL (R82). -/
  | meshHopCrcFail (pos port : Nat)
  /-- MESH_ARRIVAL (R547). -/
  | meshArrival (p step gen peer off : Nat) (w : List Byte ⊕ (Nat × Nat))
  /-- SCRUB (R110). -/
  | scrub (pos bad : Nat)
  /-- NULL (R139). -/
  | null (p : Nat)
  /-- SYNC_WAIT (R137). -/
  | syncWait (p : Nat)
  /-- SYNC_SIGNAL (R137). -/
  | syncSignal (p : Nat)
  /-- SYNC_BARRIER (R137). -/
  | syncBarrier (p : Nat)
  /-- SYNC_FENCE (R137). -/
  | syncFence (p : Nat)
  /-- SYNC_TIMEOUT (R137). -/
  | syncTimeout (p op : Nat)
  /-- HALO_CHECK (R138). -/
  | haloCheck (p : Nat)
  /-- HALO_FLUSH (R138). -/
  | haloFlush (p : Nat)
  /-- HALO_CLEAR (R138). -/
  | haloClear (p : Nat)
  /-- MMA_DENSE (R122). -/
  | mmaDense (p : Nat)
  /-- MMA_GROUPED (R123). -/
  | mmaGrouped (p : Nat)
  /-- ATTN (R125). -/
  | attn (p : Nat)
  /-- VEC_ADD (R128). -/
  | vecAdd (p : Nat)
  /-- VEC_MUL (R128). -/
  | vecMul (p : Nat)
  /-- VEC_FMA (R128). -/
  | vecFma (p : Nat)
  /-- VEC_AXPB (R128). -/
  | vecAxpb (p : Nat)
  /-- VEC_RMSNORM (R128). -/
  | vecRmsnorm (p : Nat)
  /-- VEC_LAYERNORM (R128). -/
  | vecLayernorm (p : Nat)
  /-- VEC_SOFTMAX (R128). -/
  | vecSoftmax (p : Nat)
  /-- VEC_SILU_MUL (R128). -/
  | vecSiluMul (p : Nat)
  /-- VEC_GELU (R128). -/
  | vecGelu (p : Nat)
  /-- VEC_ROPE (R128). -/
  | vecRope (p : Nat)
  /-- VEC_EXP2 (R128). -/
  | vecExp2 (p : Nat)
  /-- VEC_LOG2 (R128). -/
  | vecLog2 (p : Nat)
  /-- VEC_RECIP (R128). -/
  | vecRecip (p : Nat)
  /-- VEC_RSQRT (R128). -/
  | vecRsqrt (p : Nat)
  /-- VEC_TANH (R128). -/
  | vecTanh (p : Nat)
  /-- VEC_ROWSUM (R128). -/
  | vecRowsum (p : Nat)
  /-- VEC_ROWMAX (R128). -/
  | vecRowmax (p : Nat)
  /-- VEC_TOPK (R285). -/
  | vecTopk (p : Nat)
  /-- VEC_CAST (R128). -/
  | vecCast (p : Nat)
  /-- VEC_ADAMW (R128). -/
  | vecAdamw (p : Nat)
  /-- QNT_QUANT (R157). -/
  | qntQuant (p : Nat)
  /-- QNT_DEQUANT (R162). -/
  | qntDequant (p : Nat)
  /-- SAMPLE (R131). -/
  | sample (p : Nat)
  /-- MOV_COPY (R132). -/
  | movCopy (p : Nat)
  /-- MOV_LOAD (R132). -/
  | movLoad (p : Nat) (es : List MemErr)
  /-- MOV_STORE (R133). -/
  | movStore (p : Nat) (es : List MemErr)
  /-- MOV_MESH_PUT (R132). -/
  | movMeshPut (p : Nat)
  /-- MOV_BCAST (R132). -/
  | movBcast (p : Nat)
  /-- MOV_FILL (R132). -/
  | movFill (p : Nat)
  /-- FETCH_SINGLE (R134). -/
  | fetchSingle (p : Nat)
  /-- FETCH_LIST (R134). -/
  | fetchList (p : Nat)
  /-- EXCH_PUT (R135). -/
  | exchPut (p : Nat)
  /-- EXCH_ADD_F32 (R135). -/
  | exchAddF32 (p : Nat)
  /-- EXCH_ADD_I64 (R135). -/
  | exchAddI64 (p : Nat)
  /-- EXCH_MAX_F32 (R135). -/
  | exchMaxF32 (p : Nat)
  /-- EXCH_SEND (R135). -/
  | exchSend (p : Nat)
  /-- TMMA (R140). -/
  | tmma (p : Nat)
  /-- TGRAD (R141). -/
  | tgrad (p : Nat)
  /-- HALO_EVALUATE (R178). -/
  | haloEvaluate (g : Nat)
  /-- HALO_LOG_POP (R180). -/
  | haloLogPop (g : Nat) (v : Word)
  /-- HALO_WP_WRITE (R182). -/
  | haloWpWrite (g off : Nat) (v : Word)
  /-- RCP_MODE_WRITE (R187). -/
  | rcpModeWrite (g off : Nat) (v : Word)
  /-- GMEM_COPY (R196). -/
  | gmemCopy (k : Nat) (v : Word)
  /-- GMEM_RETURN (R196). -/
  | gmemReturn (k : Nat) (v : Word)
  /-- GMEM_RELOC_DONE (R196). -/
  | gmemRelocDone (k : Nat)
  /-- MC_FLUSH_START (R200). -/
  | mcFlushStart (k : Nat) (v : Word)
  /-- MC_FLUSH_DONE (R200). -/
  | mcFlushDone (k : Nat)
  /-- BT_LINK_DOWN (R204). -/
  | btLinkDown (k d : Nat)
  /-- BT_RETRAIN (R205). -/
  | btRetrain (k : Nat) (v : Word)
  /-- POOL_APPLY (R207). -/
  | poolApply (g : Nat) (v : Word)
  /-- POOL_APPLY_DONE (R207). -/
  | poolApplyDone (g : Nat)
  /-- EVICT_WAIT_EXPIRY (R210). -/
  | evictWaitExpiry (g : Nat)
  /-- EVICT_START (R213). -/
  | evictStart (g : Nat)
  /-- POOL_MOVE_DONE (R214). -/
  | poolMoveDone (g h : Nat)
  /-- POOL_AGE (R208). -/
  | poolAge (g : Nat)
  /-- POOL_REQ_TAIL_WRITE (R215). -/
  | poolReqTailWrite (g : Nat) (v : Word)
  /-- POOL_CPL_HEAD_WRITE (R215). -/
  | poolCplHeadWrite (g : Nat) (v : Word)
  /-- PARK (R216). -/
  | park (g i : Nat)
  /-- PROMOTE (R216). -/
  | promote (g i : Nat)
  /-- DROP (R216). -/
  | drop (g i : Nat)
  /-- FORK (R216). -/
  | fork (g i : Nat)
  /-- SET_QUOTA (R216). -/
  | setQuota (g i : Nat)
  /-- QUERY_SEQ (R216). -/
  | querySeq (g i : Nat)
  /-- QUERY_CUST (R216). -/
  | queryCust (g i : Nat)
  /-- UD_TABLE_CHECK (R224). -/
  | udTableCheck (k : Nat) (v : Word)
  /-- UD_ENABLE_WRITE (R245). -/
  | udEnableWrite (k : Nat) (v : Word)
  /-- USE_ARM (R225). -/
  | useArm (g : Nat)
  /-- FILL_ENTRY (R230). -/
  | fillEntry (u layer e : Nat) (es : List MemErr)
  /-- LOAD_START (R235). -/
  | loadStart (k : Nat) (v : Word)
  /-- PULL_DATA (R236). -/
  | pullData (session id status : Nat) (body : List Byte) (es : List MemErr)
  /-- PULL_TIMEOUT_EXPIRY (R236). -/
  | pullTimeoutExpiry (u c : Nat)
  /-- LOAD_RESUME (R237). -/
  | loadResume (k : Nat) (v : Word)
  /-- LOAD_ABORT (R237). -/
  | loadAbort (k : Nat) (v : Word)
  /-- SWAP_PREPARE (R240). -/
  | swapPrepare (k : Nat) (v : Word)
  /-- SWAP_COMMIT (R240). -/
  | swapCommit (k : Nat) (v : Word)
  /-- SWAP_CANCEL (R240). -/
  | swapCancel (k : Nat) (v : Word)
  /-- SWAP_COPY_CHUNK (R243). -/
  | swapCopyChunk (u : Nat) (es : List MemErr)
  /-- GRANT (R259). -/
  | grant (session id : Nat) (body : List Byte)
  /-- PROGRAM_CHECK (R257). -/
  | programCheck (g : Nat) (v : Word)
  /-- STEP_OPEN (R261). -/
  | stepOpen (g : Nat)
  /-- GAP_WAIT_EXPIRY (R260). -/
  | gapWaitExpiry (g : Nat)
  /-- SLICE_END (R251). -/
  | sliceEnd (g : Nat)
  /-- SECTION_DISPATCH (R254). -/
  | sectionDispatch (g : Nat)
  /-- LAYER_GO (R251). -/
  | layerGo (g : Nat) (v : Word)
  /-- STEP_COMMIT (R266). -/
  | stepCommit (g : Nat)
  /-- STEP_KILL_RESOLVE (R271). -/
  | stepKillResolve (g : Nat)
  /-- ABORT_STEP (R269). -/
  | abortStep (g : Nat) (v : Word)
  /-- ISOLATION_LIMIT_EXPIRY (R270). -/
  | isolationLimitExpiry (g : Nat)
  /-- EXPERT_FETCH (R291). -/
  | expertFetch (k g idx : Nat)
  /-- COMBINE (R294). -/
  | combine (k g idx : Nat)
  /-- DISPATCH (R297). -/
  | dispatch (k g idx : Nat)
  /-- RETURN_JOB (R299). -/
  | returnJob (k g idx : Nat)
  /-- ALL_REDUCE (R300). -/
  | allReduce (k g idx : Nat)
  /-- REDUCE_SCATTER (R300). -/
  | reduceScatter (k g idx : Nat)
  /-- ALL_GATHER (R300). -/
  | allGather (k g idx : Nat)
  /-- SQ_JOB_COMPLETE (R290). -/
  | sqJobComplete (k g idx : Nat)
  /-- SQ_JOB_TIMEOUT (R290). -/
  | sqJobTimeout (k g idx : Nat)
  /-- PLAN_CHECK (R289). -/
  | planCheck (k : Nat) (v : Word)
  /-- SEQ_OPEN (R313). -/
  | seqOpen (session id : Nat) (body : List Byte)
  /-- SEQ_PROMPT (R315). -/
  | seqPrompt (session id : Nat) (body : List Byte)
  /-- SEQ_BIND (R329). -/
  | seqBind (session id : Nat) (body : List Byte)
  /-- SEQ_CLOSE (R314). -/
  | seqClose (session id : Nat) (body : List Byte)
  /-- SEQ_SUBSCRIBE (R320). -/
  | seqSubscribe (session id : Nat) (body : List Byte)
  /-- SEQ_ACK (R319). -/
  | seqAck (session id : Nat) (body : List Byte)
  /-- SEQ_QUERY (R310). -/
  | seqQuery (session id : Nat) (body : List Byte)
  /-- KEEPALIVE_EXPIRY (R318). -/
  | keepaliveExpiry (i : Nat)
  /-- BK_BALANCE_WRITE (R324). -/
  | bkBalanceWrite (k : Nat) (v : Word)
  /-- BK_CREDIT (R324). -/
  | bkCredit (k : Nat) (v : Word)
  /-- AD_INSTALL (R327). -/
  | adInstall (k : Nat) (v : Word)
  /-- AD_INSTALL_DONE (R327). -/
  | adInstallDone (k : Nat)
  /-- AD_RETIRE (R326). -/
  | adRetire (k : Nat) (v : Word)
  /-- CT_ENABLE_WRITE (R334). -/
  | ctEnableWrite (k : Nat) (v : Word)
  /-- FL_ENABLE_WRITE (R361). -/
  | flEnableWrite (l : Nat) (v : Word)
  /-- LINK_DETECT (R339). -/
  | linkDetect (l lanes : Nat)
  /-- LINK_RX_READY (R339). -/
  | linkRxReady (l lanes : Nat)
  /-- LINK_ALIGN_DONE (R339). -/
  | linkAlignDone (l : Nat) (words : List Nat)
  /-- TRAINING_TIMEOUT (R339). -/
  | trainingTimeout (l : Nat)
  /-- LINK_DOWN_WAIT_EXPIRY (R339). -/
  | linkDownWaitExpiry (l : Nat)
  /-- FRAME_RX (R346): the frame decodes as it stands, and with the spare in place of a mirrored lane. -/
  | frameRx (l : Nat) (decoded : Bool × Bool) (msg : List Byte) (corr : List Nat)
  /-- REPLAY_REQ (R346). -/
  | replayReq (l fseq : Nat)
  /-- ACK_STALL_EXPIRY (R346). -/
  | ackStallExpiry (l : Nat)
  /-- IDENT (R349). -/
  | ident (l : Nat) (fields : List Nat)
  /-- IDENT_ACK (R349). -/
  | identAck (l verdict rev : Nat)
  /-- IDENT_RESEND_EXPIRY (R347). -/
  | identResendExpiry (l : Nat)
  /-- MIRROR (R356). -/
  | mirror (l lane : Nat)
  /-- MIRROR_ON (R356). -/
  | mirrorOn (l lane fseq : Nat)
  /-- STEERED (R356). -/
  | steered (l lane phys : Nat)
  /-- LANE_RELEASE (R357). -/
  | laneRelease (l phys : Nat)
  /-- EQ_REQ (R357). -/
  | eqReq (l phys preset : Nat)
  /-- EQ_SET (R357). -/
  | eqSet (l phys preset : Nat)
  /-- LANE_FAIL (R356). -/
  | laneFail (l lane : Nat)
  /-- RECAL (R357). -/
  | recal (l : Nat) (v : Word)
  /-- AUTO_RECAL_TURN (R357). -/
  | autoRecalTurn (l : Nat)
  /-- RECAL_ADAPT_DONE (R357). -/
  | recalAdaptDone (l : Nat) (ok : Bool)
  /-- NO_FRAME_TIMEOUT (R359). -/
  | noFrameTimeout (l : Nat)
  /-- FL_RETRAIN (R359). -/
  | flRetrain (l : Nat) (v : Word)
  /-- ACCEPT (R351). -/
  | accept (l : Nat) (v : Word)
  /-- NBR_EXPECT_WRITE (R351). -/
  | nbrExpectWrite (l : Nat) (v : Word)
  /-- FT_RD (R371). -/
  | ftRd (l : Nat) (q : Pkt) (es : List MemErr) (waiting top : Nat)
  /-- FT_WR_STAGED (R375). -/
  | ftWrStaged (l : Nat) (q : Pkt) (es : List MemErr) (waiting top : Nat)
  /-- FT_ADD_F32 (R375). -/
  | ftAddF32 (l : Nat) (q : Pkt) (es : List MemErr) (waiting top : Nat)
  /-- FT_ADD_I64 (R375). -/
  | ftAddI64 (l : Nat) (q : Pkt) (es : List MemErr) (waiting top : Nat)
  /-- FT_MAX_F32 (R375). -/
  | ftMaxF32 (l : Nat) (q : Pkt) (es : List MemErr) (waiting top : Nat)
  /-- FT_FENCE (R374). -/
  | ftFence (l : Nat) (q : Pkt)
  /-- FT_NOTICE (R377). -/
  | ftNotice (l : Nat) (q : Pkt)
  /-- FT_RD_RSP (R369). -/
  | ftRdRsp (l : Nat) (q : Pkt)
  /-- FT_STAGED_ACK (R369). -/
  | ftStagedAck (l : Nat) (q : Pkt)
  /-- FT_HOLD (R370). -/
  | ftHold (l : Nat) (q : Pkt)
  /-- FT_FENCE_ACK (R374). -/
  | ftFenceAck (l : Nat) (q : Pkt)
  /-- FT_NOTICE_ACK (R377). -/
  | ftNoticeAck (l : Nat) (q : Pkt)
  /-- FT_MSG_TILE (R383). -/
  | ftMsgTile (l : Nat) (q : Pkt)
  /-- FT_MSG_MARK (R384). -/
  | ftMsgMark (l : Nat) (q : Pkt)
  /-- FT_MSG_BUNDLE (R384). -/
  | ftMsgBundle (l : Nat) (q : Pkt)
  /-- FT_MSG_ACK (R383). -/
  | ftMsgAck (l : Nat) (q : Pkt)
  /-- FABRIC_READY (R295). -/
  | fabricReady (l : Nat) (q : Pkt)
  /-- SWAP_READY_MSG (R242). -/
  | swapReadyMsg (l : Nat) (q : Pkt)
  /-- MGMT_RD (R385). -/
  | mgmtRd (l : Nat) (q : Pkt)
  /-- MGMT_WR (R385). -/
  | mgmtWr (l : Nat) (q : Pkt)
  /-- MGMT_RSP (R431). -/
  | mgmtRsp (l : Nat) (q : Pkt)
  /-- REQ_TIMEOUT_EXPIRY (R370). -/
  | reqTimeoutExpiry (p slot : Nat)
  /-- HOLD_TIMER_EXPIRY (R370). -/
  | holdTimerExpiry (k : Nat)
  /-- NOTICE_RETRY_EXPIRY (R377). -/
  | noticeRetryExpiry (k : Nat)
  /-- CB_TIMEOUT_EXPIRY (R379). -/
  | cbTimeoutExpiry (src tg step run : Nat)
  /-- COMBINE_WINDOW_CLOSE (R382). -/
  | combineWindowClose (k : Nat)
  /-- HOT_QUEUE_RELEASE (R381). -/
  | hotQueueRelease (half line : Nat)
  /-- IMP_VALID_WRITE (R387). -/
  | impValidWrite (k : Nat) (v : Word)
  /-- ROUTE_FAULT (R401). -/
  | routeFault (l : Nat)
  /-- PACKET_FORWARD (R393). -/
  | packetForward (l vc : Nat) (q : Pkt)
  /-- LOST_DELAY_EXPIRY (R404). -/
  | lostDelayExpiry (x : Nat)
  /-- LOST_SET (R404). -/
  | lostSet (k : Nat) (v : Word)
  /-- LOST_CLEAR (R404). -/
  | lostClear (k : Nat) (v : Word)
  /-- JOIN (R410). -/
  | join (k : Nat) (v : Word)
  /-- LEAVE (R410). -/
  | leave (k : Nat) (v : Word)
  /-- RT_ENTRY_WRITE (R413). -/
  | rtEntryWrite (k off : Nat) (v : Word)
  /-- PSET_WRITE (R413). -/
  | psetWrite (k w : Nat) (v : Word)
  /-- TG_VALID_WRITE (R413). -/
  | tgValidWrite (k : Nat) (v : Word)
  /-- DOMAIN_CFG_WRITE (R413). -/
  | domainCfgWrite (k : Nat) (v : Word)
  /-- HELLO (R421). -/
  | hello (d : Setup)
  /-- FINISH (R421): how it came, its header, ct_s, and CONFIRM with its tag. -/
  | finish (via : Via) (header ct confirm : List Byte)
  /-- SETUP_TIMEOUT (R423). -/
  | setupTimeout (i : Nat)
  /-- GCT_CLOSE (R429). -/
  | gctClose (i : Nat)
  /-- ACK_ONLY (R426). -/
  | ackOnly (d : Dgram)
  /-- SEGMENT_RX (R426). -/
  | segmentRx (d : Dgram) (es : List MemErr)
  /-- RTO_EXPIRY (R427). -/
  | rtoExpiry (i : Nat)
  /-- ACK_DELAY_EXPIRY (R426). -/
  | ackDelayExpiry (i : Nat)
  /-- SESSION_IDLE_EXPIRY (R429). -/
  | sessionIdleExpiry (i : Nat)
  /-- REG_ACCESS (R430). -/
  | regAccess (session id : Nat) (body : List Byte)
  /-- DP_WRITE (R432). -/
  | dpWrite (session id : Nat) (body : List Byte) (es : List MemErr)
  /-- DP_READ (R432). -/
  | dpRead (session id : Nat) (body : List Byte) (es : List MemErr)
  /-- EVT_SUB (R434). -/
  | evtSub (session id : Nat) (body : List Byte)
  /-- GET_CERTS (R484). -/
  | getCerts (session id : Nat) (body : List Byte)
  /-- GET_EVIDENCE (R485). -/
  | getEvidence (session id : Nat) (body : List Byte)
  /-- HEARTBEAT (R513). -/
  | heartbeat (session id : Nat) (body : List Byte)
  /-- SESS_CLOSE (R441). -/
  | sessClose (k : Nat) (v : Word)
  /-- SESS_MOVE (R441). -/
  | sessMove (k : Nat) (v : Word)
  /-- SA_LOAD (R443). -/
  | saLoad (k : Nat) (keys : Bool) (v : Word)
  /-- ENET_LINK_CHANGE (R415). -/
  | enetLinkChange (k speed : Nat)
  /-- PTP_MESSAGE (R438). -/
  | ptpMessage (via : PtpVia) (kind master value : Nat)
  /-- SYNC_LOSS_EXPIRY (R439). -/
  | syncLossExpiry (net : Nat)
  /-- TOD_ARM (R439). -/
  | todArm (v : Word)
  /-- PPS_IN_EDGE (R539). -/
  | ppsInEdge
  /-- PPS_OUT_PULSE (R539). -/
  | ppsOutPulse
  /-- PWR_GOOD_RISE (R445). -/
  | pwrGoodRise
  /-- PWR_GOOD_FALL (R534). -/
  | pwrGoodFall
  /-- PKG_RESET_ASSERT (R534). -/
  | pkgResetAssert
  /-- PKG_RESET_RELEASE (R462). -/
  | pkgResetRelease
  /-- BOOT_STAGE_DONE (R462). -/
  | bootStageDone (failed : List Nat)
  /-- BOOT_STAGE_TIMEOUT (R463). -/
  | bootStageTimeout (failed : List Nat)
  /-- WARM_RESET (R447). -/
  | warmReset (v : Word)
  /-- WATCHDOG_EXPIRY (R445). -/
  | watchdogExpiry (k : Nat)
  /-- CRITICAL_UNCORR (R453). -/
  | criticalUncorr (p kind loc : Nat)
  /-- OPT_COMMIT (R461). -/
  | optCommit (v : Word)
  /-- OPT_COMMIT_DONE (R461). -/
  | optCommitDone (ok : Bool)
  /-- SVN_COMMIT (R476). -/
  | svnCommit (co : Bool) (v : Word)
  /-- REVOKE (R478). -/
  | revoke (co : Bool) (v : Word)
  /-- AK_LOAD (R480). -/
  | akLoad (co : Bool) (v : Word)
  /-- AK_CLEAR (R480). -/
  | akClear (co : Bool) (v : Word)
  /-- FW_VERIFY (R488). -/
  | fwVerify (co : Bool) (v : Word)
  /-- FW_VERIFY_DONE (R488). -/
  | fwVerifyDone
  /-- FW_APPLY (R489). -/
  | fwApply (co : Bool) (v : Word)
  /-- CPROC_READY_TIMEOUT (R489). -/
  | cprocReadyTimeout (k : Nat)
  /-- UCODE_LOAD (R490). -/
  | ucodeLoad (g : Nat)
  /-- UCODE_IDLE_EXPIRY (R490). -/
  | ucodeIdleExpiry (g : Nat)
  /-- FW_PERSIST (R491). -/
  | fwPersist (co : Bool) (v : Word)
  /-- FW_PERSIST_DONE (R491). -/
  | fwPersistDone (ok : Bool)
  /-- ZEROIZE (R493). -/
  | zeroize (co : Bool) (v : Word)
  /-- DECOMMISSION (R494). -/
  | decommission (co : Bool) (v : Word)
  /-- RTU_HEALTH_FAIL (R470). -/
  | rtuHealthFail (cause : Nat)
  /-- VIN_LOW (R498). -/
  | vinLow
  /-- BROWN_OUT (R507). -/
  | brownOut
  /-- BROWNOUT_RECOVER (R508). -/
  | brownoutRecover
  /-- BROWNOUT_TIMEOUT (R508). -/
  | brownoutTimeout
  /-- VIN_UNDERVOLTAGE (R508). -/
  | vinUndervoltage
  /-- REFCLK_LOSS (R532). -/
  | refclkLoss
  /-- CAP_TICK: one sample of the input power in W (R503). -/
  | capTick (power : Nat)
  /-- PWR_ALERT (R505). -/
  | pwrAlert
  /-- PWR_ALERT_RELEASE (R506). -/
  | pwrAlertRelease
  /-- ALERT_HOLD_EXPIRY (R506). -/
  | alertHoldExpiry
  /-- V_SET_WRITE (R500). -/
  | vSetWrite (k : Nat) (v : Word)
  /-- THERM_SAMPLE (R511). -/
  | thermSample (temps : List Nat)
  /-- THERM_TRIP (R512). -/
  | thermTrip (sensor : Nat)
  /-- HB_TIMEOUT_EXPIRY (R513). -/
  | hbTimeoutExpiry
  /-- ORPHAN_EXPIRY (R515). -/
  | orphanExpiry
  /-- I3C_ADDR_ASSIGN (R538). -/
  | i3cAddrAssign (addr : Nat)
  /-- PLDM_REQUEST (R538). -/
  | pldmRequest (bytes : List Byte)
  /-- PLDM_SENSOR_UPDATE (R538). -/
  | pldmSensorUpdate
  /-- CPROC_READY (R489). -/
  | cprocReady (k : Nat)
  /-- GMEM_RETRAIN_DONE (R519). -/
  | gmemRetrainDone (k : Nat) (ok : Bool)
  /-- BT_LINK_UP (R204). -/
  | btLinkUp (k d speed width : Nat)
  /-- LOAD_VERIFY_DONE (R235). -/
  | loadVerifyDone (u : Nat)
  /-- PROGRAM_CHECK_DONE (R257). -/
  | programCheckDone (g : Nat)
  /-- TABLE_CHECK_DONE (R224). -/
  | tableCheckDone (u : Nat)
  /-- PLAN_CHECK_DONE (R289). -/
  | planCheckDone (k g : Nat)
  /-- FUSE_BLOW_DONE (R476). -/
  | fuseBlowDone (ok : Bool)
  /-- KEY_STORE_WRITE_DONE (R480). -/
  | keyStoreWriteDone (ok : Bool)
  /-- EVIDENCE_SIGNED (R485). -/
  | evidenceSigned
  /-- VIN_OPERATING_RANGE (R498). -/
  | vinOperatingRange
  /-- CXL_DEVICE_EVENT (R205). -/
  | cxlDeviceEvent (k d : Nat)
  deriving DecidableEq, Repr

end Sys2Proof
end

