-- ==== Sys2Proof/WellFormed.lean ====
section
/-! DEFINITION. Well-formed commands: every operand lies in the range that the spec gives it. A command with a unit number out of
range has no effect (log entry 29); the other ranges bound what a message, a packet or an event can carry. -/

namespace Sys2Proof

/-- A number below a bound. -/
def below (n x : Nat) : Bool := decide (x < n)
/-- A page index (R46). -/
def pageOk (p : Nat) : Bool := below (2 ^ 20) p
/-- A register offset (R46). -/
def offOk (off : Nat) : Bool := below 4096 off
/-- A tile group (R36). -/
def groupOk (g : Nat) : Bool := below 8 g
/-- A link (R35). -/
def linkOk (l : Nat) : Bool := below 24 l
/-- A tile position (R27). -/
def posOk (k : Nat) : Bool := below 288 k
/-- A session index (R421). -/
def sessOk (i : Nat) : Bool := below 4096 i
/-- The body of a GCT message: at most 4 MiB and 64 bytes (R419). -/
def bodyOk (b : List Byte) : Bool := decide (b.length ≤ 4 * 2 ^ 20 + 64)

/-- The fields of a transaction fit the header of R366, and its payload a link packet (R344). -/
def Pkt.wf (p : Pkt) : Bool :=
  below 256 p.op && below 8 p.srcDom && below 8 p.dstDom && below 128 p.dstPkg && below 128 p.srcPkg && below 65536 p.job
  && below 64 p.part && below 256 p.status && below (2 ^ 32) p.step && below 65536 p.gen && below 8 p.srcTg && below 16 p.run
  && below 8 p.dstTg && below 4096 p.unit && below 65536 p.tag && below 65536 p.cmd && below 65536 p.count && below (2 ^ 64) p.addr
  && below (2 ^ 32) p.index && below 8192 p.len && below (2 ^ 80) p.ext && decide (p.pay.length ≤ 4556)
/-- A device error: at most 9 attempts (R192). -/
def MemErr.wf : MemErr → Bool
  | .crc _ n => below 10 n
  | .corrected _ | .severe _ | .cacheCorr _ | .cacheDouble _ | .cxlPoison _ | .cxlRecovery _ => true
/-- How a datagram came (R415, R416). -/
def Via.wf (v : Via) : Bool := below 8 v.port && (match v.guard with | some a => below 2 a | none => true) && match v.form with
  | .ip6 u | .ip4 u => below 65536 u
  | .raw => true
/-- A setup datagram (R417, R421). -/
def Setup.wf (d : Setup) : Bool := d.via.wf && d.header.length == 40 && decide (d.body.length ≤ 9216)
/-- A datagram of a session (R418). -/
def Dgram.wf (d : Dgram) : Bool := d.via.wf && d.header.length == 40 && decide (d.body.length ≤ 9216)

/-- The operands of a command are in range. -/
def Instr.wf : Instr → Bool
  | .regWrite _ _ p off _ => pageOk p && offOk off
  | .halt p _ => pageOk p
  | .drain p _ => pageOk p
  | .kill p _ => pageOk p
  | .resume p _ => pageOk p
  | .evtStatClear p _ _ => pageOk p
  | .evtMaskWrite p _ => pageOk p
  | .errInfoClear p _ err => pageOk p && err.all fun x => below 256 x.1 && below 16 x.2.1 && below (2 ^ 32) x.2.2
  | .unitReset p _ => pageOk p
  | .isolate p _ => pageOk p
  | .release p _ => pageOk p
  | .selftestStart p _ => pageOk p
  | .selftestDone p _ detail => pageOk p && below 256 detail
  | .tgIslandsWrite g _ => groupOk g
  | .bind p _ => pageOk p
  | .unbind p _ => pageOk p
  | .tileError pos code loc => posOk pos && decide (1 ≤ code) && below 7 code && below (2 ^ 32) loc
  | .tileRetire p _ => pageOk p
  | .qTailWrite p q _ => pageOk p && below 4 q
  | .qCplHeadWrite p q _ => pageOk p && below 4 q
  | .qEnableWrite p q _ => pageOk p && below 4 q
  | .tileApply p _ => pageOk p
  | .cmdStart p => pageOk p
  | .cmdComplete p q idx => pageOk p && below 4 q && below 65536 idx
  | .killComplete p => pageOk p
  | .meshHopCrcFail pos port => posOk pos && below 4 port
  | .meshArrival p step gen peer off _ => pageOk p && below (2 ^ 32) step && below 65536 gen && posOk peer && below (2 ^ 27) off
  | .scrub pos bad => posOk pos && below 3 bad
  | .null p => pageOk p
  | .syncWait p => pageOk p
  | .syncSignal p => pageOk p
  | .syncBarrier p => pageOk p
  | .syncFence p => pageOk p
  | .syncTimeout p op => pageOk p && (op == 0 || op == 2)
  | .haloCheck p => pageOk p
  | .haloFlush p => pageOk p
  | .haloClear p => pageOk p
  | .mmaDense p => pageOk p
  | .mmaGrouped p => pageOk p
  | .attn p => pageOk p
  | .vecAdd p => pageOk p
  | .vecMul p => pageOk p
  | .vecFma p => pageOk p
  | .vecAxpb p => pageOk p
  | .vecRmsnorm p => pageOk p
  | .vecLayernorm p => pageOk p
  | .vecSoftmax p => pageOk p
  | .vecSiluMul p => pageOk p
  | .vecGelu p => pageOk p
  | .vecRope p => pageOk p
  | .vecExp2 p => pageOk p
  | .vecLog2 p => pageOk p
  | .vecRecip p => pageOk p
  | .vecRsqrt p => pageOk p
  | .vecTanh p => pageOk p
  | .vecRowsum p => pageOk p
  | .vecRowmax p => pageOk p
  | .vecTopk p => pageOk p
  | .vecCast p => pageOk p
  | .vecAdamw p => pageOk p
  | .qntQuant p => pageOk p
  | .qntDequant p => pageOk p
  | .sample p => pageOk p
  | .movCopy p => pageOk p
  | .movLoad p es => pageOk p && es.all MemErr.wf
  | .movStore p es => pageOk p && es.all MemErr.wf
  | .movMeshPut p => pageOk p
  | .movBcast p => pageOk p
  | .movFill p => pageOk p
  | .fetchSingle p => pageOk p
  | .fetchList p => pageOk p
  | .exchPut p => pageOk p
  | .exchAddF32 p => pageOk p
  | .exchAddI64 p => pageOk p
  | .exchMaxF32 p => pageOk p
  | .exchSend p => pageOk p
  | .tmma p => pageOk p
  | .tgrad p => pageOk p
  | .haloEvaluate g => groupOk g
  | .haloLogPop g _ => groupOk g
  | .haloWpWrite g off _ => groupOk g && decide (0x110 ≤ off) && below 0x138 off
  | .rcpModeWrite g off _ => groupOk g && off == 0x148
  | .gmemCopy k _ => below 20 k
  | .gmemReturn k _ => below 20 k
  | .gmemRelocDone k => below 20 k
  | .mcFlushStart k _ => below 2 k
  | .mcFlushDone k => below 2 k
  | .btLinkDown k d => below 2 k && below 2 d
  | .btRetrain k _ => below 2 k
  | .poolApply g _ => groupOk g
  | .poolApplyDone g => groupOk g
  | .evictWaitExpiry g => groupOk g
  | .evictStart g => groupOk g
  | .poolMoveDone g h => groupOk g && below (2 ^ 24) h
  | .poolAge g => groupOk g
  | .poolReqTailWrite g _ => groupOk g
  | .poolCplHeadWrite g _ => groupOk g
  | .park g i => groupOk g && below 65536 i
  | .promote g i => groupOk g && below 65536 i
  | .drop g i => groupOk g && below 65536 i
  | .fork g i => groupOk g && below 65536 i
  | .setQuota g i => groupOk g && below 65536 i
  | .querySeq g i => groupOk g && below 65536 i
  | .queryCust g i => groupOk g && below 65536 i
  | .udTableCheck k _ => below 8 k
  | .udEnableWrite k _ => below 8 k
  | .useArm g => groupOk g
  | .fillEntry u layer e es => below 8 u && below 1024 layer && below 65536 e && es.all MemErr.wf
  | .loadStart k _ => below 8 k
  | .pullData session id status body es => sessOk session && below (2 ^ 32) id && below 256 status && bodyOk body && es.all MemErr.wf
  | .pullTimeoutExpiry u c => below 8 u && below (2 ^ 24) c
  | .loadResume k _ => below 8 k
  | .loadAbort k _ => below 8 k
  | .swapPrepare k _ => below 8 k
  | .swapCommit k _ => below 8 k
  | .swapCancel k _ => below 8 k
  | .swapCopyChunk u es => below 8 u && es.all MemErr.wf
  | .grant session id body => sessOk session && below (2 ^ 32) id && bodyOk body
  | .programCheck g _ => groupOk g
  | .stepOpen g => groupOk g
  | .gapWaitExpiry g => groupOk g
  | .sliceEnd g => groupOk g
  | .sectionDispatch g => groupOk g
  | .layerGo g _ => groupOk g
  | .stepCommit g => groupOk g
  | .stepKillResolve g => groupOk g
  | .abortStep g _ => groupOk g
  | .isolationLimitExpiry g => groupOk g
  | .expertFetch k g idx => below 2 k && groupOk g && below 65536 idx
  | .combine k g idx => below 2 k && groupOk g && below 65536 idx
  | .dispatch k g idx => below 2 k && groupOk g && below 65536 idx
  | .returnJob k g idx => below 2 k && groupOk g && below 65536 idx
  | .allReduce k g idx => below 2 k && groupOk g && below 65536 idx
  | .reduceScatter k g idx => below 2 k && groupOk g && below 65536 idx
  | .allGather k g idx => below 2 k && groupOk g && below 65536 idx
  | .sqJobComplete k g idx => below 2 k && groupOk g && below 65536 idx
  | .sqJobTimeout k g idx => below 2 k && groupOk g && below 65536 idx
  | .planCheck k _ => below 2 k
  | .seqOpen session id body => sessOk session && below (2 ^ 32) id && bodyOk body
  | .seqPrompt session id body => sessOk session && below (2 ^ 32) id && bodyOk body
  | .seqBind session id body => sessOk session && below (2 ^ 32) id && bodyOk body
  | .seqClose session id body => sessOk session && below (2 ^ 32) id && bodyOk body
  | .seqSubscribe session id body => sessOk session && below (2 ^ 32) id && bodyOk body
  | .seqAck session id body => sessOk session && below (2 ^ 32) id && bodyOk body
  | .seqQuery session id body => sessOk session && below (2 ^ 32) id && bodyOk body
  | .keepaliveExpiry i => below 8192 i
  | .bkBalanceWrite k _ => below 2 k
  | .bkCredit k _ => below 2 k
  | .adInstall k _ => below 2 k
  | .adInstallDone k => below 4096 k
  | .adRetire k _ => below 2 k
  | .ctEnableWrite k _ => below 2 k
  | .flEnableWrite l _ => linkOk l
  | .linkDetect l lanes => linkOk l && below 512 lanes
  | .linkRxReady l lanes => linkOk l && below 512 lanes
  | .linkAlignDone l words => linkOk l && decide (words.length ≤ 9) && words.all (below (2 ^ 40))
  | .trainingTimeout l => linkOk l
  | .linkDownWaitExpiry l => linkOk l
  | .frameRx l _ msg corr => linkOk l && msg.length == 1285 && decide (corr.length ≤ 9)
  | .replayReq l fseq => linkOk l && below 1024 fseq
  | .ackStallExpiry l => linkOk l
  | .ident l fields => linkOk l && fields.all (below 256)
  | .identAck l verdict rev => linkOk l && below 256 verdict && below 256 rev
  | .identResendExpiry l => linkOk l
  | .mirror l lane => linkOk l && below 8 lane
  | .mirrorOn l lane fseq => linkOk l && below 8 lane && below 1024 fseq
  | .steered l lane phys => linkOk l && below 8 lane && below 9 phys
  | .laneRelease l phys => linkOk l && below 9 phys
  | .eqReq l phys preset => linkOk l && below 9 phys && below 16 preset
  | .eqSet l phys preset => linkOk l && below 9 phys && below 16 preset
  | .laneFail l lane => linkOk l && below 8 lane
  | .recal l _ => linkOk l
  | .autoRecalTurn l => linkOk l
  | .recalAdaptDone l _ => linkOk l
  | .noFrameTimeout l => linkOk l
  | .flRetrain l _ => linkOk l
  | .accept l _ => linkOk l
  | .nbrExpectWrite l _ => linkOk l
  | .ftRd l q es _ top => linkOk l && q.wf && es.all MemErr.wf && below 128 top
  | .ftWrStaged l q es _ top => linkOk l && q.wf && es.all MemErr.wf && below 128 top
  | .ftAddF32 l q es _ top => linkOk l && q.wf && es.all MemErr.wf && below 128 top
  | .ftAddI64 l q es _ top => linkOk l && q.wf && es.all MemErr.wf && below 128 top
  | .ftMaxF32 l q es _ top => linkOk l && q.wf && es.all MemErr.wf && below 128 top
  | .ftFence l q => linkOk l && q.wf
  | .ftNotice l q => linkOk l && q.wf
  | .ftRdRsp l q => linkOk l && q.wf
  | .ftStagedAck l q => linkOk l && q.wf
  | .ftHold l q => linkOk l && q.wf
  | .ftFenceAck l q => linkOk l && q.wf
  | .ftNoticeAck l q => linkOk l && q.wf
  | .ftMsgTile l q => linkOk l && q.wf
  | .ftMsgMark l q => linkOk l && q.wf
  | .ftMsgBundle l q => linkOk l && q.wf
  | .ftMsgAck l q => linkOk l && q.wf
  | .fabricReady l q => linkOk l && q.wf
  | .swapReadyMsg l q => linkOk l && q.wf
  | .mgmtRd l q => linkOk l && q.wf
  | .mgmtWr l q => linkOk l && q.wf
  | .mgmtRsp l q => linkOk l && q.wf
  | .reqTimeoutExpiry p slot => pageOk p && below 512 slot
  | .holdTimerExpiry _ => true
  | .noticeRetryExpiry _ => true
  | .cbTimeoutExpiry src tg step run => below 128 src && groupOk tg && below (2 ^ 32) step && below 16 run
  | .combineWindowClose _ => true
  | .hotQueueRelease half line => below 2 half && below (2 ^ 37) line
  | .impValidWrite k _ => below 2 k
  | .routeFault l => linkOk l
  | .packetForward l vc q => linkOk l && below 5 vc && q.wf
  | .lostDelayExpiry x => below 128 x
  | .lostSet k _ => below 2 k
  | .lostClear k _ => below 2 k
  | .join k _ => below 64 k
  | .leave k _ => below 64 k
  | .rtEntryWrite k off _ => below 2 k && offOk off
  | .psetWrite k w _ => below 2 k && below 4 w
  | .tgValidWrite k _ => below 2 k
  | .domainCfgWrite k _ => below 2 k
  | .hello d => d.wf
  | .finish via header ct confirm => via.wf && header.length == 40 && ct.length == 1568 && confirm.length == 32
  | .setupTimeout i => below 4096 i
  | .gctClose i => below 4096 i
  | .ackOnly d => d.wf
  | .segmentRx d es => d.wf && es.all MemErr.wf
  | .rtoExpiry i => below 4096 i
  | .ackDelayExpiry i => below 4096 i
  | .sessionIdleExpiry i => below 4096 i
  | .regAccess session id body => sessOk session && below (2 ^ 32) id && bodyOk body
  | .dpWrite session id body es => sessOk session && below (2 ^ 32) id && bodyOk body && es.all MemErr.wf
  | .dpRead session id body es => sessOk session && below (2 ^ 32) id && bodyOk body && es.all MemErr.wf
  | .evtSub session id body => sessOk session && below (2 ^ 32) id && bodyOk body
  | .getCerts session id body => sessOk session && below (2 ^ 32) id && bodyOk body
  | .getEvidence session id body => sessOk session && below (2 ^ 32) id && bodyOk body
  | .heartbeat session id body => sessOk session && below (2 ^ 32) id && bodyOk body
  | .sessClose k _ => below 2 k
  | .sessMove k _ => below 2 k
  | .saLoad k _ _ => below 8 k
  | .enetLinkChange k speed => below 8 k && below 3 speed
  | .ptpMessage via kind master value =>
    below 8 via.port && below 3 via.transport && below 256 via.domain && (match via.guard with | some a => below 2 a | none => true)
      && below 65536 via.bytes && below 16 kind && below (2 ^ 64) master && below (2 ^ 64) value
  | .syncLossExpiry net => below 2 net
  | .todArm _ => true
  | .ppsInEdge => true
  | .ppsOutPulse => true
  | .pwrGoodRise => true
  | .pwrGoodFall => true
  | .pkgResetAssert => true
  | .pkgResetRelease => true
  | .bootStageDone failed => failed.all pageOk
  | .bootStageTimeout failed => failed.all pageOk
  | .warmReset _ => true
  | .watchdogExpiry k => below 8 k
  | .criticalUncorr p kind loc => pageOk p && below 256 kind && below (2 ^ 32) loc
  | .optCommit _ => true
  | .optCommitDone _ => true
  | .svnCommit _ _ => true
  | .revoke _ _ => true
  | .akLoad _ _ => true
  | .akClear _ _ => true
  | .fwVerify _ _ => true
  | .fwVerifyDone => true
  | .fwApply _ _ => true
  | .cprocReadyTimeout k => below 8 k
  | .ucodeLoad g => groupOk g
  | .ucodeIdleExpiry g => groupOk g
  | .fwPersist _ _ => true
  | .fwPersistDone _ => true
  | .zeroize _ _ => true
  | .decommission _ _ => true
  | .rtuHealthFail cause => below 256 cause
  | .vinLow => true
  | .brownOut => true
  | .brownoutRecover => true
  | .brownoutTimeout => true
  | .vinUndervoltage => true
  | .refclkLoss => true
  | .capTick power => below 65536 power
  | .pwrAlert => true
  | .pwrAlertRelease => true
  | .alertHoldExpiry => true
  | .vSetWrite k _ => below 24 k
  | .thermSample temps => temps.length == 26
  | .thermTrip sensor => below 26 sensor
  | .hbTimeoutExpiry => true
  | .orphanExpiry => true
  | .i3cAddrAssign addr => below 128 addr
  | .pldmRequest bytes => decide (bytes.length ≤ 65535)
  | .pldmSensorUpdate => true
  | .cprocReady k => below 8 k
  | .gmemRetrainDone k _ => below 20 k
  | .btLinkUp k d speed width => below 2 k && below 2 d && below 3 speed && below 17 width
  | .loadVerifyDone u => below 8 u
  | .programCheckDone g => groupOk g
  | .tableCheckDone u => below 8 u
  | .planCheckDone k g => below 2 k && groupOk g
  | .fuseBlowDone _ => true
  | .keyStoreWriteDone _ => true
  | .evidenceSigned => true
  | .vinOperatingRange => true
  | .cxlDeviceEvent k d => below 2 k && below 2 d

end Sys2Proof
end

