-- ==== Sys2Proof/Config.lean ====
section
/-! DEFINITION. What the spec leaves to an implementation or to an outside standard: constants without a body, so that no
proof can see a value of them (log entries 2, 3 and 4). -/

namespace Sys2Proof.Config

/-- Which of the results that the bound of an operation allows (R171, R172, R173, R178, R548) the hardware gives. The first
argument names the operation, the list its operands: R144 makes the choice depend on nothing else (log entry 2). -/
opaque boundChoice : Nat → List Nat → Nat

/-- The bytes that SHAKE256 gives for a message (FIPS 202), at the stated length (log entry 3). -/
opaque shake256 : List Byte → Nat → List Byte

/-- SLH-DSA-SHAKE-256s verification of a message under a key (FIPS 205): key, message, signature (log entry 3). -/
opaque slhVerify : List Byte → List Byte → List Byte → Bool

/-- The SLH-DSA-SHAKE-256s signature of a message by the device's key of the given number (log entry 3). -/
opaque slhSign : Nat → List Byte → List Byte

/-- ML-KEM-1024 with the device's KEM key: the shared secret that a ciphertext decapsulates to (FIPS 203, log entry 3). -/
opaque mlkemDecaps : List Byte → List Byte

/-- ML-KEM-1024 encapsulation to a key under randomness: the ciphertext of 1,568 bytes and the shared secret of 32 (FIPS 203, log
entry 3). -/
opaque mlkemEncaps : List Byte → List Byte → List Byte × List Byte

/-- The encapsulation key of the device's KEM key pair, ek_s (R421, log entry 4). -/
opaque kemKey : List Byte

/-- AES-256-GCM: key, nonce, associated data, plaintext; the ciphertext followed by its tag (log entry 3). -/
opaque gcmSeal : List Byte → List Byte → List Byte → List Byte → List Byte

/-- The output of the RTU's entropy source for its n-th request (log entry 4). -/
opaque entropy : Nat → List Byte

/-- A free value: the spec leaves it undefined, and the machine goes on (log entry 4). The argument is a count that the
step takes from State.free and advances. -/
opaque freeValue : Nat → Nat

/-- A value that only the hardware's device or a figure outside the spec can give (a measured voltage, a sensor, a
certificate byte), named by a kind and a place (log entry 4). -/
opaque deviceValue : Nat → Nat → Nat

/-- The public key of the device identity key (R481, log entry 4). -/
opaque identityKey : List Byte

/-- The public key that an X.509 v3 certificate certifies (R481, log entry 3). -/
opaque certifiedKey : List Byte → List Byte

/-- The set of a memory-side cache half, below 32,768, in which a line may lie: the spec gives the number of sets and no
index function (R197, log entry 7). -/
opaque cacheSet : Nat → Nat

end Sys2Proof.Config
end

