-- ==== Sys2Proof/Machine/Table.lean ====
section
/-! DEFINITION. Sparse tables: sorted lists of (key, value) pairs in which a key that is not listed has a default
value. They hold the register file, the package memory and every indexed table of the machine. -/

namespace Sys2Proof.Machine

/-- The value listed for a key, if any. -/
def tblFind {α : Type} (k : Nat) : List (Nat × α) → Option α
  | [] => none
  | (j, v) :: t => if j = k then some v else tblFind k t

/-- The value of a key: the one listed, or the default of the key. -/
def tblGet {α : Type} (d : Nat → α) (m : List (Nat × α)) (k : Nat) : α :=
  match tblFind k m with
  | some v => v
  | none => d k

/-- The table without a key. -/
def tblErase {α : Type} (k : Nat) : List (Nat × α) → List (Nat × α)
  | [] => []
  | (j, v) :: t => if j = k then tblErase k t else (j, v) :: tblErase k t

/-- The table with a key put in its place in rising order. -/
def tblInsert {α : Type} (k : Nat) (v : α) : List (Nat × α) → List (Nat × α)
  | [] => [(k, v)]
  | (j, w) :: t => if k < j then (k, v) :: (j, w) :: t else (j, w) :: tblInsert k v t

/-- Give a key a value. A value equal to the key's default is not listed. -/
def tblSet {α : Type} [DecidableEq α] (d : Nat → α) (m : List (Nat × α)) (k : Nat) (v : α) :
    List (Nat × α) :=
  if v = d k then tblErase k m else tblInsert k v (tblErase k m)

/-- The canonical form: keys strictly rising and no entry equal to its default. -/
def tblWf {α : Type} [DecidableEq α] (d : Nat → α) : List (Nat × α) → Bool
  | [] => true
  | [(k, v)] => decide (v ≠ d k)
  | (k, v) :: (j, w) :: t => decide (v ≠ d k) && decide (k < j) && tblWf d ((j, w) :: t)

/-- The element of a list at an index, or a default past its end. -/
def nth {α : Type} (d : α) : List α → Nat → α
  | [], _ => d
  | x :: _, 0 => x
  | _ :: t, n + 1 => nth d t n

/-- The list with its element at an index replaced; unchanged past its end. -/
def setNth {α : Type} (x : α) : List α → Nat → List α
  | [], _ => []
  | _ :: t, 0 => x :: t
  | y :: t, n + 1 => y :: setNth x t n

end Sys2Proof.Machine
end

