-- ==== Sys2Proof/Machine/Num.lean ====
section
/-! DEFINITION. Exact numbers, the element encodings of R145, rounding (R148), the block products of R154 and R155 and the
quantisation of R156 to R162. -/

namespace Sys2Proof.Machine

/-- An exact rational number: an integer over a positive natural number. -/
structure Q where
  n : Int
  d : Nat
  deriving DecidableEq, Repr

/-- The rational of an integer. -/
def Q.ofInt (n : Int) : Q := ⟨n, 1⟩
/-- 2 to an integer power. -/
def Q.pow2 (e : Int) : Q := if 0 ≤ e then ⟨2 ^ e.toNat, 1⟩ else ⟨1, 2 ^ (-e).toNat⟩
/-- Sum. -/
def Q.add (a b : Q) : Q := if a.d = b.d then ⟨a.n + b.n, a.d⟩ else ⟨a.n * b.d + b.n * a.d, a.d * b.d⟩
/-- Negation. -/
def Q.neg (a : Q) : Q := ⟨-a.n, a.d⟩
/-- Difference. -/
def Q.sub (a b : Q) : Q := a.add b.neg
/-- Product. -/
def Q.mul (a b : Q) : Q := ⟨a.n * b.n, a.d * b.d⟩
/-- Quotient; a zero divisor, which no caller passes, gives 0. -/
def Q.div (a b : Q) : Q :=
  if b.n = 0 then ⟨0, 1⟩ else ⟨a.n * b.d * b.n.sign, a.d * b.n.natAbs⟩
/-- Magnitude. -/
def Q.abs (a : Q) : Q := ⟨a.n.natAbs, a.d⟩
/-- Less than. -/
def Q.lt (a b : Q) : Bool := decide (a.n * b.d < b.n * a.d)
/-- At most. -/
def Q.le (a b : Q) : Bool := decide (a.n * b.d ≤ b.n * a.d)
/-- Equal as numbers. -/
def Q.eq (a b : Q) : Bool := decide (a.n * b.d = b.n * a.d)

/-- A datum read from an encoding: NaN, an infinity, or a finite number with its sign (which matters for zeros only). -/
inductive Fv where
  | nan
  | inf (neg : Bool)
  | fin (neg : Bool) (q : Q)
  deriving DecidableEq, Repr

/-- A finite value with the sign of the number itself. -/
def Fv.ofQ (q : Q) : Fv := .fin (decide (q.n < 0)) q
/-- Positive zero. -/
def Fv.zero : Fv := .fin false ⟨0, 1⟩
/-- The value is finite. -/
def Fv.isFin : Fv → Bool | .fin _ _ => true | _ => false
/-- The value is a NaN. -/
def Fv.isNan : Fv → Bool | .nan => true | _ => false
/-- The value is a zero of either sign. -/
def Fv.isZero : Fv → Bool | .fin _ q => decide (q.n = 0) | _ => false
/-- The number of a finite value, 0 of another. -/
def Fv.num : Fv → Q | .fin _ q => q | _ => ⟨0, 1⟩
/-- The value is negative (the sign bit). -/
def Fv.neg : Fv → Bool | .fin b _ => b | .inf b => b | .nan => false

/-- Sum before rounding, with the IEEE 754 rules for infinities and for the sign of an exact zero (R148). -/
def Fv.add : Fv → Fv → Fv
  | .nan, _ => .nan
  | _, .nan => .nan
  | .inf a, .inf b => if a = b then .inf a else .nan
  | .inf a, _ => .inf a
  | _, .inf b => .inf b
  | .fin a x, .fin b y =>
      let z := x.add y
      if z.n = 0 then .fin (a && b) z else .ofQ z

/-- Product before rounding. -/
def Fv.mul : Fv → Fv → Fv
  | .nan, _ => .nan
  | _, .nan => .nan
  | .inf a, .inf b => .inf (a != b)
  | .inf a, .fin b y => if y.n = 0 then .nan else .inf (a != b)
  | .fin a x, .inf b => if x.n = 0 then .nan else .inf (a != b)
  | .fin a x, .fin b y => .fin (a != b) (x.mul y)

/-- The largest e with 2^e ≤ n / d, for n and d positive. -/
def floorLog2 (n d : Nat) : Int :=
  let k : Int := (Nat.log2 n : Int) - (Nat.log2 d : Int)
  if (if 0 ≤ k then decide (d * 2 ^ k.toNat ≤ n) else decide (d ≤ n * 2 ^ (-k).toNat)) then k else k - 1

/-- a / b rounded to the nearest integer, ties to even. -/
def rneDiv (a b : Nat) : Nat :=
  let q := a / b
  let r := a % b
  if b < 2 * r then q + 1 else if 2 * r = b && q % 2 == 1 then q + 1 else q

/-- The code of an exact value in a binary format with `eb` exponent bits and `mb` mantissa bits, rounded once to nearest
even; every NaN becomes the canonical one (R148). -/
def encodeIeee (eb mb : Nat) (v : Fv) : Nat :=
  let sgn := 2 ^ (eb + mb)
  let inf := (2 ^ eb - 1) * 2 ^ mb
  match v with
  | .nan => inf + 2 ^ (mb - 1)
  | .inf neg => (if neg then sgn else 0) + inf
  | .fin neg q =>
      let s := if neg then sgn else 0
      if q.n = 0 then s else
        let bias : Int := 2 ^ (eb - 1) - 1
        let m := q.n.natAbs
        let e := max (floorLog2 m q.d) (1 - bias)
        let t := e - mb
        let r := if 0 ≤ t then rneDiv m (q.d * 2 ^ t.toNat) else rneDiv (m * 2 ^ (-t).toNat) q.d
        let code := (e + bias - 1).toNat * 2 ^ mb + r
        s + (if inf ≤ code then inf else code)

/-- The value of a code of such a format (R145). -/
def decodeIeee (eb mb : Nat) (bits : Nat) : Fv :=
  let m := bits % 2 ^ mb
  let e := bits / 2 ^ mb % 2 ^ eb
  let neg := bits / 2 ^ (eb + mb) % 2 == 1
  let bias : Int := 2 ^ (eb - 1) - 1
  let sgn : Int := if neg then -1 else 1
  if e = 2 ^ eb - 1 then (if m = 0 then .inf neg else .nan)
  else if e = 0 then .fin neg (Q.mul ⟨sgn * m, 1⟩ (Q.pow2 (1 - bias - mb)))
  else .fin neg (Q.mul ⟨sgn * (2 ^ mb + m), 1⟩ (Q.pow2 ((e : Int) - bias - mb)))

/-- Read an FP32 code. -/
def fp32 (b : Nat) : Fv := decodeIeee 8 23 b
/-- Write an FP32 code, rounded once. -/
def toFp32 (v : Fv) : Nat := encodeIeee 8 23 v
/-- Read a BF16 code. -/
def bf16 (b : Nat) : Fv := decodeIeee 8 7 b
/-- Write a BF16 code, rounded once. -/
def toBf16 (v : Fv) : Nat := encodeIeee 8 7 v
/-- Round a number to binary64 (the statistics of R176). -/
def toF64 (q : Q) : Q := (decodeIeee 11 52 (encodeIeee 11 52 (.ofQ q))).num
/-- The canonical FP32 NaN (R148). -/
def nan32 : Nat := 0x7FC00000

/-- The small formats of R129 and R122, by their FMT or MODE code; 5 is BF16. -/
inductive Fmt where
  | fp4 | int4 | e4m3 | e5m2 | int8 | bf16
  deriving DecidableEq, Repr

/-- The format of a MODE or FMT code (R122, R129). -/
def fmtOf : Nat → Option Fmt
  | 0 => some .fp4 | 1 => some .int4 | 2 => some .e4m3 | 3 => some .e5m2 | 4 => some .int8
  | 5 => some .bf16 | _ => none

/-- The format has 4-bit elements (R149). -/
def Fmt.is4 : Fmt → Bool | .fp4 => true | .int4 => true | _ => false

/-- The value of an element code (R145, R146, R147). -/
def elemVal (f : Fmt) (c : Nat) : Fv :=
  match f with
  | .fp4 =>
      let c := c % 16
      let mags : List Q := [⟨0, 2⟩, ⟨1, 2⟩, ⟨2, 2⟩, ⟨3, 2⟩, ⟨4, 2⟩, ⟨6, 2⟩, ⟨8, 2⟩, ⟨12, 2⟩]
      let q := nth ⟨0, 1⟩ mags (c % 8)
      if c < 8 then .fin false q else if c = 8 then .zero else .fin true q.neg
  | .int4 => let c := c % 16; .ofQ ⟨if c < 8 then c else (c : Int) - 16, 1⟩
  | .int8 => let c := c % 256; .ofQ ⟨if c < 128 then c else (c : Int) - 256, 1⟩
  | .e4m3 =>
      if c % 128 = 0x7F then .nan else
        let m := c % 8
        let e := c / 8 % 16
        let sgn : Int := if c / 128 % 2 = 1 then -1 else 1
        .ofQ (if e = 0 then Q.mul ⟨sgn * m, 1⟩ (Q.pow2 (-9)) else Q.mul ⟨sgn * (8 + m), 1⟩ (Q.pow2 ((e : Int) - 10)))
  | .e5m2 => match decodeIeee 5 2 c with | .fin _ q => .ofQ q | v => v
  | .bf16 => match Machine.bf16 c with | .fin _ q => .ofQ q | v => v

/-- The value of a UE5M3 scale code (R145); none for the NaN code. -/
def ue5m3 (c : Nat) : Option Q :=
  let m := c % 8
  let e := c / 8 % 32
  if c % 256 = 0xFF then none
  else if e = 0 then some (Q.mul ⟨m, 1⟩ (Q.pow2 (-17)))
  else some (Q.mul ⟨8 + m, 1⟩ (Q.pow2 ((e : Int) - 18)))

/-- One 32-element block as it is stored: its scale code (none in BF16 mode) and its element codes (R149, R151). -/
structure Blk where
  scale : Option Nat
  codes : List Nat
  deriving DecidableEq, Repr

/-- The block is a NaN block (R150). In BF16 mode there are no blocks, and elements follow IEEE 754. -/
def Blk.isNan (f : Fmt) (b : Blk) : Bool :=
  match b.scale with
  | none => false
  | some s => s == 0xFF || (s != 0 && b.codes.any fun c => !(elemVal f c).isFin)

/-- The block is a zero block (R150). -/
def Blk.isZero (b : Blk) : Bool := b.scale == some 0

/-- Element `i` of a block as a block of its own: that of a NaN block is one (R150). -/
def Blk.one (f : Fmt) (b : Blk) (i : Nat) : Blk := ⟨if b.isNan f then some 0xFF else b.scale, [nth 0 b.codes i]⟩

/-- The exact sum of the products of a block (R154). -/
def dot (f : Fmt) : List Nat → List Nat → Fv
  | a :: as, w :: ws => (Fv.mul (elemVal f a) (elemVal f w)).add (dot f as ws)
  | _, _ => .zero

/-- The exact term t_b of R154 under the rules of R155; `p` is the FP32 panel scale (1.0 in BF16 mode). -/
def blockTerm (f : Fmt) (a w : Blk) (p : Nat) : Fv :=
  let sc (b : Blk) : Q := match b.scale with | none => ⟨1, 1⟩ | some s => (ue5m3 s).getD ⟨0, 1⟩
  match fp32 p with
  | .fin _ pq =>
      if a.isNan f || w.isNan f then .nan
      else if a.isZero || w.isZero || pq.n == 0 then .zero
      else match dot f a.codes w.codes with
        | .fin _ q => if q.n = 0 then .zero else .ofQ (Q.mul (Q.mul pq (sc a)) (Q.mul (sc w) q))
        | v => v
  | _ => .nan

/-- One step of the accumulation: the exact sum, rounded once to FP32 (R154). -/
def accStep (acc : Nat) (t : Fv) : Nat := toFp32 ((fp32 acc).add t)

/-- The FP32 round-to-nearest-even sum of two codes (R99). -/
def fadd32 (a b : Nat) : Nat := toFp32 ((fp32 a).add (fp32 b))

/-- The FP32 maximum that MAX_F32 applies: NaN if either is NaN, +0 above −0 (R375). -/
def fmax32 (a b : Nat) : Nat :=
  match fp32 a, fp32 b with
  | .nan, _ => nan32
  | _, .nan => nan32
  | .inf true, _ => b
  | _, .inf true => a
  | .inf false, _ => a
  | _, .inf false => b
  | .fin na x, .fin _ y => if x.eq y then (if na then b else a) else if x.lt y then b else a

/-- The codes of the non-negative grid of a quantisation target, in rising order of value (R145, R159). -/
def gridMax : Fmt → Nat
  | .fp4 => 7 | .int4 => 7 | .e4m3 => 0x7E | .e5m2 => 0x7B | .int8 => 127 | .bf16 => 0x7F7F

/-- The largest grid code not above y, found downward from a code. -/
def gridBelow (f : Fmt) (y : Q) : Nat → Nat
  | 0 => 0
  | c + 1 => if ((elemVal f (c + 1)).num).le y then c + 1 else gridBelow f y c

/-- The code of a grid magnitude with a sign; a zero is the positive one (R147, R159). -/
def signedCode (f : Fmt) (neg : Bool) (c : Nat) : Nat :=
  if !neg || c = 0 then c else
    match f with
    | .fp4 => c + 8 | .int4 => 16 - c | .int8 => 256 - c
    | .e4m3 | .e5m2 => c + 128 | .bf16 => c + 0x8000

/-- x divided by 2^(n), both as 32-bit words. -/
def shr32 (x n : Nat) : Nat := x / 2 ^ n
/-- 32-bit product. -/
def mul32 (a b : Nat) : Nat := a * b % 2 ^ 32

/-- The 32-bit mixing steps that R160 and R548 share. -/
def mix32 (x : Nat) : Nat :=
  let x := x ^^^ shr32 x 16
  let x := mul32 x 0x7FEB352D
  let x := x ^^^ shr32 x 15
  let x := mul32 x 0x846CA68B
  x ^^^ shr32 x 16

/-- rbits of R160. -/
def rbits (seed row elem : Nat) : Nat :=
  shr32 (mix32 ((seed % 2 ^ 32) ^^^ mul32 row 0x9E3779B9 ^^^ mul32 elem 0x85EBCA6B)) 24

/-- The uniform variate of R548, as a fraction. -/
def uvar (seed handle q : Nat) : Q :=
  let x := mix32 ((seed % 2 ^ 32) ^^^ mul32 handle 0xC2B2AE35 ^^^ mul32 q 0x27D4EB2F)
  ⟨2 * (x / 2 : Nat) + 1, 2 ^ 32⟩

/-- One element quantised from its exact quotient (R159): its code, and whether it saturated. `rb` are the random bits. -/
def quantElem (f : Fmt) (round rb : Nat) (neg : Bool) (y : Q) : Nat × Bool :=
  let top := gridMax f
  let qmax := (elemVal f top).num
  if qmax.lt y then (signedCode f neg top, true) else
    let lo := gridBelow f y top
    let vlo := (elemVal f lo).num
    if vlo.eq y then (signedCode f neg lo, false) else
      let vhi := (elemVal f (lo + 1)).num
      let frac := Q.div (y.sub vlo) (vhi.sub vlo)
      let up := match round with
        | 0 => let twice := Q.mul ⟨2, 1⟩ frac
               if Q.eq twice ⟨1, 1⟩ then lo % 2 == 1 else Q.lt ⟨1, 1⟩ twice
        | 1 => decide (rb < (256 * frac.n.natAbs) / frac.d)
        | _ => false
      (signedCode f neg (if up then lo + 1 else lo), false)

/-- The first UE5M3 code, from `c` on, whose value is at least t (R158). -/
def scaleFrom (t : Q) : Nat → Nat → Nat
  | 0, c => c
  | k + 1, c => if t.le ((ue5m3 c).getD ⟨0, 1⟩) then c else scaleFrom t k (c + 1)

/-- The scale of a block under AMAX or AMAX_CLIP: the smallest UE5M3 value at least t, within the two limits (R158). -/
def scaleFor (t : Q) : Nat := scaleFrom t 0xFD 1

/-- What QUANT makes of one block (R157): the block, and which count it enters. -/
inductive QuantRes where
  | nanBlk | zeroBlk
  | blk (scale : Nat) (codes : List Nat) (sat : Bool)
  | badTable
  deriving DecidableEq, Repr

/-- Quantise one block of 32 values: SCALE_RULE, its IMM or table byte, ROUND, SEED, the row and the first element's index
(R157 to R160). -/
def quantBlock (f : Fmt) (rule round seed row e0 : Nat) (imm : Q) (tab : Nat) (xs : List Fv) : QuantRes :=
  if xs.any fun x => !x.isFin then .nanBlk
  else if rule == 2 && tab == 0xFF then .badTable
  else if (xs.all Fv.isZero) || (rule == 2 && tab == 0) then .zeroBlk
  else
    let a := xs.foldl (fun m x => if m.lt x.num.abs then x.num.abs else m) ⟨0, 1⟩
    let qmax := (elemVal f (gridMax f)).num
    let t := Q.div a qmax
    let sc := match rule with | 0 => scaleFor t | 1 => scaleFor (Q.mul imm t) | _ => tab
    let s := (ue5m3 sc).getD ⟨1, 1⟩
    let rs := xs.zipIdx.map fun (x, i) =>
      quantElem f round (rbits seed row (e0 + i)) (decide (x.num.n < 0)) (Q.div x.num.abs s)
    .blk sc (rs.map (·.1)) (rs.any (·.2))

/-- The FP32 codes of a block as DEQUANT writes them, before PLAIN rounding (R162). -/
def dequantBlock (f : Fmt) (b : Blk) : List Fv :=
  if b.isNan f then b.codes.map fun _ => .nan
  else if b.isZero then b.codes.map fun _ => .zero
  else b.codes.map fun c =>
    let q := Q.mul ((ue5m3 (b.scale.getD 0)).getD ⟨0, 1⟩) (elemVal f c).num
    .ofQ q

end Sys2Proof.Machine
end

