-- ==== Sys2Proof/Machine/NumFun.lean ====
section
/-! DEFINITION. The functions whose results the spec gives by an error bound (R171, R172, R173, R178, R548): the exact value
to 400 fractional bits, and a result within the bound that Config.boundChoice picks (log entry 2). -/

namespace Sys2Proof.Machine

/-- Fractional bits of the fixed-point numbers below. -/
def fxBits : Nat := 400
/-- One, in fixed point. -/
def fxOne : Int := 2 ^ fxBits
/-- A rational in fixed point, rounded down. -/
def fxOfQ (q : Q) : Int := (q.n * fxOne) / q.d
/-- A fixed-point number as a rational. -/
def fxToQ (a : Int) : Q := ⟨a, 2 ^ fxBits⟩
/-- Fixed-point product. -/
def fxMul (a b : Int) : Int := (a * b) / fxOne

/-- The sum of x^k/k! from k on, given the current term. -/
def fxExpFrom (x : Int) : Nat → Nat → Int → Int
  | 0, _, t => t
  | f + 1, k, t => t + fxExpFrom x f (k + 1) (fxMul t x / (k + 1))

/-- The alternating sum that gives sine (k odd) or cosine (k even), given the current term. -/
def fxTrigFrom (x2 : Int) : Nat → Nat → Int → Int
  | 0, _, t => t
  | f + 1, k, t => t + fxTrigFrom x2 f (k + 2) (-(fxMul t x2) / ((k + 1) * (k + 2)))

/-- The sum z^k/k over odd k (the inverse hyperbolic tangent), given z^k. -/
def fxAtanhFrom (z2 : Int) : Nat → Nat → Int → Int
  | 0, _, _ => 0
  | f + 1, k, p => p / k + fxAtanhFrom z2 f (k + 2) (fxMul p z2)

/-- The alternating sum z^k/k over odd k (the inverse tangent) of 1/m. -/
def fxAtanInv (m : Nat) : Nat → Nat → Int → Int
  | 0, _, _ => 0
  | f + 1, k, p => p / k - fxAtanInv m f (k + 2) (p / (m * m))

/-- The natural logarithm of 2. -/
def fxLn2 : Int := 2 * fxAtanhFrom (fxOne / 9) 140 1 (fxOne / 3)
/-- The circle constant. -/
def fxPi : Int := 16 * fxAtanInv 5 100 1 (fxOne / 5) - 4 * fxAtanInv 239 40 1 (fxOne / 239)

/-- 2 to a rational power, for exponents kept to the range in which FP32 results can differ from 0 and infinity. -/
def qExp2 (x : Q) : Q :=
  let i := x.n / x.d
  if i < -400 then Q.pow2 (-400) else if 400 < i then Q.pow2 400 else
    let f := fxOfQ (x.sub ⟨i, 1⟩)
    Q.mul (fxToQ (fxExpFrom (fxMul f fxLn2) 90 0 fxOne)) (Q.pow2 i)

/-- The natural logarithm of a positive rational. -/
def qLn (x : Q) : Q :=
  let e := floorLog2 x.n.natAbs x.d
  let m := Q.mul x (Q.pow2 (-e))
  let z := fxOfQ (Q.div (m.sub ⟨1, 1⟩) (m.add ⟨1, 1⟩))
  fxToQ (e * fxLn2 + 2 * fxAtanhFrom (fxMul z z) 140 1 z)

/-- The logarithm to base 2 of a positive rational. -/
def qLog2 (x : Q) : Q := Q.div (qLn x) (fxToQ fxLn2)

/-- e to a rational power. -/
def qExp (x : Q) : Q := qExp2 (Q.div x (fxToQ fxLn2))

/-- The integer square root of n, given bit by bit from bit b down. -/
def isqrtFrom (n : Nat) : Nat → Nat → Nat
  | 0, r => r
  | b + 1, r => isqrtFrom n b (if (r + 2 ^ b) * (r + 2 ^ b) ≤ n then r + 2 ^ b else r)

/-- The square root of a non-negative rational. -/
def qSqrt (x : Q) : Q :=
  let n := (x.n.natAbs * 4 ^ fxBits) / x.d
  ⟨isqrtFrom n (Nat.log2 n / 2 + 1) 0, 2 ^ fxBits⟩

/-- The sine and cosine of an angle, reduced modulo 2π (R172). -/
def qSinCos (x : Q) : Q × Q :=
  let a := fxOfQ x % (2 * fxPi)
  let a2 := fxMul a a
  (fxToQ (fxTrigFrom a2 120 1 a), fxToQ (fxTrigFrom a2 120 0 fxOne))

/-- Quotient, with the IEEE 754 rules for zeros and infinities (R148). -/
def Fv.div : Fv → Fv → Fv
  | .nan, _ => .nan
  | _, .nan => .nan
  | .inf _, .inf _ => .nan
  | .inf a, .fin b _ => .inf (a != b)
  | .fin a _, .inf b => .fin (a != b) ⟨0, 1⟩
  | .fin a x, .fin b y =>
      if y.n = 0 then (if x.n = 0 then .nan else .inf (a != b)) else .fin (a != b) (Q.div x y)

/-- Negation. -/
def Fv.opp : Fv → Fv
  | .nan => .nan
  | .inf a => .inf !a
  | .fin a x => .fin (!a) x.neg

/-- Square root (R148). -/
def Fv.sqrt : Fv → Fv
  | .nan => .nan
  | .inf a => if a then .nan else .inf false
  | .fin a x => if x.n = 0 then .fin a x else if a then .nan else .ofQ (qSqrt x)

/-- 2 to a power. -/
def Fv.exp2 : Fv → Fv
  | .nan => .nan
  | .inf a => if a then .zero else .inf false
  | .fin _ x => .ofQ (qExp2 x)

/-- e to a power. -/
def Fv.exp : Fv → Fv
  | .nan => .nan
  | .inf a => if a then .zero else .inf false
  | .fin _ x => .ofQ (qExp x)

/-- Logarithm to base 2; of a zero it is minus infinity, of a negative number NaN (R148, log entry 5). -/
def Fv.log2 : Fv → Fv
  | .nan => .nan
  | .inf a => if a then .nan else .inf false
  | .fin a x => if x.n = 0 then .inf true else if a then .nan else .ofQ (qLog2 x)

/-- Hyperbolic tangent. -/
def Fv.tanh : Fv → Fv
  | .nan => .nan
  | .inf a => .ofQ ⟨if a then -1 else 1, 1⟩
  | .fin a x =>
      if x.n = 0 then .fin a x else
        let e := qExp (Q.mul ⟨-2, 1⟩ x.abs)
        let t := Q.div (Q.sub ⟨1, 1⟩ e) (Q.add ⟨1, 1⟩ e)
        .ofQ (if a then t.neg else t)

/-- ulp(r) as the chapter defines it; of 0 the least subnormal. -/
def ulpQ (r : Q) : Q :=
  if r.n = 0 then Q.pow2 (-149) else Q.pow2 (max (floorLog2 r.n.natAbs r.d) (-126) - 23)

/-- The unit roundoff of FP32. -/
def uQ : Q := Q.pow2 (-24)

/-- γ_n as the chapter defines it. -/
def gammaQ (n : Nat) : Q := Q.div ⟨n, 2 ^ 24⟩ ⟨2 ^ 24 - (n : Int), 2 ^ 24⟩

/-- ⌈log2 n⌉. -/
def clog2 (n : Nat) : Nat := if n ≤ 1 then 0 else Nat.log2 (n - 1) + 1

/-- The FP32 codes in rising order of value, as integers. -/
def codeOrd (c : Nat) : Int := if c < 2 ^ 31 then c else -((c : Int) - 2 ^ 31)
/-- The code at a place in that order. -/
def ordCode (i : Int) : Nat := if 0 ≤ i then i.toNat else 2 ^ 31 + (-i).toNat

/-- The FP32 result of an operation with exact value `r` and absolute bound `tol`: any code within the bound, picked by
Config.boundChoice from the operands (log entry 2); the correctly rounded one if the pick falls outside. -/
def pickWithin (op : Nat) (ops : List Nat) (r tol : Q) : Nat :=
  let c := Config.boundChoice op ops % 2 ^ 32
  match fp32 c with
  | .fin _ q => if ((q.sub r).abs).le tol then c else toFp32 (.ofQ r)
  | _ => toFp32 (.ofQ r)

/-- The result for an exact value that may be special: a special value is what R148 gives, a finite one lies within the
bound. An exact zero, where the bound leaves the result zero, has its own sign. -/
def pickFv (op : Nat) (ops : List Nat) (v : Fv) (tol : Q → Q) : Nat :=
  match v with
  | .fin neg q =>
      let c := pickWithin op ops q (tol q)
      if q.n = 0 && (fp32 c).isZero then toFp32 (.fin neg q) else c
  | v => toFp32 v

/-- A bound of n ulp. -/
def ulps (n : Nat) (r : Q) : Q := Q.mul ⟨n, 1⟩ (ulpQ r)
/-- A relative bound of n units roundoff. -/
def relU (n : Nat) (r : Q) : Q := Q.mul (Q.mul ⟨n, 1⟩ uQ) r.abs

/-- A value rounded to FP32, as an intermediate result of IEEE 754 arithmetic is (R148). -/
def Fv.r32 (v : Fv) : Fv := fp32 (toFp32 v)
/-- Of two results that the order of the arithmetic decides between, which the spec leaves open, the one that the hardware gives (log
entry 2). -/
def openPick (op : Nat) (ops : List Nat) (a b : Nat) : Nat := if Config.boundChoice op (0xFFFF :: ops) % 2 = 0 then a else b

/-- Sum of exact numbers. -/
def qSum (xs : List Q) : Q := xs.foldl Q.add ⟨0, 1⟩
/-- Sum of data, with IEEE 754 specials. -/
def fvSum (xs : List Fv) : Fv := xs.foldl Fv.add .zero

/-- Two partial sums of a tree are added; an empty place adds nothing. -/
def addOpt : Option Nat → Option Nat → Option Nat
  | some a, some b => some (fadd32 a b)
  | some a, none => some a
  | none, x => x
/-- One level of a pairwise tree. -/
def pairSums : List (Option Nat) → List (Option Nat)
  | a :: b :: t => addOpt a b :: pairSums t
  | l => l
/-- The levels of a pairwise tree. -/
def levelSums : Nat → List (Option Nat) → List (Option Nat)
  | 0, l => l
  | k + 1, l => levelSums k (pairSums l)
/-- Put a place into a list ordered by key. -/
def keyInsert (key : Nat → Nat) (i : Nat) : List Nat → List Nat
  | [] => [i]
  | j :: t => if key i < key j then i :: j :: t else j :: keyInsert key i t
/-- The fixed pairwise tree of a row of E values (R172): which of them, or none, stands at each of its 2^⌈log2 E⌉ leaves. It depends on E
only, and the spec gives no more of it (log entry 2). -/
def treeOrder (e : Nat) : List Nat := (List.range (2 ^ clog2 e)).foldl (fun l i => keyInsert (fun j => Config.boundChoice 0x10 [e, j]) i l) []
/-- The FP32 sum of a row in that tree (R172). -/
def rowTree (xs : List Nat) : Nat :=
  ((levelSums (clog2 xs.length) ((treeOrder xs.length).map fun i => (xs.drop i).head?)).headD none).getD 0

/-- Softmax of a row of values (R171, R172): each within the relative bound (c + 8 + mag i |z|) × u, z being the distance from the maximum. With
a NaN every value is NaN; a +Inf element gives NaN, and then the others are NaN or 0, as the order of the arithmetic has it (R148, log entry
2); −Inf gives 0 beside a finite element. -/
def softRow (op : Nat) (key : List Nat) (zs : List Fv) (mag : Nat → Q → Q) : List Nat :=
  if zs.any Fv.isNan then zs.map fun _ => nan32
  else if zs.any (· == .inf false) then zs.map fun z => if z == .inf false then nan32 else openPick op key 0 nan32
  else match zs.filter Fv.isFin with
    | [] => zs.map fun _ => nan32
    | f :: t =>
      let mx := t.foldl (fun (m : Q) x => if m.lt x.num then x.num else m) f.num
      let es := zs.map fun x => if x.isFin then qExp (x.num.sub mx) else (⟨0, 1⟩ : Q)
      let tot := qSum es
      zs.zipIdx.map fun (x, i) =>
        if !x.isFin then 0 else
        let r := Q.div (nth ⟨0, 1⟩ es i) tot
        pickWithin op (i :: key) r (Q.mul (Q.mul (Q.add ⟨clog2 zs.length + 8, 1⟩ (mag i (x.num.sub mx).abs)) uQ) r.abs)

end Sys2Proof.Machine
end

