-- ==== Sys2Proof/Machine/Fields.lean ====
section
/-! DEFINITION. The fields of the register pages: offset within the page, highest and lowest bit, and the event bit
numbers, as the register tables of the chapters give them (R51 to R68, R69, R71, R77, R102 to R108, R180, R181, R194,
R201, R205, R217, R232, R245, R246, R277, R304, R332, R333, R360, R386, R409, R412, R441 to R444, R465, R495, R520 to
R524; events R105, R184, R195, R201, R205, R218, R247, R280, R305, R335, R362, R388, R414, R441 to R444, R466, R497,
R522 to R524). Of an array of registers the field names element 0. -/

namespace Sys2Proof.Machine.F

/-- A field at an offset of a page. -/
def mk (off hi lo : Nat) : Fld := ⟨off, hi, lo⟩

/-- R51: bits [7:0] of 0x000, RO. -/
def COM.TYPE : Fld := mk 0x000 7 0
/-- R51: bits [19:8] of 0x000, RO. -/
def COM.INSTANCE : Fld := mk 0x000 19 8
/-- R51: bits [39:20] of 0x000, RO. -/
def COM.PARENT : Fld := mk 0x000 39 20
/-- R51: bits [59:40] of 0x000, RO. -/
def COM.NEXT_SIBLING : Fld := mk 0x000 59 40
/-- R51: bits [63:60] of 0x000, RO. -/
def COM.LAYOUT_REV : Fld := mk 0x000 63 60
/-- R53: bits [0:0] of 0x008, RO. -/
def COM.CMD : Fld := mk 0x008 0 0
/-- R53: bits [1:1] of 0x008, RO. -/
def COM.CAP_RESET : Fld := mk 0x008 1 1
/-- R53: bits [2:2] of 0x008, RO. -/
def COM.CAP_SELFTEST : Fld := mk 0x008 2 2
/-- R53: bits [3:3] of 0x008, RO. -/
def COM.GANGABLE : Fld := mk 0x008 3 3
/-- R53: bits [4:4] of 0x008, RO. -/
def COM.COMPOSITE : Fld := mk 0x008 4 4
/-- R53: bits [5:5] of 0x008, RO. -/
def COM.LIVE_CODE : Fld := mk 0x008 5 5
/-- R53: bits [15:8] of 0x008, RO. -/
def COM.EVT_BITS : Fld := mk 0x008 15 8
/-- R53: bits [31:24] of 0x008, RO. -/
def COM.UNIT_REV : Fld := mk 0x008 31 24
/-- R53: bits [63:32] of 0x008, RO. -/
def COM.TYPE_CAP : Fld := mk 0x008 63 32
/-- R54: bits [19:0] of 0x010, RO. -/
def COM.FIRST_CHILD : Fld := mk 0x010 19 0
/-- R54: bits [31:20] of 0x010, RO. -/
def COM.CHILD_COUNT : Fld := mk 0x010 31 20
/-- R56: bits [3:0] of 0x020, RO. -/
def COM.STATE : Fld := mk 0x020 3 0
/-- R56: bits [4:4] of 0x020, RO. -/
def COM.BOUND : Fld := mk 0x020 4 4
/-- R56: bits [5:5] of 0x020, RO. -/
def COM.UNIT_EVT : Fld := mk 0x020 5 5
/-- R56: bits [6:6] of 0x020, RO. -/
def COM.CHILD_EVT : Fld := mk 0x020 6 6
/-- R56: bits [7:7] of 0x020, RO. -/
def COM.ISOLATED : Fld := mk 0x020 7 7
/-- R56: bits [27:8] of 0x020, RO. -/
def COM.BOUND_TO : Fld := mk 0x020 27 8
/-- R56: bits [63:32] of 0x020, RO. -/
def COM.TYPE_STAT : Fld := mk 0x020 63 32
/-- R59: bits [0:0] of 0x018, W1S. -/
def COM.HALT : Fld := mk 0x018 0 0
/-- R59: bits [1:1] of 0x018, W1S. -/
def COM.DRAIN : Fld := mk 0x018 1 1
/-- R59: bits [2:2] of 0x018, WO. -/
def COM.KILL : Fld := mk 0x018 2 2
/-- R59: bits [3:3] of 0x018, WO. -/
def COM.RESUME : Fld := mk 0x018 3 3
/-- R59: bits [4:4] of 0x018, RW. -/
def COM.EVT_SUMMARY_EN : Fld := mk 0x018 4 4
/-- R59: bits [63:16] of 0x018, RW. -/
def COM.TYPE_CTRL : Fld := mk 0x018 63 16
/-- R61: bits [0:0] of 0x028, W1C. -/
def COM.ERR_CORR : Fld := mk 0x028 0 0
/-- R61: bits [1:1] of 0x028, W1C. -/
def COM.ERR_UNCORR : Fld := mk 0x028 1 1
/-- R61: bits [2:2] of 0x028, W1C. -/
def COM.EVT_STATE : Fld := mk 0x028 2 2
/-- R61: bits [3:3] of 0x028, W1C. -/
def COM.TEST_DONE : Fld := mk 0x028 3 3
/-- R61: bits [63:8] of 0x028, W1C. -/
def COM.TYPE_EVT : Fld := mk 0x028 63 8
/-- R63: bits [31:0] of 0x038, RO. -/
def COM.SET_COUNT : Fld := mk 0x038 31 0
/-- R63: bits [37:32] of 0x038, RO. -/
def COM.LAST_BIT : Fld := mk 0x038 37 32
/-- R66: bits [7:0] of 0x040, RO. -/
def COM.ERR_CODE : Fld := mk 0x040 7 0
/-- R66: bits [15:8] of 0x040, RO. -/
def COM.ERR_STATUS : Fld := mk 0x040 15 8
/-- R66: bits [16:16] of 0x040, W1C. -/
def COM.ERR_VALID : Fld := mk 0x040 16 16
/-- R66: bits [17:17] of 0x040, RO. -/
def COM.ERR_OVERFLOW : Fld := mk 0x040 17 17
/-- R66: bits [18:18] of 0x040, RO. -/
def COM.ERR_LASTING : Fld := mk 0x040 18 18
/-- R66: bits [63:32] of 0x040, RO. -/
def COM.ERR_LOCATION : Fld := mk 0x040 63 32
/-- R66: bits [63:0] of 0x048, RO. -/
def COM.ERR_TIME : Fld := mk 0x048 63 0
/-- R67: bits [0:0] of 0x050, WO. -/
def COM.DO_RESET : Fld := mk 0x050 0 0
/-- R67: bits [1:1] of 0x050, W1S. -/
def COM.ISOLATE : Fld := mk 0x050 1 1
/-- R67: bits [2:2] of 0x050, WO. -/
def COM.RELEASE : Fld := mk 0x050 2 2
/-- R67: bits [23:16] of 0x050, RO. -/
def COM.RESET_COUNT : Fld := mk 0x050 23 16
/-- R68: bits [0:0] of 0x058, WO. -/
def COM.START : Fld := mk 0x058 0 0
/-- R68: bits [1:1] of 0x058, RO. -/
def COM.BUSY : Fld := mk 0x058 1 1
/-- R68: bits [15:8] of 0x058, RO. -/
def COM.RESULT : Fld := mk 0x058 15 8
/-- R68: bits [31:16] of 0x058, RO. -/
def COM.TRANSIENT_COUNT : Fld := mk 0x058 31 16
/-- R68: bits [47:32] of 0x058, RO. -/
def COM.LASTING_COUNT : Fld := mk 0x058 47 32
/-- R77: bits [15:0] of 0x100, RO. -/
def ROOT.PART : Fld := mk 0x100 15 0
/-- R77: bits [23:16] of 0x100, RO. -/
def ROOT.STEPPING : Fld := mk 0x100 23 16
/-- R77: bits [6:0] of 0x108, RO. -/
def ROOT.PKG_INDEX : Fld := mk 0x108 6 0
/-- R77: bits [23:8] of 0x108, RO. -/
def ROOT.APPL_PKG_NUMBER : Fld := mk 0x108 23 8
/-- R77: bits [29:24] of 0x108, RO. -/
def ROOT.TRAY_ID : Fld := mk 0x108 29 24
/-- R77: bits [34:32] of 0x108, RO. -/
def ROOT.SLOT_ID : Fld := mk 0x108 34 32
/-- R77: bits [11:0] of 0x110, RO. -/
def ROOT.GANG_SLOTS : Fld := mk 0x110 11 0
/-- R77: bits [27:16] of 0x110, RO. -/
def ROOT.GANG_FREE : Fld := mk 0x110 27 16
/-- R524: bits [15:0] of 0x118, RW. -/
def ROOT.HB_TIMEOUT : Fld := mk 0x118 15 0
/-- R524: bits [31:16] of 0x118, RW. -/
def ROOT.ORPHAN_S : Fld := mk 0x118 31 16
/-- R524: bits [32:32] of 0x118, RO. -/
def ROOT.HB_ARMED : Fld := mk 0x118 32 32
/-- R524: bits [33:33] of 0x118, RO. -/
def ROOT.ORPHANED : Fld := mk 0x118 33 33
/-- R524: bits [63:0] of 0x120, RO. -/
def ROOT.LAST_HB_TIME : Fld := mk 0x120 63 0
/-- R524: bits [31:0] of 0x128, RO. -/
def ROOT.HB_SEQ : Fld := mk 0x128 31 0
/-- R524: bits [43:32] of 0x128, RO. -/
def ROOT.HB_SESSION : Fld := mk 0x128 43 32
/-- R524: bits [63:48] of 0x128, RO. -/
def ROOT.UNMANAGED_COUNT : Fld := mk 0x128 63 48
/-- R520: bits [9:0] of 0x100, RW. -/
def ISLAND.V_SET : Fld := mk 0x100 9 0
/-- R520: bits [9:0] of 0x108, RO. -/
def ISLAND.V_NOW : Fld := mk 0x108 9 0
/-- R520: bits [13:12] of 0x108, RO. -/
def ISLAND.LIMIT : Fld := mk 0x108 13 12
/-- R520: bits [23:16] of 0x108, RO. -/
def ISLAND.TJ : Fld := mk 0x108 23 16
/-- R520: bits [39:24] of 0x108, RO. -/
def ISLAND.RATE : Fld := mk 0x108 39 24
/-- R520: bits [55:40] of 0x108, RO. -/
def ISLAND.POWER : Fld := mk 0x108 55 40
/-- R69: bits [23:0] of 0x100, RW. -/
def TGROUP.ISLANDS : Fld := mk 0x100 23 0
/-- R69: bits [5:0] of 0x108, RW. -/
def TGROUP.PARTITION : Fld := mk 0x108 5 0
/-- R69: bits [8:8] of 0x108, RW. -/
def TGROUP.PART_VALID : Fld := mk 0x108 8 8
/-- R69: bits [8:0] of 0x110, RO. -/
def TGROUP.ACTIVE_TILES : Fld := mk 0x110 8 0
/-- R69: bits [27:16] of 0x110, RO. -/
def TGROUP.GANG_COUNT : Fld := mk 0x110 27 16
/-- R409: bits [63:0] of 0x100, RW. -/
def PARTITION.MEMBERS0 : Fld := mk 0x100 63 0
/-- R409: bits [63:0] of 0x108, RW. -/
def PARTITION.MEMBERS1 : Fld := mk 0x108 63 0
/-- R409: bits [0:0] of 0x110, WO. -/
def PARTITION.JOIN : Fld := mk 0x110 0 0
/-- R409: bits [1:1] of 0x110, WO. -/
def PARTITION.LEAVE : Fld := mk 0x110 1 1
/-- R409: bits [15:8] of 0x110, RO. -/
def PARTITION.PT_STATUS : Fld := mk 0x110 15 8
/-- R409: bits [39:32] of 0x110, RO. -/
def PARTITION.GROUPS : Fld := mk 0x110 39 32
/-- R71: bits [2:0] of 0xE00, RW. -/
def GANG.TGROUP : Fld := mk 0xE00 2 0
/-- R71: bits [9:8] of 0xE00, RW. -/
def GANG.SPLIT : Fld := mk 0xE00 9 8
/-- R71: bits [21:16] of 0xE00, RW. -/
def GANG.MEMBER_COUNT : Fld := mk 0xE00 21 16
/-- R71: bits [0:0] of 0xE08, WO. -/
def GANG.BIND : Fld := mk 0xE08 0 0
/-- R71: bits [1:1] of 0xE08, WO. -/
def GANG.UNBIND : Fld := mk 0xE08 1 1
/-- R71: bits [7:0] of 0xE10, RO. -/
def GANG.BIND_STATUS : Fld := mk 0xE10 7 0
/-- R71: bits [8:8] of 0xE10, RO. -/
def GANG.BOUND_OK : Fld := mk 0xE10 8 8
/-- R71: bits [9:9] of 0xE10, RO. -/
def GANG.MEMBER_LOST : Fld := mk 0xE10 9 9
/-- R71: bits [15:12] of 0xE10, RO. -/
def GANG.DEPTH : Fld := mk 0xE10 15 12
/-- R71: bits [27:16] of 0xE10, RO. -/
def GANG.TILE_COUNT : Fld := mk 0xE10 27 16
/-- R71: bits [19:0] of 0xF00, RW. -/
def GANG.MEMBER : Fld := mk 0xF00 19 0
/-- R102: bits [32:32] of 0x008, RO. -/
def TILE.FP4 : Fld := mk 0x008 32 32
/-- R102: bits [33:33] of 0x008, RO. -/
def TILE.FP8 : Fld := mk 0x008 33 33
/-- R102: bits [34:34] of 0x008, RO. -/
def TILE.BF16 : Fld := mk 0x008 34 34
/-- R102: bits [35:35] of 0x008, RO. -/
def TILE.TRAIN : Fld := mk 0x008 35 35
/-- R102: bits [36:36] of 0x008, RO. -/
def TILE.TRANSC : Fld := mk 0x008 36 36
/-- R102: bits [39:37] of 0x008, RO. -/
def TILE.QUEUES_M1 : Fld := mk 0x008 39 37
/-- R102: bits [47:40] of 0x008, RO. -/
def TILE.SPARE_ROWS : Fld := mk 0x008 47 40
/-- R102: bits [55:48] of 0x008, RO. -/
def TILE.WINDOW_MAX : Fld := mk 0x008 55 48
/-- R103: bits [35:32] of 0x020, RO. -/
def TILE.Q_ACTIVE : Fld := mk 0x020 35 32
/-- R103: bits [36:36] of 0x020, RO. -/
def TILE.ARRAY_BUSY : Fld := mk 0x020 36 36
/-- R103: bits [37:37] of 0x020, RO. -/
def TILE.VEC_BUSY : Fld := mk 0x020 37 37
/-- R103: bits [38:38] of 0x020, RO. -/
def TILE.MOVE_BUSY : Fld := mk 0x020 38 38
/-- R103: bits [39:39] of 0x020, RO. -/
def TILE.BUF_A_VALID : Fld := mk 0x020 39 39
/-- R103: bits [40:40] of 0x020, RO. -/
def TILE.BUF_B_VALID : Fld := mk 0x020 40 40
/-- R103: bits [41:41] of 0x020, RO. -/
def TILE.BUF_ACTIVE : Fld := mk 0x020 41 41
/-- R103: bits [43:42] of 0x020, RO. -/
def TILE.HALT_QUEUE : Fld := mk 0x020 43 42
/-- R103: bits [44:44] of 0x020, RO. -/
def TILE.HALT_BY_ERROR : Fld := mk 0x020 44 44
/-- R103: bits [61:52] of 0x020, RO. -/
def TILE.OUTSTANDING : Fld := mk 0x020 61 52
/-- R104: bits [16:16] of 0x018, RW. -/
def TILE.STRICT_ORDER : Fld := mk 0x018 16 16
/-- R104: bits [17:17] of 0x018, RW. -/
def TILE.PREFETCH_EN : Fld := mk 0x018 17 17
/-- R104: bits [18:18] of 0x018, WO. -/
def TILE.RETIRE : Fld := mk 0x018 18 18
/-- R106: bits [8:0] of 0x100, RO. -/
def TILE.POSITION : Fld := mk 0x100 8 0
/-- R106: bits [26:24] of 0x100, RO. -/
def TILE.SERVES_TGROUP : Fld := mk 0x100 26 24
/-- R106: bits [27:27] of 0x100, RO. -/
def TILE.SERVES_VALID : Fld := mk 0x100 27 27
/-- R106: bits [28:28] of 0x100, RO. -/
def TILE.RESERVE : Fld := mk 0x100 28 28
/-- R106: bits [29:29] of 0x100, RO. -/
def TILE.SUBSTITUTE : Fld := mk 0x100 29 29
/-- R106: bits [51:32] of 0x100, RO. -/
def TILE.SUBST_PEER : Fld := mk 0x100 51 32
/-- R106: bits [31:0] of 0x108, RO. -/
def TILE.STEP_NUMBER : Fld := mk 0x108 31 0
/-- R106: bits [47:32] of 0x108, RO. -/
def TILE.GENERATION : Fld := mk 0x108 47 32
/-- R106: bits [48:48] of 0x108, RO. -/
def TILE.STEP_OPEN : Fld := mk 0x108 48 48
/-- R106: bits [31:0] of 0x110, RO. -/
def TILE.NEXT_STEP : Fld := mk 0x110 31 0
/-- R106: bits [47:32] of 0x110, RO. -/
def TILE.NEXT_GENERATION : Fld := mk 0x110 47 32
/-- R106: bits [48:48] of 0x110, RO. -/
def TILE.NEXT_VALID : Fld := mk 0x110 48 48
/-- R106: bits [0:0] of 0x118, WO. -/
def TILE.APPLY : Fld := mk 0x118 0 0
/-- R106: bits [15:8] of 0x118, RO. -/
def TILE.APPLY_STATUS : Fld := mk 0x118 15 8
/-- R106: bits [10:0] of 0x120, RW. -/
def TILE.REGION_BASE : Fld := mk 0x120 10 0
/-- R106: bits [26:16] of 0x120, RW. -/
def TILE.REGION_SIZE : Fld := mk 0x120 26 16
/-- R106: bits [15:0] of 0x140, RO. -/
def TILE.CORR_COUNT : Fld := mk 0x140 15 0
/-- R106: bits [31:16] of 0x140, RO. -/
def TILE.UNCORR_COUNT : Fld := mk 0x140 31 16
/-- R106: bits [36:32] of 0x140, RO. -/
def TILE.SPARE_ROWS_LEFT : Fld := mk 0x140 36 32
/-- R106: bits [0:0] of 0x148, RW. -/
def TILE.SCRUB_EN : Fld := mk 0x148 0 0
/-- R106: bits [23:8] of 0x148, RW. -/
def TILE.SCRUB_PERIOD : Fld := mk 0x148 23 8
/-- R106: bits [31:0] of 0x150, RO. -/
def TILE.STALE_ARRIVALS : Fld := mk 0x150 31 0
/-- R106: bits [15:0] of 0x158, RO. -/
def TILE.KILL_COUNT : Fld := mk 0x158 15 0
/-- R106: bits [31:16] of 0x158, RO. -/
def TILE.LAST_KILLED : Fld := mk 0x158 31 16
/-- R108: bits [26:6] of 0x200, RW. -/
def TILE.Q_BASE : Fld := mk 0x200 26 6
/-- R108: bits [3:0] of 0x208, RW. -/
def TILE.LOG2_SIZE : Fld := mk 0x208 3 0
/-- R108: bits [4:4] of 0x208, RW. -/
def TILE.Q_ENABLE : Fld := mk 0x208 4 4
/-- R108: bits [5:5] of 0x208, RW. -/
def TILE.HALT_ON_ERROR : Fld := mk 0x208 5 5
/-- R108: bits [9:8] of 0x208, RW. -/
def TILE.PRIORITY : Fld := mk 0x208 9 8
/-- R108: bits [15:0] of 0x210, RO. -/
def TILE.HEAD : Fld := mk 0x210 15 0
/-- R108: bits [15:0] of 0x218, RW. -/
def TILE.TAIL : Fld := mk 0x218 15 0
/-- R108: bits [26:5] of 0x220, RW. -/
def TILE.CPL_BASE : Fld := mk 0x220 26 5
/-- R108: bits [15:0] of 0x228, RW. -/
def TILE.CPL_HEAD : Fld := mk 0x228 15 0
/-- R108: bits [15:0] of 0x230, RO. -/
def TILE.CPL_TAIL : Fld := mk 0x230 15 0
/-- R108: bits [7:0] of 0x238, RO. -/
def TILE.LAST_STATUS : Fld := mk 0x238 7 0
/-- R108: bits [47:16] of 0x238, RO. -/
def TILE.DONE_COUNT : Fld := mk 0x238 47 16
/-- R180: bits [0:0] of 0x100, RW. -/
def HALO.EVAL_EN : Fld := mk 0x100 0 0
/-- R180: bits [11:0] of 0x108, RW. -/
def HALO.WP_INDEX : Fld := mk 0x108 11 0
/-- R180: bits [9:0] of 0x140, RW. -/
def HALO.RCP_INDEX : Fld := mk 0x140 9 0
/-- R180: bits [3:0] of 0x148, RW. -/
def HALO.RCP_MODE : Fld := mk 0x148 3 0
/-- R180: bits [31:0] of 0x150, RO. -/
def HALO.RCP_EPOCH : Fld := mk 0x150 31 0
/-- R180: bits [32:32] of 0x150, RO. -/
def HALO.RCP_PENDING : Fld := mk 0x150 32 32
/-- R180: bits [8:0] of 0x158, RO. -/
def HALO.LOG_LEVEL : Fld := mk 0x158 8 0
/-- R180: bits [31:16] of 0x158, RO. -/
def HALO.DROPPED : Fld := mk 0x158 31 16
/-- R180: bits [47:32] of 0x158, RO. -/
def HALO.STEPS_DROPPED : Fld := mk 0x158 47 32
/-- R180: bits [63:0] of 0x160, RO. -/
def HALO.LOG_HEAD0 : Fld := mk 0x160 63 0
/-- R180: bits [63:0] of 0x168, RO. -/
def HALO.LOG_HEAD1 : Fld := mk 0x168 63 0
/-- R180: bits [0:0] of 0x170, WO. -/
def HALO.LOG_POP : Fld := mk 0x170 0 0
/-- R180: bits [31:0] of 0x178, RO. -/
def HALO.UNMATCHED : Fld := mk 0x178 31 0
/-- R181: bits [15:0] of 0x110, RW. -/
def HALO.ID : Fld := mk 0x110 15 0
/-- R181: bits [16:16] of 0x110, RW. -/
def HALO.ENABLE : Fld := mk 0x110 16 16
/-- R181: bits [17:17] of 0x110, RW. -/
def HALO.KIND : Fld := mk 0x110 17 17
/-- R181: bits [18:18] of 0x110, RW. -/
def HALO.FREEZE_ON_EVENT : Fld := mk 0x110 18 18
/-- R181: bits [23:20] of 0x110, RW. -/
def HALO.ALPHA_SHIFT : Fld := mk 0x110 23 20
/-- R181: bits [31:24] of 0x110, RW. -/
def HALO.WARMUP : Fld := mk 0x110 31 24
/-- R181: bits [39:32] of 0x110, RO. -/
def HALO.WARM_LEFT : Fld := mk 0x110 39 32
/-- R181: bits [63:48] of 0x110, RO. -/
def HALO.EVENTS : Fld := mk 0x110 63 48
/-- R181: bits [31:0] of 0x118, RW. -/
def HALO.L2_HI : Fld := mk 0x118 31 0
/-- R181: bits [63:32] of 0x118, RW. -/
def HALO.L2_LO : Fld := mk 0x118 63 32
/-- R181: bits [31:0] of 0x120, RW. -/
def HALO.MAX_HI : Fld := mk 0x120 31 0
/-- R181: bits [47:32] of 0x120, RW. -/
def HALO.NAN_LIMIT : Fld := mk 0x120 47 32
/-- R181: bits [63:48] of 0x120, RW. -/
def HALO.SAT_LIMIT : Fld := mk 0x120 63 48
/-- R181: bits [15:0] of 0x128, RW. -/
def HALO.ZERO_LIMIT : Fld := mk 0x128 15 0
/-- R181: bits [31:0] of 0x130, RW. -/
def HALO.BASE_L2 : Fld := mk 0x130 31 0
/-- R181: bits [63:32] of 0x130, RW. -/
def HALO.BASE_MAX : Fld := mk 0x130 63 32
/-- R181: bits [31:0] of 0x138, RO. -/
def HALO.LAST_NORM : Fld := mk 0x138 31 0
/-- R181: bits [63:32] of 0x138, RO. -/
def HALO.LAST_MAX : Fld := mk 0x138 63 32
/-- R194: bits [2:0] of 0x100, RO. -/
def GMEM.DENSITY : Fld := mk 0x100 2 0
/-- R194: bits [6:4] of 0x100, RO. -/
def GMEM.RATE : Fld := mk 0x100 6 4
/-- R194: bits [8:8] of 0x100, RO. -/
def GMEM.IN_LIST : Fld := mk 0x100 8 8
/-- R194: bits [23:16] of 0x100, RO. -/
def GMEM.CHAN_FIRST : Fld := mk 0x100 23 16
/-- R194: bits [3:0] of 0x108, RW. -/
def GMEM.W_STREAM : Fld := mk 0x108 3 0
/-- R194: bits [7:4] of 0x108, RW. -/
def GMEM.W_LOCAL : Fld := mk 0x108 7 4
/-- R194: bits [11:8] of 0x108, RW. -/
def GMEM.W_REMOTE : Fld := mk 0x108 11 8
/-- R194: bits [15:12] of 0x108, RW. -/
def GMEM.W_MOVE : Fld := mk 0x108 15 12
/-- R194: bits [19:16] of 0x108, RW. -/
def GMEM.W_CTRL : Fld := mk 0x108 19 16
/-- R194: bits [15:0] of 0x110, RO. -/
def GMEM.CRC_RETRIES : Fld := mk 0x110 15 0
/-- R194: bits [31:16] of 0x110, RO. -/
def GMEM.ECC_CORR : Fld := mk 0x110 31 16
/-- R194: bits [47:32] of 0x110, RO. -/
def GMEM.UNCORR : Fld := mk 0x110 47 32
/-- R194: bits [56:48] of 0x110, RO. -/
def GMEM.POISON_USED : Fld := mk 0x110 56 48
/-- R194: bits [23:0] of 0x118, RW. -/
def GMEM.RELOC_BASE : Fld := mk 0x118 23 0
/-- R194: bits [0:0] of 0x120, WO. -/
def GMEM.COPY : Fld := mk 0x120 0 0
/-- R194: bits [1:1] of 0x120, WO. -/
def GMEM.RETURN : Fld := mk 0x120 1 1
/-- R194: bits [9:8] of 0x120, RO. -/
def GMEM.RELOC_STATE : Fld := mk 0x120 9 8
/-- R194: bits [23:16] of 0x120, RO. -/
def GMEM.RELOC_STATUS : Fld := mk 0x120 23 16
/-- R201: bits [15:0] of 0x100, RO. -/
def MCACHE.SETS : Fld := mk 0x100 15 0
/-- R201: bits [20:16] of 0x100, RO. -/
def MCACHE.WAYS_M1 : Fld := mk 0x100 20 16
/-- R201: bits [27:24] of 0x100, RO. -/
def MCACHE.LINE_LOG2 : Fld := mk 0x100 27 24
/-- R201: bits [31:0] of 0x108, RW. -/
def MCACHE.MASK : Fld := mk 0x108 31 0
/-- R201: bits [44:12] of 0x188, RW. -/
def MCACHE.FLUSH_BASE : Fld := mk 0x188 44 12
/-- R201: bits [44:12] of 0x190, RW. -/
def MCACHE.FLUSH_SIZE : Fld := mk 0x190 44 12
/-- R201: bits [0:0] of 0x198, WO. -/
def MCACHE.START : Fld := mk 0x198 0 0
/-- R201: bits [1:1] of 0x198, RO. -/
def MCACHE.BUSY : Fld := mk 0x198 1 1
/-- R201: bits [15:8] of 0x198, RO. -/
def MCACHE.STATUS : Fld := mk 0x198 15 8
/-- R201: bits [31:0] of 0x1A0, RO. -/
def MCACHE.HITS : Fld := mk 0x1A0 31 0
/-- R201: bits [63:32] of 0x1A0, RO. -/
def MCACHE.MISSES : Fld := mk 0x1A0 63 32
/-- R201: bits [20:0] of 0x1A8, RO. -/
def MCACHE.DIRTY : Fld := mk 0x1A8 20 0
/-- R205: bits [1:0] of 0x100, RO. -/
def BTIER.SPEED : Fld := mk 0x100 1 0
/-- R205: bits [5:4] of 0x100, RO. -/
def BTIER.WIDTH : Fld := mk 0x100 5 4
/-- R205: bits [8:8] of 0x100, RO. -/
def BTIER.BIFURCATED : Fld := mk 0x100 8 8
/-- R205: bits [9:9] of 0x100, RO. -/
def BTIER.FLIT256 : Fld := mk 0x100 9 9
/-- R205: bits [17:16] of 0x100, RO. -/
def BTIER.DEV_UP : Fld := mk 0x100 17 16
/-- R205: bits [20:0] of 0x108, RO. -/
def BTIER.CAP_2M : Fld := mk 0x108 20 0
/-- R205: bits [31:24] of 0x108, RO. -/
def BTIER.HDM_STATUS : Fld := mk 0x108 31 24
/-- R205: bits [15:0] of 0x118, RO. -/
def BTIER.POISON_READS : Fld := mk 0x118 15 0
/-- R205: bits [31:16] of 0x118, RO. -/
def BTIER.LINK_RECOVERIES : Fld := mk 0x118 31 16
/-- R205: bits [47:32] of 0x118, RO. -/
def BTIER.DEV_EVENTS : Fld := mk 0x118 47 32
/-- R205: bits [0:0] of 0x120, WO. -/
def BTIER.RETRAIN : Fld := mk 0x120 0 0
/-- R217: bits [55:0] of 0x100, RW. -/
def POOL.GMEM_RANGE : Fld := mk 0x100 55 0
/-- R217: bits [55:0] of 0x108, RW. -/
def POOL.BT0_RANGE : Fld := mk 0x108 55 0
/-- R217: bits [55:0] of 0x110, RW. -/
def POOL.BT1_RANGE : Fld := mk 0x110 55 0
/-- R217: bits [55:0] of 0x118, RW. -/
def POOL.META_RANGE : Fld := mk 0x118 55 0
/-- R217: bits [14:0] of 0x120, RW. -/
def POOL.TOKENS_PER_BLOCK : Fld := mk 0x120 14 0
/-- R217: bits [31:16] of 0x120, RW. -/
def POOL.RECORD_BYTES : Fld := mk 0x120 31 16
/-- R217: bits [41:32] of 0x120, RW. -/
def POOL.LAYERS_M1 : Fld := mk 0x120 41 32
/-- R217: bits [63:48] of 0x120, RW. -/
def POOL.MAX_BLOCKS : Fld := mk 0x120 63 48
/-- R217: bits [0:0] of 0x128, RW. -/
def POOL.AUTO_PROMOTE : Fld := mk 0x128 0 0
/-- R217: bits [1:1] of 0x128, RW. -/
def POOL.EVICT_EN : Fld := mk 0x128 1 1
/-- R217: bits [31:8] of 0x128, RW. -/
def POOL.FREE_TARGET : Fld := mk 0x128 31 8
/-- R217: bits [47:32] of 0x128, RW. -/
def POOL.EVICT_WAIT : Fld := mk 0x128 47 32
/-- R217: bits [0:0] of 0x130, WO. -/
def POOL.APPLY : Fld := mk 0x130 0 0
/-- R217: bits [1:1] of 0x130, RO. -/
def POOL.APPLY_BUSY : Fld := mk 0x130 1 1
/-- R217: bits [15:8] of 0x130, RO. -/
def POOL.APPLY_STATUS : Fld := mk 0x130 15 8
/-- R217: bits [23:0] of 0x138, RO. -/
def POOL.GMEM_FREE : Fld := mk 0x138 23 0
/-- R217: bits [47:24] of 0x138, RO. -/
def POOL.BTIER_FREE : Fld := mk 0x138 47 24
/-- R217: bits [23:0] of 0x140, RO. -/
def POOL.PINNED : Fld := mk 0x140 23 0
/-- R217: bits [47:24] of 0x140, RO. -/
def POOL.LOST : Fld := mk 0x140 47 24
/-- R217: bits [54:48] of 0x140, RO. -/
def POOL.MOVES_ACTIVE : Fld := mk 0x140 54 48
/-- R217: bits [31:0] of 0x148, RO. -/
def POOL.EVICTED : Fld := mk 0x148 31 0
/-- R217: bits [63:32] of 0x148, RO. -/
def POOL.DEFERRALS : Fld := mk 0x148 63 32
/-- R217: bits [15:0] of 0x150, RW. -/
def POOL.REQ_TAIL : Fld := mk 0x150 15 0
/-- R217: bits [15:0] of 0x158, RO. -/
def POOL.REQ_HEAD : Fld := mk 0x158 15 0
/-- R217: bits [15:0] of 0x160, RO. -/
def POOL.CPL_TAIL : Fld := mk 0x160 15 0
/-- R217: bits [15:0] of 0x168, RW. -/
def POOL.CPL_HEAD : Fld := mk 0x168 15 0
/-- R217: bits [0:0] of 0x170, RW. -/
def POOL.REQ_ENABLE : Fld := mk 0x170 0 0
/-- R232: bits [1:0] of 0x100, RW. -/
def CHECK.WIDTH : Fld := mk 0x100 1 0
/-- R232: bits [2:2] of 0x100, RW. -/
def CHECK.REFIN : Fld := mk 0x100 2 2
/-- R232: bits [3:3] of 0x100, RW. -/
def CHECK.REFOUT : Fld := mk 0x100 3 3
/-- R232: bits [11:8] of 0x100, RW. -/
def CHECK.ATTACH : Fld := mk 0x100 11 8
/-- R232: bits [19:16] of 0x100, RW. -/
def CHECK.ATTACH_INST : Fld := mk 0x100 19 16
/-- R232: bits [63:0] of 0x108, RW. -/
def CHECK.POLY : Fld := mk 0x108 63 0
/-- R232: bits [63:0] of 0x110, RW. -/
def CHECK.INIT : Fld := mk 0x110 63 0
/-- R232: bits [63:0] of 0x118, RW. -/
def CHECK.XOROUT : Fld := mk 0x118 63 0
/-- R232: bits [63:0] of 0x120, RO. -/
def CHECK.LAST_RESULT : Fld := mk 0x120 63 0
/-- R232: bits [1:0] of 0x128, WO. -/
def CHECK.PRESET : Fld := mk 0x128 1 0
/-- R232: bits [31:0] of 0x130, RO. -/
def CHECK.SPANS : Fld := mk 0x130 31 0
/-- R232: bits [63:32] of 0x130, RO. -/
def CHECK.MISMATCHES : Fld := mk 0x130 63 32
/-- R245: bits [2:0] of 0x100, RW. -/
def UPDRAFT.TGROUP : Fld := mk 0x100 2 0
/-- R245: bits [3:3] of 0x100, RW. -/
def UPDRAFT.GROUP_VALID : Fld := mk 0x100 3 3
/-- R245: bits [2:0] of 0x108, RO. -/
def UPDRAFT.RANK : Fld := mk 0x108 2 0
/-- R245: bits [6:4] of 0x108, RO. -/
def UPDRAFT.COUNT_M1 : Fld := mk 0x108 6 4
/-- R245: bits [8:8] of 0x108, RO. -/
def UPDRAFT.LEAD : Fld := mk 0x108 8 8
/-- R245: bits [44:6] of 0x110, RW. -/
def UPDRAFT.STREAM_BASE : Fld := mk 0x110 44 6
/-- R245: bits [0:0] of 0x118, RW. -/
def UPDRAFT.ENABLE : Fld := mk 0x118 0 0
/-- R245: bits [1:1] of 0x118, WO. -/
def UPDRAFT.TABLE_CHECK : Fld := mk 0x118 1 1
/-- R245: bits [15:8] of 0x118, RO. -/
def UPDRAFT.TABLE_STATUS : Fld := mk 0x118 15 8
/-- R245: bits [19:16] of 0x118, RO. -/
def UPDRAFT.SLOTS : Fld := mk 0x118 19 16
/-- R245: bits [41:32] of 0x118, RO. -/
def UPDRAFT.LAYERS_M1 : Fld := mk 0x118 41 32
/-- R245: bits [31:0] of 0x120, RO. -/
def UPDRAFT.FILLS_DONE : Fld := mk 0x120 31 0
/-- R245: bits [41:32] of 0x120, RO. -/
def UPDRAFT.ARMED_LAYER : Fld := mk 0x120 41 32
/-- R245: bits [15:0] of 0x128, RO. -/
def UPDRAFT.CHECK_RETRIES : Fld := mk 0x128 15 0
/-- R245: bits [31:16] of 0x128, RO. -/
def UPDRAFT.FILL_FAILS : Fld := mk 0x128 31 16
/-- R245: bits [36:32] of 0x128, RO. -/
def UPDRAFT.BAD_RANGES : Fld := mk 0x128 36 32
/-- R246: bits [15:0] of 0x180, RO. -/
def UPDRAFT.CURRENT : Fld := mk 0x180 15 0
/-- R246: bits [16:16] of 0x180, RO. -/
def UPDRAFT.CURRENT_VALID : Fld := mk 0x180 16 16
/-- R246: bits [47:32] of 0x180, RO. -/
def UPDRAFT.STAGED : Fld := mk 0x180 47 32
/-- R246: bits [48:48] of 0x180, RO. -/
def UPDRAFT.STAGED_VALID : Fld := mk 0x180 48 48
/-- R246: bits [23:0] of 0x188, RW. -/
def UPDRAFT.IMG_GM_BASE : Fld := mk 0x188 23 0
/-- R246: bits [55:32] of 0x188, RO. -/
def UPDRAFT.IMG_GM_PAGES : Fld := mk 0x188 55 32
/-- R246: bits [55:0] of 0x190, RW/RO. -/
def UPDRAFT.IMG_BT : Fld := mk 0x190 55 0
/-- R246: bits [55:0] of 0x198, RW/RO. -/
def UPDRAFT.STAGE : Fld := mk 0x198 55 0
/-- R246: bits [44:6] of 0x1A0, RW. -/
def UPDRAFT.MANIFEST_BASE : Fld := mk 0x1A0 44 6
/-- R246: bits [1:0] of 0x1A8, RW. -/
def UPDRAFT.TARGET : Fld := mk 0x1A8 1 0
/-- R246: bits [2:2] of 0x1A8, WO. -/
def UPDRAFT.START : Fld := mk 0x1A8 2 2
/-- R246: bits [3:3] of 0x1A8, WO. -/
def UPDRAFT.RESUME : Fld := mk 0x1A8 3 3
/-- R246: bits [4:4] of 0x1A8, WO. -/
def UPDRAFT.ABORT : Fld := mk 0x1A8 4 4
/-- R246: bits [27:16] of 0x1A8, RW. -/
def UPDRAFT.SESSION : Fld := mk 0x1A8 27 16
/-- R246: bits [47:32] of 0x1A8, RW. -/
def UPDRAFT.PULL_TIMEOUT : Fld := mk 0x1A8 47 32
/-- R246: bits [2:0] of 0x1B0, RO. -/
def UPDRAFT.LOAD_STATE : Fld := mk 0x1B0 2 0
/-- R246: bits [15:8] of 0x1B0, RO. -/
def UPDRAFT.LOAD_STATUS : Fld := mk 0x1B0 15 8
/-- R246: bits [39:16] of 0x1B0, RO. -/
def UPDRAFT.CHUNKS_DONE : Fld := mk 0x1B0 39 16
/-- R246: bits [63:40] of 0x1B0, RO. -/
def UPDRAFT.CHUNKS_TOTAL : Fld := mk 0x1B0 63 40
/-- R246: bits [23:0] of 0x1B8, RO. -/
def UPDRAFT.FAILED_CHUNK : Fld := mk 0x1B8 23 0
/-- R246: bits [47:32] of 0x1B8, RO. -/
def UPDRAFT.RETRIES : Fld := mk 0x1B8 47 32
/-- R246: bits [63:48] of 0x1B8, RO. -/
def UPDRAFT.FLUSHED_BLOCKS : Fld := mk 0x1B8 63 48
/-- R246: bits [15:0] of 0x1C0, RW. -/
def UPDRAFT.NEW_GEN : Fld := mk 0x1C0 15 0
/-- R246: bits [17:16] of 0x1C0, RW. -/
def UPDRAFT.POLICY : Fld := mk 0x1C0 17 16
/-- R246: bits [24:24] of 0x1C0, WO. -/
def UPDRAFT.PREPARE : Fld := mk 0x1C0 24 24
/-- R246: bits [25:25] of 0x1C0, WO. -/
def UPDRAFT.COMMIT : Fld := mk 0x1C0 25 25
/-- R246: bits [26:26] of 0x1C0, WO. -/
def UPDRAFT.CANCEL : Fld := mk 0x1C0 26 26
/-- R246: bits [31:0] of 0x1C8, RW. -/
def UPDRAFT.SWAP_TARGET : Fld := mk 0x1C8 31 0
/-- R246: bits [63:0] of 0x1D0, RW. -/
def UPDRAFT.MEMBERS0 : Fld := mk 0x1D0 63 0
/-- R246: bits [63:0] of 0x1D8, RW. -/
def UPDRAFT.MEMBERS1 : Fld := mk 0x1D8 63 0
/-- R246: bits [2:0] of 0x1E0, RO. -/
def UPDRAFT.SWAP_STATE : Fld := mk 0x1E0 2 0
/-- R246: bits [15:8] of 0x1E0, RO. -/
def UPDRAFT.SWAP_STATUS : Fld := mk 0x1E0 15 8
/-- R246: bits [26:16] of 0x1E0, RO. -/
def UPDRAFT.COPY_FRONT : Fld := mk 0x1E0 26 16
/-- R246: bits [27:27] of 0x1E0, RO. -/
def UPDRAFT.GLOBALS_DONE : Fld := mk 0x1E0 27 27
/-- R246: bits [63:32] of 0x1E0, RO. -/
def UPDRAFT.SWITCH_STEP : Fld := mk 0x1E0 63 32
/-- R246: bits [7:0] of 0x1E8, RO. -/
def UPDRAFT.READY_AWAITED : Fld := mk 0x1E8 7 0
/-- R277: bits [15:0] of 0x100, RW. -/
def STEPSEQ.JOB_ID : Fld := mk 0x100 15 0
/-- R277: bits [17:16] of 0x100, RW. -/
def STEPSEQ.SCHED_MODE : Fld := mk 0x100 17 16
/-- R277: bits [18:18] of 0x100, RW. -/
def STEPSEQ.REPORT_EN : Fld := mk 0x100 18 18
/-- R277: bits [43:32] of 0x100, RW. -/
def STEPSEQ.REPORT_SESSION : Fld := mk 0x100 43 32
/-- R277: bits [44:6] of 0x108, RW. -/
def STEPSEQ.PROGRAM_BASE : Fld := mk 0x108 44 6
/-- R277: bits [0:0] of 0x110, WO. -/
def STEPSEQ.PROGRAM_CHECK : Fld := mk 0x110 0 0
/-- R277: bits [1:1] of 0x110, RO. -/
def STEPSEQ.PROGRAM_VALID : Fld := mk 0x110 1 1
/-- R277: bits [15:8] of 0x110, RO. -/
def STEPSEQ.PROGRAM_STATUS : Fld := mk 0x110 15 8
/-- R277: bits [31:16] of 0x110, RO. -/
def STEPSEQ.MAX_ROWS : Fld := mk 0x110 31 16
/-- R277: bits [41:32] of 0x110, RO. -/
def STEPSEQ.LAYERS_M1 : Fld := mk 0x110 41 32
/-- R277: bits [50:42] of 0x110, RO. -/
def STEPSEQ.UNITS_M1 : Fld := mk 0x110 50 42
/-- R277: bits [15:0] of 0x118, RW. -/
def STEPSEQ.GAP_WAIT : Fld := mk 0x118 15 0
/-- R277: bits [31:16] of 0x118, RW. -/
def STEPSEQ.SLICE_STEPS : Fld := mk 0x118 31 16
/-- R277: bits [47:32] of 0x118, RW. -/
def STEPSEQ.SLICE_US : Fld := mk 0x118 47 32
/-- R277: bits [51:48] of 0x118, RW. -/
def STEPSEQ.RERUN_MAX : Fld := mk 0x118 51 48
/-- R277: bits [31:0] of 0x120, RO. -/
def STEPSEQ.LC_STEP : Fld := mk 0x120 31 0
/-- R277: bits [47:32] of 0x120, RO. -/
def STEPSEQ.LC_GEN : Fld := mk 0x120 47 32
/-- R277: bits [48:48] of 0x120, RO. -/
def STEPSEQ.LC_VALID : Fld := mk 0x120 48 48
/-- R277: bits [31:0] of 0x128, RO. -/
def STEPSEQ.OPEN_STEP : Fld := mk 0x128 31 0
/-- R277: bits [47:32] of 0x128, RO. -/
def STEPSEQ.OPEN_GEN : Fld := mk 0x128 47 32
/-- R277: bits [48:48] of 0x128, RO. -/
def STEPSEQ.STEP_OPEN : Fld := mk 0x128 48 48
/-- R277: bits [49:49] of 0x128, RO. -/
def STEPSEQ.OPEN_URGENT : Fld := mk 0x128 49 49
/-- R277: bits [50:50] of 0x128, RO. -/
def STEPSEQ.HELD_STEP : Fld := mk 0x128 50 50
/-- R277: bits [54:51] of 0x128, RO. -/
def STEPSEQ.RERUNS : Fld := mk 0x128 54 51
/-- R277: bits [31:0] of 0x130, RO. -/
def STEPSEQ.HELD_STEP_NUMBER : Fld := mk 0x130 31 0
/-- R277: bits [47:32] of 0x130, RO. -/
def STEPSEQ.HELD_GEN : Fld := mk 0x130 47 32
/-- R277: bits [48:48] of 0x130, RO. -/
def STEPSEQ.HELD_VALID : Fld := mk 0x130 48 48
/-- R277: bits [49:49] of 0x130, RO. -/
def STEPSEQ.HELD_URGENT : Fld := mk 0x130 49 49
/-- R277: bits [50:50] of 0x130, RO. -/
def STEPSEQ.HELD_RETAGGED : Fld := mk 0x130 50 50
/-- R277: bits [31:0] of 0x140, RO. -/
def STEPSEQ.LAST_OPENED : Fld := mk 0x140 31 0
/-- R277: bits [32:32] of 0x140, RO. -/
def STEPSEQ.LO_VALID : Fld := mk 0x140 32 32
/-- R277: bits [0:0] of 0x148, WO. -/
def STEPSEQ.ABORT_STEP : Fld := mk 0x148 0 0
/-- R277: bits [1:1] of 0x148, WO. -/
def STEPSEQ.LAYER_GO : Fld := mk 0x148 1 1
/-- R277: bits [15:8] of 0x148, RO. -/
def STEPSEQ.HALT_CAUSE : Fld := mk 0x148 15 8
/-- R277: bits [25:16] of 0x148, RO. -/
def STEPSEQ.HALT_LAYER : Fld := mk 0x148 25 16
/-- R277: bits [31:0] of 0x150, RO. -/
def STEPSEQ.COMMITS : Fld := mk 0x150 31 0
/-- R277: bits [63:32] of 0x150, RO. -/
def STEPSEQ.ABORTS : Fld := mk 0x150 63 32
/-- R277: bits [15:0] of 0x158, RO. -/
def STEPSEQ.PREEMPTS : Fld := mk 0x158 15 0
/-- R277: bits [31:16] of 0x158, RO. -/
def STEPSEQ.RERUN_COUNT : Fld := mk 0x158 31 16
/-- R277: bits [63:32] of 0x158, RO. -/
def STEPSEQ.DEFERRED_ENTRIES : Fld := mk 0x158 63 32
/-- R277: bits [31:0] of 0x160, RO. -/
def STEPSEQ.GRANTS_REFUSED : Fld := mk 0x160 31 0
/-- R277: bits [47:32] of 0x160, RO. -/
def STEPSEQ.GAP_OPENS : Fld := mk 0x160 47 32
/-- R277: bits [8:0] of 0x168, RW. -/
def STEPSEQ.MAP_INDEX : Fld := mk 0x168 8 0
/-- R277: bits [19:0] of 0x170, RW. -/
def STEPSEQ.MAP_PAGE : Fld := mk 0x170 19 0
/-- R277: bits [20:20] of 0x170, RW. -/
def STEPSEQ.MAP_VALID : Fld := mk 0x170 20 20
/-- R304: bits [7:0] of 0x100, RW. -/
def SQUALL.SQ_GROUPS : Fld := mk 0x100 7 0
/-- R304: bits [2:0] of 0x108, RW. -/
def SQUALL.PLAN_SEL : Fld := mk 0x108 2 0
/-- R304: bits [44:6] of 0x110, RW. -/
def SQUALL.PLAN_BASE : Fld := mk 0x110 44 6
/-- R304: bits [0:0] of 0x118, WO. -/
def SQUALL.PLAN_CHECK : Fld := mk 0x118 0 0
/-- R304: bits [1:1] of 0x118, RO. -/
def SQUALL.PLAN_VALID : Fld := mk 0x118 1 1
/-- R304: bits [15:8] of 0x118, RO. -/
def SQUALL.PLAN_STATUS : Fld := mk 0x118 15 8
/-- R304: bits [31:16] of 0x118, RO. -/
def SQUALL.JOBS : Fld := mk 0x118 31 16
/-- R304: bits [9:0] of 0x120, RO. -/
def SQUALL.OUTSTANDING : Fld := mk 0x120 9 0
/-- R304: bits [23:16] of 0x120, RO. -/
def SQUALL.JOBS_ACTIVE : Fld := mk 0x120 23 16
/-- R304: bits [31:0] of 0x128, RO. -/
def SQUALL.JOBS_DONE : Fld := mk 0x128 31 0
/-- R304: bits [63:32] of 0x128, RO. -/
def SQUALL.JOBS_FAILED : Fld := mk 0x128 63 32
/-- R304: bits [63:0] of 0x130, RO. -/
def SQUALL.FETCH_BYTES : Fld := mk 0x130 63 0
/-- R304: bits [31:0] of 0x138, RO. -/
def SQUALL.NULL_EXPERTS : Fld := mk 0x138 31 0
/-- R304: bits [63:32] of 0x138, RO. -/
def SQUALL.ZERO_HEADERS : Fld := mk 0x138 63 32
/-- R304: bits [31:0] of 0x140, RO. -/
def SQUALL.STALE_ARRIVALS : Fld := mk 0x140 31 0
/-- R304: bits [63:32] of 0x140, RO. -/
def SQUALL.READY_DROPPED : Fld := mk 0x140 63 32
/-- R304: bits [15:0] of 0x148, RO. -/
def SQUALL.FAIL_JOB : Fld := mk 0x148 15 0
/-- R304: bits [23:16] of 0x148, RO. -/
def SQUALL.FAIL_STATUS : Fld := mk 0x148 23 16
/-- R304: bits [26:24] of 0x148, RO. -/
def SQUALL.FAIL_GROUP : Fld := mk 0x148 26 24
/-- R304: bits [47:32] of 0x148, RO. -/
def SQUALL.FAIL_PEER : Fld := mk 0x148 47 32
/-- R332: bits [0:0] of 0x100, RW. -/
def CONTRAIL.ENABLE : Fld := mk 0x100 0 0
/-- R332: bits [23:0] of 0x108, RW. -/
def CONTRAIL.PROMPT_BASE : Fld := mk 0x108 23 0
/-- R332: bits [36:32] of 0x108, RW. -/
def CONTRAIL.LOG2_TOKENS : Fld := mk 0x108 36 32
/-- R332: bits [11:0] of 0x110, RW. -/
def CONTRAIL.RING_INDEX : Fld := mk 0x110 11 0
/-- R332: bits [31:0] of 0x118, RO. -/
def CONTRAIL.PI : Fld := mk 0x118 31 0
/-- R332: bits [63:32] of 0x118, RO. -/
def CONTRAIL.CI : Fld := mk 0x118 63 32
/-- R332: bits [18:0] of 0x120, RO. -/
def CONTRAIL.INCARNATION : Fld := mk 0x120 18 0
/-- R332: bits [21:20] of 0x120, RO. -/
def CONTRAIL.RING_STATE : Fld := mk 0x120 21 20
/-- R332: bits [26:24] of 0x120, RO. -/
def CONTRAIL.TGROUP : Fld := mk 0x120 26 24
/-- R332: bits [43:32] of 0x120, RO. -/
def CONTRAIL.SESSION : Fld := mk 0x120 43 32
/-- R332: bits [51:48] of 0x120, RO. -/
def CONTRAIL.ALIVE : Fld := mk 0x120 51 48
/-- R332: bits [52:52] of 0x120, RO. -/
def CONTRAIL.SESSION_LOST : Fld := mk 0x120 52 52
/-- R332: bits [11:0] of 0x128, RO. -/
def CONTRAIL.CUSTOMER : Fld := mk 0x128 11 0
/-- R332: bits [31:16] of 0x128, RO. -/
def CONTRAIL.KEEPALIVE_MS : Fld := mk 0x128 31 16
/-- R332: bits [48:32] of 0x128, RO. -/
def CONTRAIL.PROMPT_PENDING : Fld := mk 0x128 48 32
/-- R332: bits [15:0] of 0x130, RO. -/
def CONTRAIL.BIND_ADAPTER : Fld := mk 0x130 15 0
/-- R332: bits [17:16] of 0x130, RO. -/
def CONTRAIL.KIND : Fld := mk 0x130 17 16
/-- R332: bits [18:18] of 0x130, RO. -/
def CONTRAIL.PINNED : Fld := mk 0x130 18 18
/-- R332: bits [43:32] of 0x130, RO. -/
def CONTRAIL.PIN_SLOT : Fld := mk 0x130 43 32
/-- R332: bits [31:0] of 0x138, RO. -/
def CONTRAIL.TOKENS_SENT : Fld := mk 0x138 31 0
/-- R332: bits [63:32] of 0x138, RO. -/
def CONTRAIL.MESSAGES : Fld := mk 0x138 63 32
/-- R332: bits [15:0] of 0x140, RO. -/
def CONTRAIL.RESENDS : Fld := mk 0x140 15 0
/-- R332: bits [31:16] of 0x140, RO. -/
def CONTRAIL.ACKS_REFUSED : Fld := mk 0x140 31 16
/-- R332: bits [63:32] of 0x140, RO. -/
def CONTRAIL.OPENS : Fld := mk 0x140 63 32
/-- R333: bits [4:0] of 0x180, RW. -/
def CONTRAIL.PROMPT_WEIGHT : Fld := mk 0x180 4 0
/-- R333: bits [11:0] of 0x1C0, RW. -/
def CONTRAIL.BK_CUSTOMER : Fld := mk 0x1C0 11 0
/-- R333: bits [18:16] of 0x1C0, RW. -/
def CONTRAIL.BK_TGROUP : Fld := mk 0x1C0 18 16
/-- R333: bits [31:0] of 0x1C8, RW. -/
def CONTRAIL.RATE : Fld := mk 0x1C8 31 0
/-- R333: bits [55:32] of 0x1C8, RW. -/
def CONTRAIL.CAP : Fld := mk 0x1C8 55 32
/-- R333: bits [56:56] of 0x1C8, RW. -/
def CONTRAIL.BK_ENABLE : Fld := mk 0x1C8 56 56
/-- R333: bits [47:0] of 0x1D0, RW. -/
def CONTRAIL.BALANCE : Fld := mk 0x1D0 47 0
/-- R333: bits [47:0] of 0x1D8, WO. -/
def CONTRAIL.CREDIT : Fld := mk 0x1D8 47 0
/-- R333: bits [63:0] of 0x1E0, RO. -/
def CONTRAIL.DEBITED : Fld := mk 0x1E0 63 0
/-- R333: bits [55:0] of 0x200, RW. -/
def CONTRAIL.AD_STORE : Fld := mk 0x200 55 0
/-- R333: bits [11:0] of 0x208, RW. -/
def CONTRAIL.AD_INDEX : Fld := mk 0x208 11 0
/-- R333: bits [15:0] of 0x210, RW. -/
def CONTRAIL.AD_ADAPTER : Fld := mk 0x210 15 0
/-- R333: bits [23:16] of 0x210, RW. -/
def CONTRAIL.VERSION : Fld := mk 0x210 23 16
/-- R333: bits [35:24] of 0x210, RW. -/
def CONTRAIL.OWNER : Fld := mk 0x210 35 24
/-- R333: bits [36:36] of 0x210, RW. -/
def CONTRAIL.PUBLIC : Fld := mk 0x210 36 36
/-- R333: bits [47:40] of 0x210, RW. -/
def CONTRAIL.TGROUP_MASK : Fld := mk 0x210 47 40
/-- R333: bits [55:48] of 0x210, RW. -/
def CONTRAIL.RANK_M1 : Fld := mk 0x210 55 48
/-- R333: bits [57:56] of 0x210, RO. -/
def CONTRAIL.AD_STATE : Fld := mk 0x210 57 56
/-- R333: bits [23:0] of 0x218, RW. -/
def CONTRAIL.IMAGE_BASE : Fld := mk 0x218 23 0
/-- R333: bits [47:32] of 0x218, RW. -/
def CONTRAIL.IMAGE_PAGES : Fld := mk 0x218 47 32
/-- R333: bits [13:0] of 0x220, RO. -/
def CONTRAIL.REFS : Fld := mk 0x220 13 0
/-- R333: bits [19:16] of 0x220, RO. -/
def CONTRAIL.USES : Fld := mk 0x220 19 16
/-- R333: bits [0:0] of 0x228, WO. -/
def CONTRAIL.INSTALL : Fld := mk 0x228 0 0
/-- R333: bits [1:1] of 0x228, WO. -/
def CONTRAIL.SUPERSEDE : Fld := mk 0x228 1 1
/-- R333: bits [2:2] of 0x228, WO. -/
def CONTRAIL.RETIRE : Fld := mk 0x228 2 2
/-- R333: bits [15:8] of 0x228, RO. -/
def CONTRAIL.AD_STATUS : Fld := mk 0x228 15 8
/-- R333: bits [12:0] of 0x230, RO. -/
def CONTRAIL.AD_IN_USE : Fld := mk 0x230 12 0
/-- R360: bits [0:0] of 0x100, RW. -/
def FLINK.ENABLE : Fld := mk 0x100 0 0
/-- R360: bits [1:1] of 0x100, RW. -/
def FLINK.TRUNK : Fld := mk 0x100 1 1
/-- R360: bits [2:2] of 0x100, RW. -/
def FLINK.AUTO_RECAL : Fld := mk 0x100 2 2
/-- R360: bits [3:3] of 0x100, RW. -/
def FLINK.WIDTH4_EN : Fld := mk 0x100 3 3
/-- R360: bits [11:8] of 0x100, RW. -/
def FLINK.PROTO_CAP : Fld := mk 0x100 11 8
/-- R360: bits [31:16] of 0x100, RW. -/
def FLINK.RECAL_PERIOD : Fld := mk 0x100 31 16
/-- R360: bits [15:0] of 0x108, RW. -/
def FLINK.EXP_APPL_PKG : Fld := mk 0x108 15 0
/-- R360: bits [20:16] of 0x108, RW. -/
def FLINK.EXP_LINK : Fld := mk 0x108 20 16
/-- R360: bits [24:24] of 0x108, RW. -/
def FLINK.EXP_VALID : Fld := mk 0x108 24 24
/-- R360: bits [15:0] of 0x110, RO. -/
def FLINK.ACT_APPL_PKG : Fld := mk 0x110 15 0
/-- R360: bits [20:16] of 0x110, RO. -/
def FLINK.ACT_LINK : Fld := mk 0x110 20 16
/-- R360: bits [30:24] of 0x110, RO. -/
def FLINK.ACT_PKG_INDEX : Fld := mk 0x110 30 24
/-- R360: bits [32:32] of 0x110, RO. -/
def FLINK.ACT_TRUNK : Fld := mk 0x110 32 32
/-- R360: bits [39:36] of 0x110, RO. -/
def FLINK.ACT_REV : Fld := mk 0x110 39 36
/-- R360: bits [40:40] of 0x110, RO. -/
def FLINK.ACT_VALID : Fld := mk 0x110 40 40
/-- R360: bits [2:0] of 0x118, RO. -/
def FLINK.LINK_STATE : Fld := mk 0x118 2 0
/-- R360: bits [7:4] of 0x118, RO. -/
def FLINK.NEG_REV : Fld := mk 0x118 7 4
/-- R360: bits [11:8] of 0x118, RO. -/
def FLINK.WIDTH : Fld := mk 0x118 11 8
/-- R360: bits [12:12] of 0x118, RO. -/
def FLINK.SPARE_FREE : Fld := mk 0x118 12 12
/-- R360: bits [18:16] of 0x118, RO. -/
def FLINK.QUAR_CAUSE : Fld := mk 0x118 18 16
/-- R360: bits [23:20] of 0x118, RO. -/
def FLINK.SPARE_LANE : Fld := mk 0x118 23 20
/-- R360: bits [31:0] of 0x120, RO. -/
def FLINK.LANE_MAP : Fld := mk 0x120 31 0
/-- R360: bits [40:32] of 0x120, RO. -/
def FLINK.FAILED : Fld := mk 0x120 40 32
/-- R360: bits [39:0] of 0x128, RW. -/
def FLINK.VC_ALLOC : Fld := mk 0x128 39 0
/-- R360: bits [3:0] of 0x130, RW. -/
def FLINK.W_VC0 : Fld := mk 0x130 3 0
/-- R360: bits [7:4] of 0x130, RW. -/
def FLINK.W_VC1 : Fld := mk 0x130 7 4
/-- R360: bits [11:8] of 0x130, RW. -/
def FLINK.W_VC2 : Fld := mk 0x130 11 8
/-- R360: bits [20:16] of 0x130, RW. -/
def FLINK.TRANSIT_SHARE : Fld := mk 0x130 20 16
/-- R360: bits [0:0] of 0x138, WO. -/
def FLINK.RETRAIN : Fld := mk 0x138 0 0
/-- R360: bits [1:1] of 0x138, WO. -/
def FLINK.ACCEPT : Fld := mk 0x138 1 1
/-- R360: bits [2:2] of 0x138, WO. -/
def FLINK.RECAL : Fld := mk 0x138 2 2
/-- R360: bits [3:3] of 0x138, RO. -/
def FLINK.RECAL_BUSY : Fld := mk 0x138 3 3
/-- R360: bits [11:8] of 0x138, RW. -/
def FLINK.RECAL_LANE : Fld := mk 0x138 11 8
/-- R360: bits [23:16] of 0x138, RO. -/
def FLINK.CTRL_STATUS : Fld := mk 0x138 23 16
/-- R360: bits [31:0] of 0x140, RO. -/
def FLINK.FEC_CORR : Fld := mk 0x140 31 0
/-- R360: bits [47:32] of 0x140, RO. -/
def FLINK.FEC_UNCORR : Fld := mk 0x140 47 32
/-- R360: bits [63:48] of 0x140, RO. -/
def FLINK.PARITY_FAIL : Fld := mk 0x140 63 48
/-- R360: bits [15:0] of 0x148, RO. -/
def FLINK.REPLAYS : Fld := mk 0x148 15 0
/-- R360: bits [31:16] of 0x148, RO. -/
def FLINK.REPLAY_TIMEOUTS : Fld := mk 0x148 31 16
/-- R360: bits [47:32] of 0x148, RO. -/
def FLINK.FAULTS : Fld := mk 0x148 47 32
/-- R360: bits [63:48] of 0x148, RO. -/
def FLINK.RETRAINS : Fld := mk 0x148 63 48
/-- R360: bits [15:0] of 0x150, RO. -/
def FLINK.VC_DISCARDS : Fld := mk 0x150 15 0
/-- R360: bits [31:16] of 0x150, RO. -/
def FLINK.CTRL_UNKNOWN : Fld := mk 0x150 31 16
/-- R360: bits [35:32] of 0x150, RW. -/
def FLINK.LANE_INDEX : Fld := mk 0x150 35 32
/-- R360: bits [31:0] of 0x158, RO. -/
def FLINK.LANE_CORR : Fld := mk 0x158 31 0
/-- R360: bits [34:32] of 0x158, RO. -/
def FLINK.LANE_STATE : Fld := mk 0x158 34 32
/-- R360: bits [43:40] of 0x158, RO. -/
def FLINK.TX_PRESET : Fld := mk 0x158 43 40
/-- R360: bits [63:48] of 0x158, RO. -/
def FLINK.LANE_RECALS : Fld := mk 0x158 63 48
/-- R360: bits [31:0] of 0x160, RO. -/
def FLINK.DATA_FLITS_TX : Fld := mk 0x160 31 0
/-- R360: bits [63:32] of 0x160, RO. -/
def FLINK.DATA_FLITS_RX : Fld := mk 0x160 63 32
/-- R386: bits [7:0] of 0x100, RW. -/
def FROUTER.IMP_INDEX : Fld := mk 0x100 7 0
/-- R386: bits [44:12] of 0x108, RW. -/
def FROUTER.IMP_BASE : Fld := mk 0x108 44 12
/-- R386: bits [44:12] of 0x110, RW. -/
def FROUTER.IMP_SIZE : Fld := mk 0x110 44 12
/-- R386: bits [15:0] of 0x118, RW. -/
def FROUTER.IMP_JOB : Fld := mk 0x118 15 0
/-- R386: bits [21:16] of 0x118, RW. -/
def FROUTER.IMP_PARTITION : Fld := mk 0x118 21 16
/-- R386: bits [24:24] of 0x118, RW. -/
def FROUTER.IMP_VALID : Fld := mk 0x118 24 24
/-- R386: bits [25:25] of 0x118, RW. -/
def FROUTER.IMP_RD : Fld := mk 0x118 25 25
/-- R386: bits [26:26] of 0x118, RW. -/
def FROUTER.IMP_WR : Fld := mk 0x118 26 26
/-- R386: bits [27:27] of 0x118, RW. -/
def FROUTER.IMP_ATOMIC : Fld := mk 0x118 27 27
/-- R386: bits [15:0] of 0x120, RW. -/
def FROUTER.REQ_TIMEOUT : Fld := mk 0x120 15 0
/-- R386: bits [16:16] of 0x120, RW. -/
def FROUTER.COMBINE_EN : Fld := mk 0x120 16 16
/-- R386: bits [47:32] of 0x120, RW. -/
def FROUTER.CB_TIMEOUT : Fld := mk 0x120 47 32
/-- R386: bits [63:0] of 0x128, RW. -/
def FROUTER.MGMT_ALLOW0 : Fld := mk 0x128 63 0
/-- R386: bits [63:0] of 0x130, RW. -/
def FROUTER.MGMT_ALLOW1 : Fld := mk 0x130 63 0
/-- R386: bits [14:0] of 0x138, RO. -/
def FROUTER.OUTSTANDING : Fld := mk 0x138 14 0
/-- R386: bits [31:0] of 0x140, RO. -/
def FROUTER.CHECK_FAILS : Fld := mk 0x140 31 0
/-- R386: bits [63:32] of 0x140, RO. -/
def FROUTER.STALE_STAGED : Fld := mk 0x140 63 32
/-- R386: bits [16:0] of 0x148, RO. -/
def FROUTER.CB_USED : Fld := mk 0x148 16 0
/-- R386: bits [48:32] of 0x148, RO. -/
def FROUTER.CB_PEAK : Fld := mk 0x148 48 32
/-- R386: bits [44:8] of 0x150, RO. -/
def FROUTER.HOT_LINE_ADDR : Fld := mk 0x150 44 8
/-- R386: bits [51:45] of 0x150, RO. -/
def FROUTER.HOT_TOP_SRC : Fld := mk 0x150 51 45
/-- R386: bits [58:52] of 0x150, RO. -/
def FROUTER.HOT_QUEUES : Fld := mk 0x150 58 52
/-- R386: bits [31:0] of 0x158, RO. -/
def FROUTER.COMBINED_REQS : Fld := mk 0x158 31 0
/-- R386: bits [63:32] of 0x158, RO. -/
def FROUTER.CB_DISCARDED : Fld := mk 0x158 63 32
/-- R386: bits [31:0] of 0x160, RO. -/
def FROUTER.GEN_HOLDS : Fld := mk 0x160 31 0
/-- R386: bits [47:32] of 0x160, RO. -/
def FROUTER.REQ_TIMEOUTS : Fld := mk 0x160 47 32
/-- R386: bits [63:48] of 0x160, RO. -/
def FROUTER.MGMT_REFUSED : Fld := mk 0x160 63 48
/-- R412: bits [3:0] of 0x180, RW. -/
def FROUTER.RT_SET : Fld := mk 0x180 3 0
/-- R412: bits [14:8] of 0x180, RW. -/
def FROUTER.RT_INDEX : Fld := mk 0x180 14 8
/-- R412: bits [63:0] of 0x188, RW. -/
def FROUTER.RT_ENTRY : Fld := mk 0x188 63 0
/-- R412: bits [63:0] of 0x190, RW. -/
def FROUTER.PSET : Fld := mk 0x190 63 0
/-- R412: bits [63:0] of 0x1B0, RW. -/
def FROUTER.DOM_ROUTE : Fld := mk 0x1B0 63 0
/-- R412: bits [2:0] of 0x1F0, RW. -/
def FROUTER.OWN_DOMAIN : Fld := mk 0x1F0 2 0
/-- R412: bits [14:8] of 0x1F0, RW. -/
def FROUTER.PKG_INDEX : Fld := mk 0x1F0 14 8
/-- R412: bits [31:16] of 0x1F0, RW. -/
def FROUTER.APPL_PKG_NUMBER : Fld := mk 0x1F0 31 16
/-- R412: bits [15:0] of 0x1F8, RW. -/
def FROUTER.LOST_DELAY : Fld := mk 0x1F8 15 0
/-- R412: bits [16:16] of 0x1F8, RW. -/
def FROUTER.AUTO_LOST : Fld := mk 0x1F8 16 16
/-- R412: bits [63:0] of 0x200, RO. -/
def FROUTER.LOST0 : Fld := mk 0x200 63 0
/-- R412: bits [63:0] of 0x208, RO. -/
def FROUTER.LOST1 : Fld := mk 0x208 63 0
/-- R412: bits [6:0] of 0x210, RW. -/
def FROUTER.LOST_INDEX : Fld := mk 0x210 6 0
/-- R412: bits [8:8] of 0x210, WO. -/
def FROUTER.SET : Fld := mk 0x210 8 8
/-- R412: bits [9:9] of 0x210, WO. -/
def FROUTER.CLEAR : Fld := mk 0x210 9 9
/-- R412: bits [63:0] of 0x218, RO. -/
def FROUTER.UNREACH0 : Fld := mk 0x218 63 0
/-- R412: bits [63:0] of 0x220, RO. -/
def FROUTER.UNREACH1 : Fld := mk 0x220 63 0
/-- R412: bits [5:0] of 0x228, RW. -/
def FROUTER.TG_SEL : Fld := mk 0x228 5 0
/-- R412: bits [5:0] of 0x230, RW. -/
def FROUTER.TG_PARTITION : Fld := mk 0x230 5 0
/-- R412: bits [8:8] of 0x230, RW. -/
def FROUTER.TG_VALID : Fld := mk 0x230 8 8
/-- R412: bits [22:16] of 0x230, RW. -/
def FROUTER.DST_FIRST : Fld := mk 0x230 22 16
/-- R412: bits [30:24] of 0x230, RW. -/
def FROUTER.DST_LAST : Fld := mk 0x230 30 24
/-- R412: bits [23:0] of 0x238, RW. -/
def FROUTER.IN_LINKS : Fld := mk 0x238 23 0
/-- R412: bits [36:32] of 0x238, RW. -/
def FROUTER.TG_PORT0 : Fld := mk 0x238 36 32
/-- R412: bits [44:40] of 0x238, RW. -/
def FROUTER.TG_PORT1 : Fld := mk 0x238 44 40
/-- R412: bits [63:0] of 0x240, RW. -/
def FROUTER.LINK_OWNER : Fld := mk 0x240 63 0
/-- R412: bits [23:0] of 0x258, RO. -/
def FROUTER.PORT_UP : Fld := mk 0x258 23 0
/-- R412: bits [55:32] of 0x258, RO. -/
def FROUTER.PORT_MGMT : Fld := mk 0x258 55 32
/-- R412: bits [31:0] of 0x260, RO. -/
def FROUTER.ROUTE_REFUSED : Fld := mk 0x260 31 0
/-- R412: bits [63:32] of 0x260, RO. -/
def FROUTER.TRANSIT_FWD : Fld := mk 0x260 63 32
/-- R412: bits [31:0] of 0x268, RO. -/
def FROUTER.REROUTES : Fld := mk 0x268 31 0
/-- R412: bits [63:32] of 0x268, RO. -/
def FROUTER.HOME_LOST_ANSWERS : Fld := mk 0x268 63 32
/-- R412: bits [4:0] of 0x270, RO. -/
def FROUTER.LAST_FAULT_LINK : Fld := mk 0x270 4 0
/-- R412: bits [14:8] of 0x270, RO. -/
def FROUTER.LAST_LOST : Fld := mk 0x270 14 8
/-- R441: bits [15:0] of 0x100, RW. -/
def GCT.UDP_PORT : Fld := mk 0x100 15 0
/-- R441: bits [16:16] of 0x100, RW. -/
def GCT.IPV4_EN : Fld := mk 0x100 16 16
/-- R441: bits [17:17] of 0x100, RW. -/
def GCT.RAW_EN : Fld := mk 0x100 17 17
/-- R441: bits [15:0] of 0x108, RW. -/
def GCT.RTO_MIN_US : Fld := mk 0x108 15 0
/-- R441: bits [23:16] of 0x108, RW. -/
def GCT.RTO_MAX_MS : Fld := mk 0x108 23 16
/-- R441: bits [27:24] of 0x108, RW. -/
def GCT.FAILOVER_RETRIES : Fld := mk 0x108 27 24
/-- R441: bits [31:28] of 0x108, RW. -/
def GCT.SESSION_RETRIES : Fld := mk 0x108 31 28
/-- R441: bits [39:32] of 0x108, RW. -/
def GCT.ACK_DELAY_US : Fld := mk 0x108 39 32
/-- R441: bits [55:40] of 0x108, RW. -/
def GCT.FAILOVER_HOLD_US : Fld := mk 0x108 55 40
/-- R441: bits [15:0] of 0x110, RW. -/
def GCT.IDLE_S : Fld := mk 0x110 15 0
/-- R441: bits [11:0] of 0x118, RW. -/
def GCT.SESS_INDEX : Fld := mk 0x118 11 0
/-- R441: bits [0:0] of 0x120, RO. -/
def GCT.ESTABLISHED : Fld := mk 0x120 0 0
/-- R441: bits [1:1] of 0x120, RO. -/
def GCT.ANCHOR_B : Fld := mk 0x120 1 1
/-- R441: bits [2:2] of 0x120, RO. -/
def GCT.ALT_VALID : Fld := mk 0x120 2 2
/-- R441: bits [3:3] of 0x120, RO. -/
def GCT.RAW : Fld := mk 0x120 3 3
/-- R441: bits [7:4] of 0x120, RO. -/
def GCT.AK_INDEX : Fld := mk 0x120 7 4
/-- R441: bits [31:16] of 0x120, RO. -/
def GCT.EPOCH : Fld := mk 0x120 31 16
/-- R441: bits [43:32] of 0x120, RO. -/
def GCT.PERM : Fld := mk 0x120 43 32
/-- R441: bits [31:0] of 0x128, RO. -/
def GCT.TX_SEQ : Fld := mk 0x128 31 0
/-- R441: bits [63:32] of 0x128, RO. -/
def GCT.RX_SEQ : Fld := mk 0x128 63 32
/-- R441: bits [15:0] of 0x130, RO. -/
def GCT.SRTT_US : Fld := mk 0x130 15 0
/-- R441: bits [31:16] of 0x130, RO. -/
def GCT.RTO_US : Fld := mk 0x130 31 16
/-- R441: bits [40:32] of 0x130, RO. -/
def GCT.UNACKED : Fld := mk 0x130 40 32
/-- R441: bits [60:48] of 0x130, RO. -/
def GCT.SUBS : Fld := mk 0x130 60 48
/-- R441: bits [0:0] of 0x138, WO. -/
def GCT.CLOSE : Fld := mk 0x138 0 0
/-- R441: bits [1:1] of 0x138, WO. -/
def GCT.MOVE : Fld := mk 0x138 1 1
/-- R441: bits [15:8] of 0x138, RO. -/
def GCT.CTRL_STATUS : Fld := mk 0x138 15 8
/-- R441: bits [12:0] of 0x140, RO. -/
def GCT.ANCHORED : Fld := mk 0x140 12 0
/-- R441: bits [22:16] of 0x140, RO. -/
def GCT.HALF_OPEN : Fld := mk 0x140 22 16
/-- R441: bits [63:32] of 0x140, RO. -/
def GCT.RETX_FREE : Fld := mk 0x140 63 32
/-- R441: bits [31:0] of 0x148, RO. -/
def GCT.SETUPS_DONE : Fld := mk 0x148 31 0
/-- R441: bits [63:32] of 0x148, RO. -/
def GCT.SETUP_FAILS : Fld := mk 0x148 63 32
/-- R441: bits [31:0] of 0x150, RO. -/
def GCT.RETRANSMITS : Fld := mk 0x150 31 0
/-- R441: bits [47:32] of 0x150, RO. -/
def GCT.FAILOVERS : Fld := mk 0x150 47 32
/-- R441: bits [63:48] of 0x150, RO. -/
def GCT.TIMEOUTS : Fld := mk 0x150 63 48
/-- R441: bits [31:0] of 0x158, RO. -/
def GCT.DROPPED : Fld := mk 0x158 31 0
/-- R441: bits [63:32] of 0x158, RO. -/
def GCT.EVT_LOST : Fld := mk 0x158 63 32
/-- R442: bits [63:0] of 0x100, RO. -/
def DPORT.BYTES_WRITTEN : Fld := mk 0x100 63 0
/-- R442: bits [63:0] of 0x108, RO. -/
def DPORT.BYTES_READ : Fld := mk 0x108 63 0
/-- R442: bits [31:0] of 0x110, RO. -/
def DPORT.OPS : Fld := mk 0x110 31 0
/-- R442: bits [47:32] of 0x110, RO. -/
def DPORT.ERRORS : Fld := mk 0x110 47 32
/-- R442: bits [55:48] of 0x110, RO. -/
def DPORT.LAST_STATUS : Fld := mk 0x110 55 48
/-- R443: bits [1:0] of 0x100, RW. -/
def ENET.MODE : Fld := mk 0x100 1 0
/-- R443: bits [2:2] of 0x100, RW. -/
def ENET.FALLBACK_EN : Fld := mk 0x100 2 2
/-- R443: bits [3:3] of 0x100, RW. -/
def ENET.AN_EN : Fld := mk 0x100 3 3
/-- R443: bits [1:0] of 0x108, RO. -/
def ENET.SPEED : Fld := mk 0x108 1 0
/-- R443: bits [47:0] of 0x110, RW. -/
def ENET.MAC : Fld := mk 0x110 47 0
/-- R443: bits [63:0] of 0x118, RW. -/
def ENET.IPV6_HI : Fld := mk 0x118 63 0
/-- R443: bits [63:0] of 0x120, RW. -/
def ENET.IPV6_LO : Fld := mk 0x120 63 0
/-- R443: bits [31:0] of 0x128, RW. -/
def ENET.IPV4 : Fld := mk 0x128 31 0
/-- R443: bits [32:32] of 0x128, RW. -/
def ENET.V6_VALID : Fld := mk 0x128 32 32
/-- R443: bits [33:33] of 0x128, RW. -/
def ENET.V4_VALID : Fld := mk 0x128 33 33
/-- R443: bits [0:0] of 0x130, RW. -/
def ENET.MACSEC_EN : Fld := mk 0x130 0 0
/-- R443: bits [1:1] of 0x130, RW. -/
def ENET.REQUIRE : Fld := mk 0x130 1 1
/-- R443: bits [2:2] of 0x130, RW. -/
def ENET.XPN : Fld := mk 0x130 2 2
/-- R443: bits [3:3] of 0x130, RW. -/
def ENET.PTP_BYPASS : Fld := mk 0x130 3 3
/-- R443: bits [4:4] of 0x130, RW. -/
def ENET.TX_AN : Fld := mk 0x130 4 4
/-- R443: bits [8:8] of 0x130, RW. -/
def ENET.LOAD_AN : Fld := mk 0x130 8 8
/-- R443: bits [9:9] of 0x130, RW. -/
def ENET.LOAD_RX : Fld := mk 0x130 9 9
/-- R443: bits [10:10] of 0x130, WO. -/
def ENET.LOAD : Fld := mk 0x130 10 10
/-- R443: bits [63:0] of 0x138, WO. -/
def ENET.SAK : Fld := mk 0x138 63 0
/-- R443: bits [31:0] of 0x158, WO. -/
def ENET.SSCI : Fld := mk 0x158 31 0
/-- R443: bits [63:0] of 0x160, WO. -/
def ENET.SALT_LO : Fld := mk 0x160 63 0
/-- R443: bits [31:0] of 0x168, WO. -/
def ENET.SALT_HI : Fld := mk 0x168 31 0
/-- R443: bits [31:0] of 0x170, RO. -/
def ENET.RX_FRAMES : Fld := mk 0x170 31 0
/-- R443: bits [63:32] of 0x170, RO. -/
def ENET.RX_DROPS : Fld := mk 0x170 63 32
/-- R443: bits [31:0] of 0x178, RO. -/
def ENET.TX_FRAMES : Fld := mk 0x178 31 0
/-- R444: bits [63:0] of 0x100, RO. -/
def TIME.DEVICE_TIME : Fld := mk 0x100 63 0
/-- R444: bits [1:0] of 0x108, RW. -/
def TIME.SOURCE : Fld := mk 0x108 1 0
/-- R444: bits [2:2] of 0x108, RW. -/
def TIME.AUTO : Fld := mk 0x108 2 2
/-- R444: bits [5:4] of 0x108, RW. -/
def TIME.PORT_A : Fld := mk 0x108 5 4
/-- R444: bits [7:6] of 0x108, RW. -/
def TIME.PORT_B : Fld := mk 0x108 7 6
/-- R444: bits [15:8] of 0x108, RW. -/
def TIME.PTP_DOMAIN : Fld := mk 0x108 15 8
/-- R444: bits [17:16] of 0x108, RW. -/
def TIME.TRANSPORT : Fld := mk 0x108 17 16
/-- R444: bits [18:18] of 0x108, RW. -/
def TIME.PPS_OUT_EN : Fld := mk 0x108 18 18
/-- R444: bits [31:20] of 0x108, RW. -/
def TIME.SYNC_LOSS_MS : Fld := mk 0x108 31 20
/-- R444: bits [1:0] of 0x110, RO. -/
def TIME.ACTIVE_SOURCE : Fld := mk 0x110 1 0
/-- R444: bits [2:2] of 0x110, RO. -/
def TIME.LOCKED : Fld := mk 0x110 2 2
/-- R444: bits [3:3] of 0x110, RO. -/
def TIME.EVER_LOCKED : Fld := mk 0x110 3 3
/-- R444: bits [63:32] of 0x110, RO. -/
def TIME.OFFSET_NS : Fld := mk 0x110 63 32
/-- R444: bits [31:0] of 0x118, RO. -/
def TIME.FREQ_ADJ_PPB : Fld := mk 0x118 31 0
/-- R444: bits [63:32] of 0x118, RO. -/
def TIME.PATH_DELAY_NS : Fld := mk 0x118 63 32
/-- R444: bits [63:0] of 0x120, RW. -/
def TIME.TOD_SET : Fld := mk 0x120 63 0
/-- R444: bits [0:0] of 0x128, WO. -/
def TIME.TOD_ARM : Fld := mk 0x128 0 0
/-- R465: bits [7:0] of 0x100, RO. -/
def BOOT.RESET_CAUSE : Fld := mk 0x100 7 0
/-- R465: bits [8:8] of 0x100, RO. -/
def BOOT.WARM : Fld := mk 0x100 8 8
/-- R465: bits [9:9] of 0x100, RO. -/
def BOOT.RETAIN_VALID : Fld := mk 0x100 9 9
/-- R465: bits [11:10] of 0x100, RO. -/
def BOOT.OPT_SOURCE : Fld := mk 0x100 11 10
/-- R465: bits [13:12] of 0x100, RO. -/
def BOOT.IMAGE : Fld := mk 0x100 13 12
/-- R465: bits [3:0] of 0x108, RO. -/
def BOOT.BOOT_STAGE : Fld := mk 0x108 3 0
/-- R465: bits [15:8] of 0x108, RO. -/
def BOOT.BOOT_STATUS : Fld := mk 0x108 15 8
/-- R465: bits [63:32] of 0x108, RO. -/
def BOOT.READY_TIME : Fld := mk 0x108 63 32
/-- R465: bits [63:0] of 0x110, RO. -/
def BOOT.PIN_FUSES : Fld := mk 0x110 63 0
/-- R465: bits [7:0] of 0x118, RO. -/
def BOOT.RESTART_GROUPS : Fld := mk 0x118 7 0
/-- R465: bits [7:0] of 0x120, RW. -/
def BOOT.TRANSIENT_LIMIT : Fld := mk 0x120 7 0
/-- R465: bits [31:0] of 0x128, RO. -/
def BOOT.ISO_DISCARDS : Fld := mk 0x128 31 0
/-- R465: bits [47:32] of 0x128, RO. -/
def BOOT.CRIT_ERRORS : Fld := mk 0x128 47 32
/-- R465: bits [0:0] of 0x130, WO. -/
def BOOT.OPT_COMMIT : Fld := mk 0x130 0 0
/-- R465: bits [1:1] of 0x130, RO. -/
def BOOT.OPT_BUSY : Fld := mk 0x130 1 1
/-- R465: bits [15:8] of 0x130, RO. -/
def BOOT.OPT_STATUS : Fld := mk 0x130 15 8
/-- R465: bits [31:16] of 0x130, RO. -/
def BOOT.ACTIVE_SERIAL : Fld := mk 0x130 31 16
/-- R465: bits [31:0] of 0x138, RO. -/
def BOOT.RETAIN_BYTES : Fld := mk 0x138 31 0
/-- R465: bits [47:32] of 0x138, RO. -/
def BOOT.SAVE_US : Fld := mk 0x138 47 32
/-- R465: bits [63:0] of 0x200, RW. -/
def BOOT.OPT_STAGE : Fld := mk 0x200 63 0
/-- R465: bits [63:0] of 0x300, RO. -/
def BOOT.OPT_ACTIVE : Fld := mk 0x300 63 0
/-- R495: bits [0:0] of 0x100, RO. -/
def RTU.JTAG_DIS : Fld := mk 0x100 0 0
/-- R495: bits [1:1] of 0x100, RO. -/
def RTU.PROD : Fld := mk 0x100 1 1
/-- R495: bits [2:2] of 0x100, RO. -/
def RTU.KILL : Fld := mk 0x100 2 2
/-- R495: bits [14:8] of 0x100, RO. -/
def RTU.FW_SVN_FLOOR : Fld := mk 0x100 14 8
/-- R495: bits [22:16] of 0x100, RO. -/
def RTU.MFST_SVN_FLOOR : Fld := mk 0x100 22 16
/-- R495: bits [27:24] of 0x100, RO. -/
def RTU.KEY_REVOKED : Fld := mk 0x100 27 24
/-- R495: bits [35:28] of 0x100, RO. -/
def RTU.KEY_PURPOSE : Fld := mk 0x100 35 28
/-- R495: bits [1:0] of 0x108, RO. -/
def RTU.RTU_STATE : Fld := mk 0x108 1 0
/-- R495: bits [15:8] of 0x108, RO. -/
def RTU.ERR_CAUSE : Fld := mk 0x108 15 8
/-- R495: bits [22:16] of 0x108, RO. -/
def RTU.RUN_FW_SVN : Fld := mk 0x108 22 16
/-- R495: bits [23:23] of 0x108, RO. -/
def RTU.DEVCERT_OK : Fld := mk 0x108 23 23
/-- R495: bits [6:0] of 0x110, RW. -/
def RTU.SVN_VALUE : Fld := mk 0x110 6 0
/-- R495: bits [8:8] of 0x110, RW. -/
def RTU.SVN_TARGET : Fld := mk 0x110 8 8
/-- R495: bits [9:9] of 0x110, WO. -/
def RTU.SVN_COMMIT : Fld := mk 0x110 9 9
/-- R495: bits [11:10] of 0x110, RW. -/
def RTU.REVOKE_SLOT : Fld := mk 0x110 11 10
/-- R495: bits [12:12] of 0x110, WO. -/
def RTU.REVOKE : Fld := mk 0x110 12 12
/-- R495: bits [13:13] of 0x110, RO. -/
def RTU.SVN_BUSY : Fld := mk 0x110 13 13
/-- R495: bits [23:16] of 0x110, RO. -/
def RTU.SVN_STATUS : Fld := mk 0x110 23 16
/-- R495: bits [3:0] of 0x118, RW. -/
def RTU.AK_INDEX : Fld := mk 0x118 3 0
/-- R495: bits [4:4] of 0x118, RW. -/
def RTU.ROLE : Fld := mk 0x118 4 4
/-- R495: bits [5:5] of 0x118, RO. -/
def RTU.AK_VALID : Fld := mk 0x118 5 5
/-- R495: bits [47:16] of 0x118, RW. -/
def RTU.AK_PERM : Fld := mk 0x118 47 16
/-- R495: bits [63:0] of 0x120, WO. -/
def RTU.AK_VALUE : Fld := mk 0x120 63 0
/-- R495: bits [0:0] of 0x140, WO. -/
def RTU.AK_LOAD : Fld := mk 0x140 0 0
/-- R495: bits [1:1] of 0x140, WO. -/
def RTU.AK_CLEAR : Fld := mk 0x140 1 1
/-- R495: bits [15:8] of 0x140, RO. -/
def RTU.AK_STATUS : Fld := mk 0x140 15 8
/-- R495: bits [44:6] of 0x148, RW. -/
def RTU.FW_SRC : Fld := mk 0x148 44 6
/-- R495: bits [0:0] of 0x150, WO. -/
def RTU.FW_VERIFY : Fld := mk 0x150 0 0
/-- R495: bits [1:1] of 0x150, WO. -/
def RTU.FW_PERSIST : Fld := mk 0x150 1 1
/-- R495: bits [2:2] of 0x150, WO. -/
def RTU.FW_APPLY : Fld := mk 0x150 2 2
/-- R495: bits [3:3] of 0x150, RO. -/
def RTU.FW_BUSY : Fld := mk 0x150 3 3
/-- R495: bits [4:4] of 0x150, RO. -/
def RTU.FW_READY : Fld := mk 0x150 4 4
/-- R495: bits [15:8] of 0x150, RO. -/
def RTU.FW_STATUS : Fld := mk 0x150 15 8
/-- R495: bits [23:16] of 0x150, RW. -/
def RTU.CPROC_MASK : Fld := mk 0x150 23 16
/-- R495: bits [31:24] of 0x150, RW. -/
def RTU.UCODE_GROUPS : Fld := mk 0x150 31 24
/-- R495: bits [38:32] of 0x150, RO. -/
def RTU.STAGED_SVN : Fld := mk 0x150 38 32
/-- R495: bits [0:0] of 0x158, WO. -/
def RTU.ZEROIZE : Fld := mk 0x158 0 0
/-- R495: bits [1:1] of 0x158, WO. -/
def RTU.DECOMMISSION : Fld := mk 0x158 1 1
/-- R495: bits [63:32] of 0x158, WO. -/
def RTU.CONFIRM : Fld := mk 0x158 63 32
/-- R495: bits [31:0] of 0x160, RO. -/
def RTU.VERIFIES : Fld := mk 0x160 31 0
/-- R495: bits [47:32] of 0x160, RO. -/
def RTU.VERIFY_FAILS : Fld := mk 0x160 47 32
/-- R495: bits [63:48] of 0x160, RO. -/
def RTU.ATTESTS : Fld := mk 0x160 63 48
/-- R495: bits [31:0] of 0x168, RO. -/
def RTU.LOG_TOTAL : Fld := mk 0x168 31 0
/-- R495: bits [44:32] of 0x168, RO. -/
def RTU.LOG_HELD : Fld := mk 0x168 44 32
/-- R495: bits [3:0] of 0x170, RW. -/
def RTU.MR_INDEX : Fld := mk 0x170 3 0
/-- R495: bits [63:0] of 0x178, RO. -/
def RTU.MR_WORD : Fld := mk 0x178 63 0
/-- R521: bits [15:0] of 0x100, RW. -/
def PWR.CAP_W : Fld := mk 0x100 15 0
/-- R521: bits [16:16] of 0x100, RW. -/
def PWR.CAP_EN : Fld := mk 0x100 16 16
/-- R521: bits [47:32] of 0x100, RW. -/
def PWR.CAP_WINDOW : Fld := mk 0x100 47 32
/-- R521: bits [9:0] of 0x108, RW. -/
def PWR.ALERT_FLOOR : Fld := mk 0x108 9 0
/-- R521: bits [16:16] of 0x108, RO. -/
def PWR.ALERT_ACTIVE : Fld := mk 0x108 16 16
/-- R521: bits [47:32] of 0x108, RW. -/
def PWR.ALERT_HOLD : Fld := mk 0x108 47 32
/-- R521: bits [7:0] of 0x110, RW. -/
def PWR.SLEW_UP : Fld := mk 0x110 7 0
/-- R521: bits [15:0] of 0x118, RO. -/
def PWR.VIN_MV : Fld := mk 0x118 15 0
/-- R521: bits [31:16] of 0x118, RO. -/
def PWR.PIN_W : Fld := mk 0x118 31 16
/-- R521: bits [47:32] of 0x118, RO. -/
def PWR.PIN_PEAK_W : Fld := mk 0x118 47 32
/-- R521: bits [57:48] of 0x118, RO. -/
def PWR.V_CAP : Fld := mk 0x118 57 48
/-- R521: bits [31:0] of 0x120, RO. -/
def PWR.ALERTS : Fld := mk 0x120 31 0
/-- R521: bits [63:32] of 0x120, RO. -/
def PWR.CAP_MS : Fld := mk 0x120 63 32
/-- R523: bits [7:0] of 0x100, RW. -/
def THERM.HOLD_C : Fld := mk 0x100 7 0
/-- R523: bits [15:8] of 0x100, RO. -/
def THERM.TRIP_C : Fld := mk 0x100 15 8
/-- R523: bits [16:16] of 0x100, RW. -/
def THERM.HOLD_EN : Fld := mk 0x100 16 16
/-- R523: bits [7:0] of 0x108, RO. -/
def THERM.TJ_MAX : Fld := mk 0x108 7 0
/-- R523: bits [12:8] of 0x108, RO. -/
def THERM.TJ_MAX_SRC : Fld := mk 0x108 12 8
/-- R523: bits [47:24] of 0x108, RO. -/
def THERM.HELD : Fld := mk 0x108 47 24
/-- R523: bits [4:0] of 0x110, RW. -/
def THERM.SENSOR_INDEX : Fld := mk 0x110 4 0
/-- R523: bits [7:0] of 0x118, RO. -/
def THERM.SENSOR_TJ : Fld := mk 0x118 7 0
/-- R523: bits [15:8] of 0x118, RO. -/
def THERM.SENSOR_PEAK : Fld := mk 0x118 15 8
/-- R523: bits [16:16] of 0x118, RO. -/
def THERM.SENSOR_BAD : Fld := mk 0x118 16 16
/-- R523: bits [33:24] of 0x118, RO. -/
def THERM.V_THERM : Fld := mk 0x118 33 24

def EVT.COM.ERR_CORR : Nat := 0
def EVT.COM.ERR_UNCORR : Nat := 1
def EVT.COM.EVT_STATE : Nat := 2
def EVT.COM.TEST_DONE : Nat := 3
def EVT.TILE.CMD_ERR : Nat := 8
def EVT.TILE.HALT_ERR : Nat := 9
def EVT.TILE.STALE_ARRIVAL : Nat := 10
def EVT.TILE.SUBST_IN : Nat := 11
def EVT.TILE.MEMBER_LOST : Nat := 12
def EVT.TILE.KILL_DONE : Nat := 13
def EVT.TILE.SPARE_ROW_USED : Nat := 14
def EVT.TILE.Q_REFUSED : Nat := 15
def EVT.HALO.NAN : Nat := 8
def EVT.HALO.SAT : Nat := 9
def EVT.HALO.ZERO : Nat := 10
def EVT.HALO.L2_JUMP : Nat := 11
def EVT.HALO.MAX_JUMP : Nat := 12
def EVT.HALO.LOG_FULL : Nat := 13
def EVT.HALO.RECIPE_UNAVAILABLE : Nat := 14
def EVT.HALO.UNMATCHED : Nat := 15
def EVT.HALO.STEP_DROPPED : Nat := 16
def EVT.GMEM.CRC_RETRY_LIMIT : Nat := 8
def EVT.GMEM.POISON_FULL : Nat := 9
def EVT.GMEM.RELOC_DONE : Nat := 10
def EVT.GMEM.SEVERITY : Nat := 11
def EVT.MCACHE.FLUSH_DONE : Nat := 8
def EVT.MCACHE.DIRTY_UNCORR : Nat := 9
def EVT.BTIER.LINK_DOWN : Nat := 8
def EVT.BTIER.LINK_UP : Nat := 9
def EVT.BTIER.DEV_EVENT : Nat := 10
def EVT.BTIER.POISON : Nat := 11
def EVT.POOL.DEFERRED : Nat := 8
def EVT.POOL.QUOTA : Nat := 9
def EVT.POOL.BLOCKS_LOST : Nat := 10
def EVT.POOL.FREE_LOW : Nat := 11
def EVT.POOL.REQ_REFUSED : Nat := 12
def EVT.POOL.APPLY_DONE : Nat := 13
def EVT.UPDRAFT.FILL_RETRY : Nat := 8
def EVT.UPDRAFT.FILL_FAIL : Nat := 9
def EVT.UPDRAFT.LOAD_DONE : Nat := 10
def EVT.UPDRAFT.LOAD_FAIL : Nat := 11
def EVT.UPDRAFT.SWAP_SWITCHED : Nat := 12
def EVT.UPDRAFT.SWAP_DONE : Nat := 13
def EVT.UPDRAFT.SWAP_STUCK : Nat := 14
def EVT.UPDRAFT.REARM : Nat := 15
def EVT.UPDRAFT.BLOCKS_FLUSHED : Nat := 16
def EVT.STEPSEQ.STEP_ABORTED : Nat := 8
def EVT.STEPSEQ.PREEMPTED : Nat := 9
def EVT.STEPSEQ.STEP_HELD : Nat := 10
def EVT.STEPSEQ.GRANT_REFUSED : Nat := 11
def EVT.STEPSEQ.RERUN_LIMIT : Nat := 12
def EVT.STEPSEQ.MAP_CHANGED : Nat := 13
def EVT.STEPSEQ.STARVED : Nat := 14
def EVT.STEPSEQ.DEFERRED_ENTRY : Nat := 15
def EVT.SQUALL.JOB_FAIL : Nat := 8
def EVT.SQUALL.STALE_ARRIVAL : Nat := 9
def EVT.SQUALL.PLAN_INVALID : Nat := 10
def EVT.SQUALL.CAPACITY : Nat := 11
def EVT.SQUALL.TIMEOUT : Nat := 12
def EVT.CONTRAIL.RING_FULL : Nat := 8
def EVT.CONTRAIL.ACK_REFUSED : Nat := 9
def EVT.CONTRAIL.SESSION_LOST : Nat := 10
def EVT.CONTRAIL.BUDGET_EMPTY : Nat := 11
def EVT.CONTRAIL.SLOT_FREED : Nat := 12
def EVT.CONTRAIL.INSTALL_DONE : Nat := 13
def EVT.CONTRAIL.OPEN_REFUSED : Nat := 14
def EVT.FLINK.LINK_UP : Nat := 8
def EVT.FLINK.LINK_DOWN : Nat := 9
def EVT.FLINK.QUARANTINE : Nat := 10
def EVT.FLINK.SPARE_USED : Nat := 11
def EVT.FLINK.DEGRADED : Nat := 12
def EVT.FLINK.RECAL_DONE : Nat := 13
def EVT.FLINK.RECAL_FAIL : Nat := 14
def EVT.FLINK.VC_DISCARD : Nat := 15
def EVT.FLINK.REV_LOW : Nat := 16
def EVT.FROUTER.HOT_LINE : Nat := 8
def EVT.FROUTER.HOT_OVERFLOW : Nat := 9
def EVT.FROUTER.CB_FULL : Nat := 10
def EVT.FROUTER.CB_DISCARD : Nat := 11
def EVT.FROUTER.CHECK_FAIL : Nat := 12
def EVT.FROUTER.MGMT_REFUSED : Nat := 13
def EVT.FROUTER.GEN_HOLD_FULL : Nat := 14
def EVT.FROUTER.STALE_STAGED : Nat := 15
def EVT.FROUTER.ROUTE_SWITCH : Nat := 16
def EVT.FROUTER.NO_ROUTE : Nat := 17
def EVT.FROUTER.PKG_LOST : Nat := 18
def EVT.FROUTER.PKG_BACK : Nat := 19
def EVT.FROUTER.CLOSURE : Nat := 20
def EVT.FROUTER.TRANSIT_REFUSED : Nat := 21
def EVT.FROUTER.RESEND_ABORT : Nat := 22
def EVT.GCT.SESSION_UP : Nat := 8
def EVT.GCT.SESSION_DOWN : Nat := 9
def EVT.GCT.FAILOVER : Nat := 10
def EVT.GCT.SETUP_FAIL : Nat := 11
def EVT.GCT.RETX_FULL : Nat := 12
def EVT.GCT.EVT_OVERFLOW : Nat := 13
def EVT.DPORT.DP_ERROR : Nat := 8
def EVT.ENET.LINK_UP : Nat := 8
def EVT.ENET.LINK_DOWN : Nat := 9
def EVT.ENET.FALLBACK : Nat := 10
def EVT.ENET.PN_LIMIT : Nat := 11
def EVT.TIME.LOCK : Nat := 8
def EVT.TIME.LOCK_LOST : Nat := 9
def EVT.TIME.SOURCE_CHANGE : Nat := 10
def EVT.TIME.TIME_STEP : Nat := 11
def EVT.TIME.OFFSET_HIGH : Nat := 12
def EVT.BOOT.OPT_DEFAULT : Nat := 8
def EVT.BOOT.IMAGE_FALLBACK : Nat := 9
def EVT.BOOT.ID_PIN_RANGE : Nat := 10
def EVT.BOOT.RETAIN_LOST : Nat := 11
def EVT.BOOT.CRIT_ERROR : Nat := 12
def EVT.BOOT.OPT_DONE : Nat := 13
def EVT.BOOT.NOTICES_LOST : Nat := 14
def EVT.BOOT.TRANSIENT_LIMIT : Nat := 15
def EVT.RTU.SIG_FAIL : Nat := 8
def EVT.RTU.RTU_ERROR : Nat := 9
def EVT.RTU.FW_VERIFIED : Nat := 10
def EVT.RTU.FW_APPLIED : Nat := 11
def EVT.RTU.SVN_ADVANCED : Nat := 12
def EVT.RTU.AK_CHANGED : Nat := 13
def EVT.RTU.LOG_WRAPPED : Nat := 14
def EVT.RTU.ZEROIZED : Nat := 15
def EVT.RTU.PERSIST_DONE : Nat := 16
def EVT.PWR.ALERT : Nat := 8
def EVT.PWR.ALERT_END : Nat := 9
def EVT.PWR.CAP_LIMIT : Nat := 10
def EVT.PWR.CAP_UNREACHED : Nat := 11
def EVT.PWR.VIN_LOW : Nat := 12
def EVT.THERM.HOLD_START : Nat := 8
def EVT.THERM.HOLD_END : Nat := 9
def EVT.THERM.HOLD_FAIL : Nat := 10
def EVT.THERM.SENSOR_FAIL : Nat := 11
def EVT.ROOT.MANAGED : Nat := 8
def EVT.ROOT.ORPHANED : Nat := 9

end Sys2Proof.Machine.F
end

