-- ==== Sys2Proof/Machine/RegMap.lean ====
section
/-! DEFINITION. The register map: which bits of each unit-specific offset are RW, and the reset value of each offset where
the spec gives a number (rules as in Fields.lean). What depends on the unit, the part, the pins or the option record is
given in RegFile.lean. -/

namespace Sys2Proof.Machine

/-- One row of the map: first offset, number of elements, distance between them, RW bits and reset value. -/
def row (off n stride rw rst : Nat) : RegRow := ⟨off, n, stride, rw, rst⟩

/-- The unit-specific registers of a ROOT page. -/
def regRowsROOT : List RegRow := [
  row 0x100 1 0x8 0x0 0x0,
  row 0x108 1 0x8 0x0 0x0,
  row 0x110 1 0x8 0x0 0x8000800,
  row 0x118 1 0x8 0xFFFFFFFF 0x1388,
  row 0x120 1 0x8 0x0 0x0,
  row 0x128 1 0x8 0x0 0x0]

/-- The unit-specific registers of a ISLAND page. -/
def regRowsISLAND : List RegRow := [
  row 0x100 1 0x8 0x3FF 0x2EE,
  row 0x108 1 0x8 0x0 0x0]

/-- The unit-specific registers of a TGROUP page. -/
def regRowsTGROUP : List RegRow := [
  row 0x100 1 0x8 0xFFFFFF 0x0,
  row 0x108 1 0x8 0x13F 0x0,
  row 0x110 1 0x8 0x0 0x0]

/-- The unit-specific registers of a PARTITION page. -/
def regRowsPARTITION : List RegRow := [
  row 0x100 1 0x8 0xFFFFFFFFFFFFFFFF 0x0,
  row 0x108 1 0x8 0xFFFFFFFFFFFFFFFF 0x0,
  row 0x110 1 0x8 0x0 0x0]

/-- The unit-specific registers of a GANG page. -/
def regRowsGANG : List RegRow := [
  row 0xE00 1 0x8 0x3F0307 0x0,
  row 0xE08 1 0x8 0x0 0x0,
  row 0xE10 1 0x8 0x0 0x0,
  row 0xF00 32 0x8 0xFFFFF 0x0]

/-- The unit-specific registers of a TILE page. -/
def regRowsTILE : List RegRow := [
  row 0x100 1 0x8 0x0 0x0,
  row 0x108 1 0x8 0x0 0x0,
  row 0x110 1 0x8 0x0 0x0,
  row 0x118 1 0x8 0x0 0x0,
  row 0x120 4 0x8 0x7FF07FF 0x0,
  row 0x140 1 0x8 0x0 0x1000000000,
  row 0x148 1 0x8 0xFFFF01 0x3E801,
  row 0x150 1 0x8 0x0 0x0,
  row 0x158 1 0x8 0x0 0x0,
  row 0x200 4 0x40 0x7FFFFC0 0x0,
  row 0x208 4 0x40 0x33F 0x8,
  row 0x210 4 0x40 0x0 0x0,
  row 0x218 4 0x40 0xFFFF 0x0,
  row 0x220 4 0x40 0x7FFFFE0 0x0,
  row 0x228 4 0x40 0xFFFF 0x0,
  row 0x230 4 0x40 0x0 0x0,
  row 0x238 4 0x40 0x0 0x0]

/-- The unit-specific registers of a HALO page. -/
def regRowsHALO : List RegRow := [
  row 0x100 1 0x8 0x1 0x1,
  row 0x108 1 0x8 0xFFF 0x0,
  row 0x110 1 0x8 0xFFF7FFFF 0x10640000,
  row 0x118 1 0x8 0xFFFFFFFFFFFFFFFF 0x3E80000040800000,
  row 0x120 1 0x8 0xFFFFFFFFFFFFFFFF 0x41000000,
  row 0x128 1 0x8 0xFFFF 0xFFFF,
  row 0x130 1 0x8 0xFFFFFFFFFFFFFFFF 0x0,
  row 0x138 1 0x8 0x0 0x0,
  row 0x140 1 0x8 0x3FF 0x0,
  row 0x148 1 0x8 0xF 0xF,
  row 0x150 1 0x8 0x0 0x0,
  row 0x158 1 0x8 0x0 0x0,
  row 0x160 1 0x8 0x0 0x0,
  row 0x168 1 0x8 0x0 0x0,
  row 0x170 1 0x8 0x0 0x0,
  row 0x178 1 0x8 0x0 0x0]

/-- The unit-specific registers of a GMEM page. -/
def regRowsGMEM : List RegRow := [
  row 0x100 1 0x8 0x0 0x0,
  row 0x108 1 0x8 0xFFFFF 0x12448,
  row 0x110 1 0x8 0x0 0x0,
  row 0x118 1 0x8 0xFFFFFF 0x0,
  row 0x120 1 0x8 0x0 0x0]

/-- The unit-specific registers of a MCACHE page. -/
def regRowsMCACHE : List RegRow := [
  row 0x100 1 0x8 0x0 0x81F8000,
  row 0x108 16 0x8 0xFFFFFFFF 0x0,
  row 0x188 1 0x8 0x1FFFFFFFF000 0x0,
  row 0x190 1 0x8 0x1FFFFFFFF000 0x0,
  row 0x198 1 0x8 0x0 0x0,
  row 0x1A0 1 0x8 0x0 0x0,
  row 0x1A8 1 0x8 0x0 0x0]

/-- The unit-specific registers of a BTIER page. -/
def regRowsBTIER : List RegRow := [
  row 0x100 1 0x8 0x0 0x0,
  row 0x108 2 0x8 0x0 0x0,
  row 0x118 1 0x8 0x0 0x0,
  row 0x120 1 0x8 0x0 0x0]

/-- The unit-specific registers of a POOL page. -/
def regRowsPOOL : List RegRow := [
  row 0x100 1 0x8 0xFFFFFF00FFFFFF 0x0,
  row 0x108 1 0x8 0xFFFFFF00FFFFFF 0x0,
  row 0x110 1 0x8 0xFFFFFF00FFFFFF 0x0,
  row 0x118 1 0x8 0xFFFFFF00FFFFFF 0x0,
  row 0x120 1 0x8 0xFFFF03FFFFFF7FFF 0x40003F01000400,
  row 0x128 1 0x8 0xFFFFFFFFFF03 0x3200040003,
  row 0x130 1 0x8 0x0 0x0,
  row 0x138 1 0x8 0x0 0x0,
  row 0x140 1 0x8 0x0 0x0,
  row 0x148 1 0x8 0x0 0x0,
  row 0x150 1 0x8 0xFFFF 0x0,
  row 0x158 1 0x8 0x0 0x0,
  row 0x160 1 0x8 0x0 0x0,
  row 0x168 1 0x8 0xFFFF 0x0,
  row 0x170 1 0x8 0x1 0x0]

/-- The unit-specific registers of a CHECK page. -/
def regRowsCHECK : List RegRow := [
  row 0x100 1 0x8 0xF0F0F 0xE,
  row 0x108 1 0x8 0xFFFFFFFFFFFFFFFF 0x1EDC6F41,
  row 0x110 1 0x8 0xFFFFFFFFFFFFFFFF 0xFFFFFFFF,
  row 0x118 1 0x8 0xFFFFFFFFFFFFFFFF 0xFFFFFFFF,
  row 0x120 1 0x8 0x0 0x0,
  row 0x128 1 0x8 0x0 0x0,
  row 0x130 1 0x8 0x0 0x0]

/-- The unit-specific registers of a UPDRAFT page. -/
def regRowsUPDRAFT : List RegRow := [
  row 0x100 1 0x8 0xF 0x0,
  row 0x108 1 0x8 0x0 0x0,
  row 0x110 1 0x8 0x1FFFFFFFFFC0 0x0,
  row 0x118 1 0x8 0x1 0x0,
  row 0x120 1 0x8 0x0 0x0,
  row 0x128 1 0x8 0x0 0x0,
  row 0x180 1 0x8 0x0 0x0,
  row 0x188 1 0x8 0xFFFFFF 0x0,
  row 0x190 1 0x8 0xFFFFFF 0x0,
  row 0x198 1 0x8 0xFFFFFF 0x0,
  row 0x1A0 1 0x8 0x1FFFFFFFFFC0 0x0,
  row 0x1A8 1 0x8 0xFFFF0FFF0003 0x6400000000,
  row 0x1B0 1 0x8 0x0 0x0,
  row 0x1B8 1 0x8 0x0 0x0,
  row 0x1C0 1 0x8 0x3FFFF 0x0,
  row 0x1C8 1 0x8 0xFFFFFFFF 0x0,
  row 0x1D0 1 0x8 0xFFFFFFFFFFFFFFFF 0x0,
  row 0x1D8 1 0x8 0xFFFFFFFFFFFFFFFF 0x0,
  row 0x1E0 1 0x8 0x0 0x0,
  row 0x1E8 1 0x8 0x0 0x0]

/-- The unit-specific registers of a STEPSEQ page. -/
def regRowsSTEPSEQ : List RegRow := [
  row 0x100 1 0x8 0xFFF0007FFFF 0x40000,
  row 0x108 1 0x8 0x1FFFFFFFFFC0 0x0,
  row 0x110 1 0x8 0x0 0x0,
  row 0x118 1 0x8 0xFFFFFFFFFFFFF 0x3000000000064,
  row 0x120 1 0x8 0x0 0x0,
  row 0x128 1 0x8 0x0 0x0,
  row 0x130 2 0x8 0x0 0x0,
  row 0x140 1 0x8 0x0 0x0,
  row 0x148 1 0x8 0x0 0x0,
  row 0x150 1 0x8 0x0 0x0,
  row 0x158 1 0x8 0x0 0x0,
  row 0x160 1 0x8 0x0 0x0,
  row 0x168 1 0x8 0x1FF 0x0,
  row 0x170 1 0x8 0x1FFFFF 0x0]

/-- The unit-specific registers of a SQUALL page. -/
def regRowsSQUALL : List RegRow := [
  row 0x100 1 0x8 0xFF 0x0,
  row 0x108 1 0x8 0x7 0x0,
  row 0x110 1 0x8 0x1FFFFFFFFFC0 0x0,
  row 0x118 1 0x8 0x0 0x0,
  row 0x120 1 0x8 0x0 0x0,
  row 0x128 1 0x8 0x0 0x0,
  row 0x130 1 0x8 0x0 0x0,
  row 0x138 1 0x8 0x0 0x0,
  row 0x140 1 0x8 0x0 0x0,
  row 0x148 1 0x8 0x0 0x0]

/-- The unit-specific registers of a CONTRAIL page. -/
def regRowsCONTRAIL : List RegRow := [
  row 0x100 1 0x8 0x1 0x0,
  row 0x108 1 0x8 0x1F00FFFFFF 0xC00000000,
  row 0x110 1 0x8 0xFFF 0x0,
  row 0x118 1 0x8 0x0 0x0,
  row 0x120 1 0x8 0x0 0x0,
  row 0x128 1 0x8 0x0 0x0,
  row 0x130 1 0x8 0x0 0x0,
  row 0x138 1 0x8 0x0 0x0,
  row 0x140 1 0x8 0x0 0x0,
  row 0x180 8 0x8 0x1F 0x4,
  row 0x1C0 1 0x8 0x70FFF 0x0,
  row 0x1C8 1 0x8 0x1FFFFFFFFFFFFFF 0x0,
  row 0x1D0 1 0x8 0xFFFFFFFFFFFF 0x0,
  row 0x1D8 1 0x8 0x0 0x0,
  row 0x1E0 1 0x8 0x0 0x0,
  row 0x200 1 0x8 0xFFFFFF00FFFFFF 0x0,
  row 0x208 1 0x8 0xFFF 0x0,
  row 0x210 1 0x8 0xFFFF1FFFFFFFFF 0x0,
  row 0x218 1 0x8 0xFFFF00FFFFFF 0x0,
  row 0x220 1 0x8 0x0 0x0,
  row 0x228 1 0x8 0x0 0x0,
  row 0x230 1 0x8 0x0 0x0]

/-- The unit-specific registers of a FLINK page. -/
def regRowsFLINK : List RegRow := [
  row 0x100 1 0x8 0xFFFF0F0F 0x258030C,
  row 0x108 1 0x8 0x11FFFFF 0x0,
  row 0x110 1 0x8 0x0 0x0,
  row 0x118 1 0x8 0x0 0xF00000,
  row 0x120 1 0x8 0x0 0x0,
  row 0x128 1 0x8 0xFFFFFFFFFF 0x206102008,
  row 0x130 1 0x8 0x1F0FFF 0x100484,
  row 0x138 1 0x8 0xF00 0x0,
  row 0x140 1 0x8 0x0 0x0,
  row 0x148 1 0x8 0x0 0x0,
  row 0x150 1 0x8 0xF00000000 0x0,
  row 0x158 1 0x8 0x0 0x0,
  row 0x160 1 0x8 0x0 0x0]

/-- The unit-specific registers of a FROUTER page. -/
def regRowsFROUTER : List RegRow := [
  row 0x100 1 0x8 0xFF 0x0,
  row 0x108 1 0x8 0x1FFFFFFFF000 0x0,
  row 0x110 1 0x8 0x1FFFFFFFF000 0x0,
  row 0x118 1 0x8 0xF3FFFFF 0x0,
  row 0x120 1 0x8 0xFFFF0001FFFF 0x3E8000103E8,
  row 0x128 1 0x8 0xFFFFFFFFFFFFFFFF 0x0,
  row 0x130 1 0x8 0xFFFFFFFFFFFFFFFF 0x0,
  row 0x138 1 0x8 0x0 0x0,
  row 0x140 1 0x8 0x0 0x0,
  row 0x148 1 0x8 0x0 0x0,
  row 0x150 1 0x8 0x0 0x0,
  row 0x158 1 0x8 0x0 0x0,
  row 0x160 1 0x8 0x0 0x0,
  row 0x180 1 0x8 0x7F0F 0x0,
  row 0x188 1 0x8 0x10F1F1F1F1F 0x1F1F1F1F,
  row 0x190 4 0x8 0xFFFFFFFFFFFFFFFF 0xFFFFFFFFFFFFFFFF,
  row 0x1B0 8 0x8 0x1017F1F1F1F1F 0x1F1F1F1F,
  row 0x1F0 1 0x8 0xFFFF7F07 0x0,
  row 0x1F8 1 0x8 0x1FFFF 0x1000A,
  row 0x200 1 0x8 0x0 0x0,
  row 0x208 1 0x8 0x0 0x0,
  row 0x210 1 0x8 0x7F 0x0,
  row 0x218 1 0x8 0x0 0x0,
  row 0x220 1 0x8 0x0 0x0,
  row 0x228 1 0x8 0x3F 0x0,
  row 0x230 1 0x8 0x7F7F013F 0x0,
  row 0x238 1 0x8 0x1F1F00FFFFFF 0x1F1F00000000,
  row 0x240 3 0x8 0xBFBFBFBFBFBFBFBF 0x0,
  row 0x258 1 0x8 0x0 0x0,
  row 0x260 1 0x8 0x0 0x0,
  row 0x268 1 0x8 0x0 0x0,
  row 0x270 1 0x8 0x0 0x1F]

/-- The unit-specific registers of a GCT page. -/
def regRowsGCT : List RegRow := [
  row 0x100 1 0x8 0x3FFFF 0x1AC58,
  row 0x108 1 0x8 0xFFFFFFFFFFFFFF 0x3E81483320064,
  row 0x110 1 0x8 0xFFFF 0xA,
  row 0x118 1 0x8 0xFFF 0x0,
  row 0x120 1 0x8 0x0 0x0,
  row 0x128 1 0x8 0x0 0x0,
  row 0x130 1 0x8 0x0 0x0,
  row 0x138 1 0x8 0x0 0x0,
  row 0x140 1 0x8 0x0 0x1000000000000,
  row 0x148 1 0x8 0x0 0x0,
  row 0x150 1 0x8 0x0 0x0,
  row 0x158 1 0x8 0x0 0x0]

/-- The unit-specific registers of a DPORT page. -/
def regRowsDPORT : List RegRow := [
  row 0x100 1 0x8 0x0 0x0,
  row 0x108 1 0x8 0x0 0x0,
  row 0x110 1 0x8 0x0 0x0]

/-- The unit-specific registers of a ENET page. -/
def regRowsENET : List RegRow := [
  row 0x100 1 0x8 0xF 0xC,
  row 0x108 1 0x8 0x0 0x0,
  row 0x110 1 0x8 0xFFFFFFFFFFFF 0x0,
  row 0x118 1 0x8 0xFFFFFFFFFFFFFFFF 0x0,
  row 0x120 1 0x8 0xFFFFFFFFFFFFFFFF 0x0,
  row 0x128 1 0x8 0x3FFFFFFFF 0x0,
  row 0x130 1 0x8 0x31F 0x8,
  row 0x138 4 0x8 0x0 0x0,
  row 0x158 1 0x8 0x0 0x0,
  row 0x160 1 0x8 0x0 0x0,
  row 0x168 1 0x8 0x0 0x0,
  row 0x170 1 0x8 0x0 0x0,
  row 0x178 1 0x8 0x0 0x0]

/-- The unit-specific registers of a TIME page. -/
def regRowsTIME : List RegRow := [
  row 0x100 1 0x8 0x0 0x0,
  row 0x108 1 0x8 0xFFF7FFF7 0x3E840004,
  row 0x110 1 0x8 0x0 0x0,
  row 0x118 1 0x8 0x0 0x0,
  row 0x120 1 0x8 0xFFFFFFFFFFFFFFFF 0x0,
  row 0x128 1 0x8 0x0 0x0]

/-- The unit-specific registers of a BOOT page. -/
def regRowsBOOT : List RegRow := [
  row 0x100 1 0x8 0x0 0x0,
  row 0x108 1 0x8 0x0 0x0,
  row 0x110 1 0x8 0x0 0x0,
  row 0x118 1 0x8 0x0 0x0,
  row 0x120 1 0x8 0xFF 0x10,
  row 0x128 1 0x8 0x0 0x0,
  row 0x130 1 0x8 0x0 0x0,
  row 0x138 1 0x8 0x0 0x0,
  row 0x200 32 0x8 0xFFFFFFFFFFFFFFFF 0x0,
  row 0x300 32 0x8 0x0 0x0]

/-- The unit-specific registers of a RTU page. -/
def regRowsRTU : List RegRow := [
  row 0x100 1 0x8 0x0 0x0,
  row 0x108 1 0x8 0x0 0x0,
  row 0x110 1 0x8 0xD7F 0x0,
  row 0x118 1 0x8 0xFFFFFFFF001F 0x0,
  row 0x120 4 0x8 0x0 0x0,
  row 0x140 1 0x8 0x0 0x0,
  row 0x148 1 0x8 0x1FFFFFFFFFC0 0x0,
  row 0x150 1 0x8 0xFFFF0000 0x0,
  row 0x158 1 0x8 0x0 0x0,
  row 0x160 1 0x8 0x0 0x0,
  row 0x168 1 0x8 0x0 0x0,
  row 0x170 1 0x8 0xF 0x0,
  row 0x178 4 0x8 0x0 0x0]

/-- The unit-specific registers of a PWR page. -/
def regRowsPWR : List RegRow := [
  row 0x100 1 0x8 0xFFFF0001FFFF 0x3E800010000,
  row 0x108 1 0x8 0xFFFF000003FF 0x6400000000,
  row 0x110 1 0x8 0xFF 0xA,
  row 0x118 1 0x8 0x0 0x352000000000000,
  row 0x120 1 0x8 0x0 0x0]

/-- The unit-specific registers of a THERM page. -/
def regRowsTHERM : List RegRow := [
  row 0x100 1 0x8 0x100FF 0x1695A,
  row 0x108 1 0x8 0x0 0x0,
  row 0x110 1 0x8 0x1F 0x0,
  row 0x118 1 0x8 0x0 0x352000000]

end Sys2Proof.Machine
end

