-- ==== Sys2Proof/Machine/Units.lean ====
section
/-! DEFINITION. The units of the package: page indices (R47), presence by variant (R9, R27, R35), capabilities (R544) and
the fixed part of the descriptor tree (R43). -/

namespace Sys2Proof.Machine

/-- What differs from package to package and never changes while it is powered (R5, R9, R11, R27, R194, R202, R457):
the variant, the stepping, the fused-off and reserve tile positions at shipment, the density code of each GDDR7 device,
the capacity of each CXL device in 2 MiB units, the strap pins, and the fuses programmed at manufacture: the pin
fuses, SERIAL, KEY_PK, KEY_PURPOSE, AK0, PROD, JTAG_DIS and the MAC base (R460, R471). -/
structure PkgCfg where
  variant : Variant
  stepping : Nat
  absentTiles : List Nat
  reserveTiles : List Nat
  density : List Nat
  cxlCap : List Nat
  trayId : Nat
  slotId : Nat
  pinFuses : Word
  serial : Nat
  keyPk : List (List Byte)
  purpose : Nat
  ak0 : List Byte
  prod : Bool
  jtagDis : Bool
  macBase : Nat
  deriving DecidableEq, Repr

/-- The first page and the number of instances of a unit type (R47). -/
def unitRange : UType → Nat × Nat
  | .root => (0x0, 1) | .die => (0x1, 4) | .island => (0x10, 24) | .tgroup => (0x40, 8)
  | .partition => (0x80, 64) | .tile => (0x100, 288) | .stepseq => (0x400, 8)
  | .pool => (0x408, 8) | .halo => (0x410, 8) | .updraft => (0x418, 8) | .squall => (0x420, 2)
  | .contrail => (0x422, 2) | .gmem => (0x430, 20) | .btier => (0x448, 2) | .mcache => (0x44A, 2)
  | .flink => (0x450, 24) | .frouter => (0x468, 2) | .enet => (0x470, 8) | .gct => (0x478, 2)
  | .dport => (0x47A, 2) | .check => (0x480, 16) | .cproc => (0x490, 8) | .rtu => (0x4A0, 1)
  | .boot => (0x4A1, 1) | .pwr => (0x4A2, 1) | .therm => (0x4A3, 1) | .time => (0x4A4, 1)
  | .gang => (0x1000, 2048)

/-- Every unit type, in the order of R47. -/
def allTypes : List UType :=
  [.root, .die, .island, .tgroup, .partition, .tile, .stepseq, .pool, .halo, .updraft, .squall,
   .contrail, .gmem, .btier, .mcache, .flink, .frouter, .enet, .gct, .dport, .check, .cproc,
   .rtu, .boot, .pwr, .therm, .time, .gang]

/-- The page of instance `k` of a type. -/
def pg (t : UType) (k : Nat) : Nat := (unitRange t).1 + k

/-- The unit a page index names, with its instance number; none outside every range (R48). -/
def unitOf (p : Nat) : Option (UType × Nat) :=
  (allTypes.find? fun t => decide ((unitRange t).1 ≤ p) && decide (p < (unitRange t).1 + (unitRange t).2)).map
    fun t => (t, p - (unitRange t).1)

/-- The type of a page. Pages that hold no unit are given the ROOT type, which no caller uses (they ask `unitOf` first). -/
def typeOf (p : Nat) : UType := match unitOf p with | some (t, _) => t | none => .root

/-- The instance number of a page within its type. -/
def instOf (p : Nat) : Nat := match unitOf p with | some (_, k) => k | none => 0

/-- A unit of this type and number is ABSENT on the package (R9, R27, R32, R35). -/
def absentUnit (c : PkgCfg) (t : UType) (k : Nat) : Bool :=
  match t, c.variant with
  | .tile, _ => c.absentTiles.contains k
  | .squall, .dr9200 => true
  | .btier, .dr9300 => k == 1
  | .btier, .dr9200 => true
  | .gmem, .dr9200 => k == 8 || k == 9 || k == 18 || k == 19
  | .flink, .dr9200 => (decide (8 ≤ k) && decide (k < 12)) || decide (20 ≤ k)
  | _, _ => false

/-- The unit of a page is ABSENT. -/
def absentPg (c : PkgCfg) (p : Nat) : Bool :=
  match unitOf p with | some (t, k) => absentUnit c t k | none => false

/-- The type code of R52. -/
def typeCode : UType → Nat
  | .root => 0x01 | .die => 0x02 | .island => 0x03 | .tile => 0x04 | .gang => 0x05 | .tgroup => 0x06
  | .partition => 0x07 | .gmem => 0x10 | .btier => 0x11 | .mcache => 0x12 | .pool => 0x13
  | .flink => 0x20 | .frouter => 0x21 | .enet => 0x30 | .gct => 0x31 | .dport => 0x32
  | .updraft => 0x40 | .squall => 0x41 | .stepseq => 0x42 | .contrail => 0x43 | .halo => 0x44
  | .check => 0x45 | .cproc => 0x50 | .rtu => 0x60 | .boot => 0x61 | .pwr => 0x70 | .therm => 0x71
  | .time => 0x72

/-- UNIT_CAP.EVT_BITS of a type (R544). -/
def evtBits : UType → Nat
  | .root => 10 | .tile => 16 | .gang => 16 | .stepseq => 16 | .pool => 14 | .halo => 17 | .updraft => 17
  | .squall => 13 | .contrail => 15 | .gmem => 12 | .btier => 12 | .mcache => 10 | .flink => 17
  | .frouter => 23 | .enet => 12 | .gct => 14 | .dport => 9 | .rtu => 17 | .boot => 16 | .pwr => 13
  | .therm => 12 | .time => 13
  | .die | .island | .tgroup | .partition | .check | .cproc => 4

/-- UNIT_CAP.RESET of a unit (R544): the compute dies have it, the I/O dies do not. -/
def capReset : UType → Nat → Bool
  | .die, k => decide (k < 2)
  | .partition, _ | .pool, _ | .check, _ | .frouter, _ | .rtu, _ | .boot, _ | .pwr, _ | .therm, _ | .time, _ => false
  | _, _ => true

/-- UNIT_CAP.SELFTEST of a type (R544). -/
def capSelftest : UType → Bool
  | .tile | .gang | .stepseq | .halo | .updraft | .squall | .contrail | .gmem | .btier | .mcache
  | .flink | .enet | .gct | .dport | .cproc => true
  | _ => false

/-- UNIT_CAP.TYPE_CAP of a unit: R102 of a tile or gang (TRAIN is 1 on the DR-9400 only), R362 of a link. -/
def typeCap (c : PkgCfg) : UType → Nat
  | .tile | .gang =>
      1 + 2 + 4 + (if c.variant = .dr9400 then 8 else 0) + 16 + 3 * 2 ^ 5 + 0x10 * 2 ^ 8 + 0x50 * 2 ^ 16
  | .flink => 9 + 3 * 2 ^ 8 + 2 * 2 ^ 12
  | _ => 0

/-- UNIT_CAP of a unit (R53, R544). An ABSENT unit reports the DR-9400 value. -/
def unitCap (c : PkgCfg) (t : UType) (k : Nat) : Nat :=
  let b (x : Bool) (n : Nat) : Nat := if x then 2 ^ n else 0
  let c' : PkgCfg := if absentUnit c t k then { c with variant := .dr9400 } else c
  b (t = .tile || t = .gang) 0 + b (capReset t k) 1 + b (capSelftest t) 2
  + b (t = .tile || t = .gang) 3 + b (t = .gang || t = .tgroup || t = .partition) 4
  + b (t = .tile || t = .gang || t = .cproc) 5
  + evtBits t * 2 ^ 8 + 1 * 2 ^ 24 + typeCap c' t * 2 ^ 32

/-- The TYPE_EVT bits that a chapter names as masked at reset (R280, R335, R388, R414, R442, R522). -/
def maskedEvts : UType → List Nat
  | .stepseq => [F.EVT.STEPSEQ.STARVED]
  | .contrail => [F.EVT.CONTRAIL.RING_FULL, F.EVT.CONTRAIL.BUDGET_EMPTY]
  | .frouter => [F.EVT.FROUTER.CHECK_FAIL, F.EVT.FROUTER.NO_ROUTE]
  | .dport => [F.EVT.DPORT.DP_ERROR]
  | .pwr => [F.EVT.PWR.CAP_LIMIT]
  | _ => []

/-- The reset value of EVT_MASK (R62). -/
def evtMaskReset (t : UType) : Nat :=
  ((2 ^ 64 - 2 ^ evtBits t) ||| (if evtBits t ≤ 4 then 0x9 else 0xF9)) ||| ((maskedEvts t).map (2 ^ ·)).sum

/-- The I/O die number (2 or 3) that holds a unit, for the units of the I/O dies (R35, R43); compute units give their die. -/
def dieOf (t : UType) (k : Nat) : Nat :=
  match t with
  | .die => k
  | .island => k / 12
  | .tile => k / 144
  | .stepseq | .pool | .halo | .updraft | .tgroup => if k < 4 then 2 else 3
  | .squall | .contrail | .btier | .mcache | .frouter | .gct | .dport => 2 + k
  | .gmem => if k < 10 then 2 else 3
  | .flink => if k < 12 then 2 else 3
  | .enet | .cproc => if k < 4 then 2 else 3
  | .check => if k < 8 then 2 else 3
  | _ => 2

/-- The pages of a run of instances. -/
def pgs (t : UType) (k n : Nat) : List Nat := (List.range n).map fun j => pg t (k + j)

/-- The fixed children of a unit, in the order of R43 (a TGROUP's gangs are added by `childrenOf`). -/
def fixedChildren (t : UType) (k : Nat) : List Nat :=
  match t with
  | .root => pgs .die 0 4 ++ pgs .tgroup 0 8 ++ pgs .partition 0 64
  | .die =>
      if k < 2 then pgs .island (12 * k) 12
      else
        let h := k - 2
        pgs .cproc (4 * h) 4 ++ pgs .gct h 1 ++ pgs .dport h 1 ++ pgs .enet (4 * h) 4 ++ pgs .frouter h 1
        ++ pgs .flink (12 * h) 12 ++ pgs .gmem (10 * h) 10 ++ pgs .mcache h 1 ++ pgs .btier h 1
        ++ pgs .updraft (4 * h) 4 ++ pgs .squall h 1 ++ pgs .contrail h 1 ++ pgs .stepseq (4 * h) 4
        ++ pgs .pool (4 * h) 4 ++ pgs .halo (4 * h) 4 ++ pgs .check (8 * h) 8
        ++ (if h = 0 then pgs .rtu 0 1 ++ pgs .boot 0 1 ++ pgs .pwr 0 1 ++ pgs .therm 0 1 ++ pgs .time 0 1 else [])
  | .island => pgs .tile (12 * k) 12
  | _ => []

/-- The parent's page of a unit other than a gang (R43). -/
def fixedParent (t : UType) (k : Nat) : Nat :=
  match t with
  | .root => 0
  | .die | .tgroup | .partition => 0
  | .island => pg .die (k / 12)
  | .tile => pg .island (k / 12)
  | _ => pg .die (dieOf t k)

/-- The number that follows `x` in a list, or 0xF_FFFF when `x` is last (NEXT_SIBLING, R51). -/
def nextIn (x : Nat) : List Nat → Nat
  | [] => 0xFFFFF
  | [_] => 0xFFFFF
  | a :: b :: t => if a = x then b else nextIn x (b :: t)

end Sys2Proof.Machine
end

