-- ==== Sys2Proof/Machine/State.lean ====
section
/-! DEFINITION. The state of the package. -/

namespace Sys2Proof.Machine

/-- Statistics of a watched command or entry (R176): SUMSQ as a binary64 code, MAX as an FP32 code. -/
structure HStat where
  count : Nat
  sumsq : Nat
  max : Nat
  nan : Nat
  sat : Nat
  zero : Nat
  deriving DecidableEq, Repr

/-- The result of a command's work, kept until its completion record is written (R120, R121). -/
structure Res where
  st : Status
  state : Nat := 0
  stateOf : Nat := 0
  r0 : Nat := 0
  r1 : Nat := 0
  byte : Nat := 0xFF
  reason : Nat := 0
  skipped : Bool := false
  stats : List (Nat × HStat) := []
  deriving DecidableEq, Repr

/-- A command that has been taken from a queue: engine, queue, ring index, the 64 descriptor bytes as one little-endian
number, DEVICE_TIME at its start, its result once its work is done, the requests it still awaits, those answered OK, the
failed request of the lowest index with its entry, the bytes received, the requests left by entry, and the granules that its entries have
begun to fill (entry, position, granule: R124), and the array steps that data read while it ran make it take at least (R123, R125). -/
structure Run where
  eng : Nat
  q : Nat
  idx : Nat
  d : Nat
  t0 : Nat
  res : Option Res
  waiting : Nat
  acked : Nat
  failed : Option (Nat × Status)
  got : Nat := 0
  okEnts : Nat := 0
  left : List (Nat × Nat) := []
  issued : Bool := false
  begun : List (Nat × Nat × Nat) := []
  steps : Nat := 0
  deriving DecidableEq, Repr

/-- The sequencer of a tile or gang page (R89 to R95): running commands, commands stopped by a kill whose records are still
to be written, the scope of a kill in progress (none inside: every command; otherwise a step tag), records written beyond
CPL_TAIL, KILLED records that stand in place ahead of HEAD, the tails at DRAIN, the queue served last of each PRIORITY value (R92),
the state that follows a kill, and the queue whose error stops the sequencer until HALTED is entered (R93). -/
structure SeqSt where
  run : List Run
  stopped : List Run
  scope : Option (Option (Nat × Nat))
  ahead : List (Nat × Nat)
  inPlace : List (Nat × Nat)
  drain : List Nat
  rr : List Nat
  next : UState
  stop : Option Nat
  deriving DecidableEq, Repr

/-- A 64 KiB granule of WINDOW (R124): VALID, its generation label (none: UNTAGGED), the transfers begun in it, and whether one of those
that began since none was left has been lost, so that the rest cannot make it VALID. -/
structure Gran where
  valid : Bool
  label : Option Nat
  busy : Nat
  lost : Bool
  deriving DecidableEq, Repr

/-- The parts of a tile position that are not registers (R79, R82, R84, R110, R111, R124, R138): active regions as (base, size)
in 64 KiB units, granules by slice index, hop failures in succession and failed mesh ports, the watch unit's accumulated
statistics by WATCH_ID, the next word to scrub, the remapped rows, and the load that each of the two panel buffers holds (no bytes: none). -/
structure TileSt where
  regions : List (Nat × Nat)
  gran : List (Nat × Gran)
  hopFails : List Nat
  meshFailed : List Nat
  watch : List (Nat × HStat)
  scrubAt : Nat
  remapped : List Nat
  bufs : List (List Byte)
  deriving DecidableEq, Repr

/-- The parts of a HALO that are not registers (R177, R179, R185, R187): statistics of the open step by entry, committed
statistics awaiting evaluation with their step, the event log of two-word records, the mode that each layer takes in the step,
the staged recipe values that the last latch took (those that are not DEFAULT), and the watch words written while their entry is
evaluated (entry, word, value). -/
structure HaloSt where
  openStats : List (Nat × HStat)
  pendingEval : List (Nat × List (Nat × HStat))
  log : List (Nat × Nat)
  latched : List (Nat × Nat)
  raw : List (Nat × Nat)
  late : List (Nat × Nat × Word)
  deriving DecidableEq, Repr

/-- The states of a pool block (R208). -/
inductive BState where
  | fresh | resident | parked | moving | releasing | lost
  deriving DecidableEq, Repr

/-- A block of the block table (R208, R209): its state, the state it goes back to when a move or a release is undone, its
location as local offset ÷ 256 KiB, the sequence that owns it and its customer, references, pin and LAST_STEP. -/
structure Block where
  st : BState
  prior : BState
  loc : Nat
  owner : Nat
  cust : Nat
  refs : Nat
  pin : Bool
  last : Nat
  deriving DecidableEq, Repr

/-- A move in progress (R213, R214): the block, the unit it goes to, whether it is an eviction, and the ring index of the
request that asked for it. -/
structure Move where
  block : Nat
  dst : Nat
  evict : Bool
  req : Option Nat
  deriving DecidableEq, Repr

/-- A sequence entry (R209): handle, customer, committed length, and the block handle of map entry layer × MAX_BLOCKS + i. -/
structure PSeq where
  handle : Nat
  cust : Nat
  len : Nat
  map : List (Nat × Nat)
  deriving DecidableEq, Repr

/-- A pool request that has started and has no record yet (R215, R216): ring index, handles it names, blocks still to start
moving, blocks moved, and whether they go to GDDR7. -/
structure PReq where
  idx : Nat
  names : List Nat
  todo : List Nat
  moved : Nat
  up : Bool
  deriving DecidableEq, Repr

/-- A POOL (R207 to R216): the active ranges (GDDR7, port 0, port 1, metadata) as (base, size) in 2 MiB units, T, R, LAYERS
and MAX_BLOCKS, the block table, the sequence table by slot, the quotas by customer, the weight pages claimed by Updraft (in
2 MiB units) with the generation each holds (R239), the moves, the started requests, the ring indices started, the records written ahead of CPL_TAIL, and the
configuration that an APPLY is formatting. -/
structure PoolSt where
  ranges : List (Nat × Nat)
  tok : Nat
  recB : Nat
  layers : Nat
  maxBlocks : Nat
  blocks : List (Nat × Block)
  seqs : List (Nat × PSeq)
  quotas : List (Nat × (Nat × Nat))
  pages : List (Nat × Option Nat)
  moves : List Move
  active : List PReq
  started : List Nat
  ahead : List Nat
  next : Option (List (Nat × Nat) × Nat × Nat × Nat × Nat)
  low : Bool
  deriving DecidableEq, Repr

/-- The parts of a GMEM that are not registers (R192, R196): the poison table as sector numbers (offset ÷ 256), POISON_FULL in
force, contents lost with a relocation target, and the relocation target in use as a local offset. -/
structure GmemSt where
  table : List Nat
  full : Bool
  dead : Bool
  target : Nat
  deriving DecidableEq, Repr

/-- A line of a cache half (R197 to R199): line number (offset ÷ 256), way, dirty. A set lists its lines, the most recently
used first. -/
structure CLine where
  line : Nat
  way : Nat
  dirty : Bool
  deriving DecidableEq, Repr

/-- A packet on a link: its virtual channel (8 for a control message, 9 for a credit return), the link on which it reached this
package (none where it was issued here), the transaction, and which of the numbered frames that it takes this is (R345). -/
structure LPkt where
  vc : Nat
  inl : Option Nat
  pkt : Pkt
  part : Nat := 0
  deriving DecidableEq, Repr

/-- The link layer of a FLINK (R338 to R359): next FSEQ, expected FSEQ, the receiver waits for a resent frame, numbered frames
awaiting acknowledgement (FSEQ, times sent, content), transactions with no credits yet,
transmit credits and receive-buffer use by VC, the partial packet of the receive stream, the mask of accepted lanes and the
lanes the far receiver accepts, the verdicts reached and received, a steer under way (logical lane, good mirrored frames,
recalibration), the physical lane under recalibration, recalibration failures by lane, excess-correction runs by lane, the lane
whose turn is next under AUTO_RECAL, the far receiver's buffers in 16 KiB units, the transmit lane map with its spare, mirrored
logical lane and presets, when the link state was entered, when the last REPLAY_REQ was sent, FL_CFG and VC_ALLOC as the last
training took them (R361), the packets handed back by a link fault and whether that fault is still to be handled (R359, R401),
when the last good frame came, when ACK last advanced, what waits for a numbered frame in the order in which it goes (R345), the ACK that
the last frame carried, the deficits of VC0 to VC3 with the VC whose turn it is, and the VC3 bytes of the last 52 frames, the newest first
(R353). -/
structure FlinkSt where
  txNext : Nat
  expect : Nat
  waiting : Bool
  sent : List (Nat × Nat × LPkt)
  unsent : List LPkt
  credits : List Nat
  rxUsed : List Nat
  buf : List Byte
  laneOk : Nat
  farOk : Nat
  own : Option Nat
  far : Option Nat
  steer : Option (Nat × Nat × Bool)
  recal : Option Nat
  recalFails : List (Nat × Nat)
  excess : List (Nat × Nat)
  nextAuto : Nat
  farBuf : List Nat
  txMap : List Nat
  txSpare : Option Nat
  txMirror : Option Nat
  txPreset : List Nat
  stateAt : Nat
  askedAt : Nat
  cfg : Nat
  alloc : Nat
  back : List LPkt
  handed : Bool
  frameAt : Nat
  ackAt : Nat
  ready : List LPkt
  ackSent : Nat
  deficit : List Nat
  turn : Nat
  hist : List Nat
  deriving DecidableEq, Repr

/-- A request of an engine (R369, R370): the engine's page, tag slot and incarnation, the transaction, whom it serves (0 a
tile command named by page, queue and index; 1 a Squall job; 2 a remote register access; 3 a FENCE), the list entry, where
the answer lands (tile position and scratch offset), when it was sent, and whether its tag is retired (R94), by a
closed wrapper or by a kill (R449). -/
structure Req where
  unit : Nat
  slot : Nat
  inc : Nat
  pkt : Pkt
  kind : Nat
  a : Nat
  b : Nat
  c : Nat
  entry : Nat
  pos : Nat
  off : Nat
  t0 : Nat
  retired : Bool
  wrapped : Bool := false
  deriving DecidableEq, Repr

/-- A stage group (R375): SRC_PKG, SRC_TGROUP, STEP_NUMBER, RUN. -/
structure SGroup where
  src : Nat
  tg : Nat
  step : Nat
  run : Nat
  deriving DecidableEq, Repr

/-- A commit-buffer entry (R375): I/O die half, stage group, operation code, line (offset ÷ 256), and the bytes held by place
in the line. -/
structure CbEnt where
  half : Nat
  grp : SGroup
  op : Nat
  line : Nat
  data : List (Nat × Byte)
  deriving DecidableEq, Repr

/-- A combining window or a combined request awaiting its answer (R382): the router, the link the constituents came on (none
for requests of this package), the combined request, its constituents without their payloads, and whether it has been
forwarded. -/
structure Window where
  router : Nat
  inl : Option Nat
  pkt : Pkt
  parts : List Pkt
  sent : Bool
  deriving DecidableEq, Repr

/-- A NOTICE awaiting acknowledgement (R377): its home, its stage group and its packet. -/
structure Notice where
  home : Nat
  grp : SGroup
  pkt : Pkt
  deriving DecidableEq, Repr

/-- A request that has been answered, with its status and payload, on its way to the engine that asked. -/
structure Done where
  req : Req
  st : Status
  data : List Byte
  deriving DecidableEq, Repr

/-- A request that its home holds (R373, R378): the link it came on, the request, whether it waits for a weight page (R373), and the time of
its arrival or of its last HOLD (R370). -/
structure Held where
  inl : Option Nat
  pkt : Pkt
  gen : Bool
  at_ : Nat
  deriving DecidableEq, Repr

/-- The fabric transaction layer (R364 to R405): outstanding requests, requests waiting for a tag slot, incarnations by engine
and slot, the commit buffer, the highest RUN staged and the last four tombstones by (source, tile group), requests held at
this home with the link they came on, combining windows, hot-line queues (half, line), staged requests acknowledged to
this package by (tile group, home), NOTICEs awaiting acknowledgement, answers on their way to the engines, stage groups
that an error in the commit buffer discarded (R453), the links and lines for which credits are withheld (R381), and the time of the last
staged request of each stage group (R379). -/
structure FabSt where
  reqs : List Req
  wait : List Req
  incs : List (Nat × Nat)
  cb : List CbEnt
  runs : List (SGroup)
  tombs : List ((Nat × Nat) × List (Nat × Nat))
  held : List Held
  windows : List Window
  hot : List (Nat × Nat)
  acked : List ((Nat × Nat) × Nat)
  notices : List Notice
  done : List Done
  bad : List SGroup
  stalled : List (Nat × Nat)
  stagedAt : List (SGroup × Nat)
  deriving DecidableEq, Repr

/-- A use of a layer by Updraft (R225 to R230): step, layer, mode and generation, whether it is armed or released, the status that a fill
of it failed with, whether its step has committed, the fill entries still to land, and those read again once. -/
structure Use where
  step : Nat
  layer : Nat
  mode : Nat
  gen : Nat
  armed : Bool
  released : Bool
  failed : Option Status
  todo : List Nat
  retried : List Nat
  committed : Bool
  deriving DecidableEq, Repr

/-- Updraft of a tile group (R219 to R244): its uses in order, the bad-range list, the chunks of a load still to request, those
in flight (chunk, message id, time of the request), the failed tries by chunk, the CRC-32C of each staged chunk's output, the
chunks of a swap copy still to do, those read again once, the one the copy is stuck on, the members whose SWAP_READY is awaited,
those whose SWAP_READY came before the switch here, the LAYOUT_ID of the current generation, the pages claimed by a load, the SVN of the
current and of the staged manifest, and whether a manifest that failed at a restart keeps the group from opening steps (R487). -/
structure UdSt where
  uses : List Use
  bad : List (Nat × Nat)
  todo : List Nat
  flight : List (Nat × Nat × Nat)
  tries : List (Nat × Nat)
  crcs : List (Nat × Nat)
  copy : List Nat
  again : List Nat
  stuck : Option Nat
  awaited : List Nat
  early : List Nat
  layout : Nat
  claimed : List Nat
  svn : Nat
  svnNext : Nat
  barred : Bool
  deriving DecidableEq, Repr

/-- An entry of a step grant (R258). -/
structure GEntry where
  handle : Nat
  new : Nat
  drafts : Nat
  prompt : Bool
  close : Bool
  noSample : Bool
  turnEnd : Bool
  slot : Nat
  adEn : Bool
  draftOff : Nat
  deriving DecidableEq, Repr

/-- A step grant as STEPSEQ holds it (R258, R260): the layer-skip mask as a number, the draft area as 32-bit tokens, and
whether it came to an idle group, where no lower number is waited for. -/
structure Grant where
  step : Nat
  gen : Nat
  urgent : Bool
  cookie : Nat
  retag : Bool
  skip : Nat
  entries : List GEntry
  drafts : List Nat
  free : Bool
  deriving DecidableEq, Repr

/-- The placement of a grant entry (R263): status and reason, committed length and fresh blocks where it is placed. -/
structure Placed where
  st : Status
  reason : Nat
  ctx : Nat
  fresh : List Nat
  deriving DecidableEq, Repr

/-- A command that STEPSEQ dispatched and that has no record yet: unit page, queue, ring index, section, layer, CMD_ID, and
whether it is an MMA or TMMA (R226). -/
structure StepCmd where
  page : Nat
  q : Nat
  idx : Nat
  sec : Nat
  layer : Nat
  cmd : Nat
  mma : Bool
  deriving DecidableEq, Repr

/-- The cause of a kill of the open step (R270). -/
inductive Cause where
  /-- The step is run again. -/
  | rerun
  /-- The step is held (R269). -/
  | hold (st : Status) (layer : Nat)
  /-- The step is aborted, and the next grant opens. -/
  | abort (st : Status)
  /-- The step is aborted, and STEPSEQ enters HALTED. -/
  | abortHalt (st : Status) (layer : Nat)
  /-- An urgent grant pre-empts the step (R275): the number of the urgent step. -/
  | urgent (u : Nat)
  /-- A tile error or retirement, or a reset or isolation of a unit of the map: re-run once the units are back. -/
  | wait
  /-- A unit of the map is gone for good (R250, R270): the step is aborted, held grants are displaced, and STEPSEQ enters HALTED. -/
  | noUnit (st : Status)
  deriving DecidableEq, Repr

/-- A token result staged by SAMPLE (R131): handle, emitted tokens, log-probability and accepted drafts. -/
structure Staged where
  handle : Nat
  toks : List Nat
  logp : Nat
  acc : Nat
  deriving DecidableEq, Repr

/-- The open step of a STEPSEQ (R261 to R273): its grant, when it opened, the recipe epoch, the SS_CFG and pacing words in
force (R278), the queue it is dispatched on, the placements made so far, since when the placement waits for room, sections
still to dispatch, the descriptors of the first of them already written by unit, outstanding commands, completed commands
(page, section × 65,536 + CMD_ID), failures with their layers, jobs launched with their status, the counts that EXPERT_FETCH reported (job,
unit, counts), staged results, barrier arrivals (BARRIER_ID, positions), ACTIVE_TILES at the open, the queue words of each
unit at the open, the cause of a kill in progress with the time it began, and the number that a pre-empted step takes. -/
structure OpenStep where
  grant : Grant
  openTime : Nat
  epoch : Nat
  cfg : Word
  pace : Word
  q : Nat
  places : List Placed
  waiting : Option Nat
  todo : List Nat
  sent : List (Nat × Nat)
  cmds : List StepCmd
  done : List (Nat × Nat)
  fails : List (Status × Nat)
  jobs : List (Nat × Option Status)
  counts : List (Nat × (Nat × List Nat))
  staged : List Staged
  barriers : List (Nat × List Nat)
  active : Nat
  qcfg : List (Nat × List Word)
  cause : Option Cause
  since : Nat
  retag : Nat
  seen : List (Nat × Nat)
  scratch : List Nat
  uses : List Nat
  err : Bool
  deriving DecidableEq, Repr

/-- The parts of a STEPSEQ that are not registers (R251, R260): held grants, lowest first, the open step, commits since the
last SLICE window, the end of the window in progress, when the last step ended, and a FINE-mode stop after a section. -/
structure StepSt where
  held : List Grant
  opened : Option OpenStep
  commits : Nat
  slice : Option Nat
  ended : Nat
  layerWait : Bool
  cfg : Word
  pace : Word
  deriving DecidableEq, Repr

/-- A bundle under reassembly, landed or waiting to be forwarded (R296 to R298, R384): group, tag, job, the package it comes
from, the package and tile group it goes to, leaf, stage and sequence number, its length, and its fragments by offset. -/
structure Bundle where
  g : Nat
  step : Nat
  gen : Nat
  job : Nat
  orig : Nat
  dst : Nat
  leaf : Nat
  stage : Nat
  seq : Nat
  total : Nat
  frags : List (Nat × List Byte)
  deriving DecidableEq, Repr

/-- A Squall job in progress (R290): group, job index, tag, launch time, the sends made and the bundles placed so far (as keys), the
first failure with the peer concerned, whether its outputs have landed, and bundles made at the launch that
are still to be sent. -/
structure SJob where
  g : Nat
  idx : Nat
  step : Nat
  gen : Nat
  t0 : Nat
  sent : List Nat
  fail : Option (Status × Nat)
  landed : Bool
  outs : List Bundle
  deriving DecidableEq, Repr

/-- A SQUALL (R281 to R305): jobs, READY notices held as (group, step, generation, job, package), bundles received and under
reassembly, and bundles to be forwarded as a gateway. -/
structure SqSt where
  jobs : List SJob
  ready : List (Nat × Nat × Nat × Nat × Nat)
  landed : List Bundle
  forward : List Bundle
  deriving DecidableEq, Repr

/-- A sequence slot with its ring, prompt indices and binding (R307 to R329). `st`: 0 FREE, 1 OPEN, 2 CLOSING. The ring lists
(entry, token); prompt tokens lie in the prompt area from `phead` to `ptail`; `cause` is the END_CAUSE of a closed sequence. -/
structure Slot where
  st : Nat
  inc : Nat
  pi : Nat
  ci : Nat
  ring : List (Nat × Nat)
  tg : Nat
  cust : Nat
  session : Nat
  keep : Nat
  alive : Nat
  lost : Bool
  last : Nat
  bindId : Nat
  kind : Nat
  pin : Option Nat
  phead : Nat
  ptail : Nat
  sentAt : Nat
  cause : Nat
  deriving DecidableEq, Repr

/-- A token bucket (R321): rate, cap, balance, enable, remainder, last refill and total debited. -/
structure Bucket where
  rate : Nat
  cap : Nat
  bal : Int
  en : Bool
  rem : Nat
  last : Nat
  debited : Nat
  deriving DecidableEq, Repr

/-- A GCT message held for a later start: session, type, message id, status and body. -/
structure Msg where
  session : Nat
  typ : Nat
  id : Nat
  status : Nat
  body : List Byte
  deriving DecidableEq, Repr

/-- A segment of a GCT message (R418, R420): its SEQ, the message's type, id and status, its place, its body, when it was last
sent and whether it has been sent again, its turn among the segments that wait, whether a full retention buffer holds it up, and whether SACK
has had it sent again since its timer or a move last did. -/
structure GSeg where
  seq : Nat
  typ : Nat
  id : Nat
  status : Nat
  idx : Nat
  cnt : Nat
  body : List Byte
  t0 : Nat := 0
  retx : Bool := false
  ord : Nat := 0
  held : Bool := false
  fast : Bool := false
  deriving DecidableEq, Repr

/-- The state of a session index (R421 to R429): no session, a setup, or a session. -/
inductive SessSt where
  | free | setup | up
  deriving DecidableEq, Repr

/-- A GCT session (R421 to R436): state, EPOCH, admission slot, permissions, alternate path, raw form with its port, anchor, next
SEQ of each direction, segments received and not yet acted on, segments sent and not acknowledged, segments waiting to be
sent, the host's WINDOW, round-trip estimates and timer in µs, expiries in succession of one segment and in all, segments seen
received above the first missing one, times of the last valid datagram, of the last move and of the setup, an ACK owed since,
the data-port cursor, EVENTs dropped, TX_COUNT sent and received, HELLO and OFFER bodies, session keys, the
alternate address, the address of the host on the anchor's network, and the turn of the ports in sending. -/
structure Sess where
  st : SessSt
  epoch : Nat
  ak : Nat
  perm : Nat
  alt : Bool
  raw : Option Nat
  anchor : Nat
  tx : Nat
  rx : Nat
  have_ : List GSeg
  unacked : List GSeg
  queue : List GSeg
  window : Nat
  srtt : Nat
  rttvar : Nat
  rto : Nat
  expiries : Nat
  total : Nat
  lastValid : Nat
  lastMove : Nat
  t0 : Nat
  ackOwed : Option Nat
  cursor : Nat
  evtOver : Bool
  txCount : Nat
  rxHigh : Nat
  rxSeen : List Nat
  hello : List Byte
  offer : List Byte
  keys : List Byte
  altAddr : Nat
  peer : Nat
  turn : Nat
  deriving DecidableEq, Repr

/-- A MACsec secure association (R425, R443): its key with SSCI and salt, the extended packet numbers, and the next packet number. -/
structure SA where
  key : List Byte
  xpn : Bool
  pn : Nat
  deriving DecidableEq, Repr

/-- An Ethernet frame that a port sends (R416, R417, R425): the port, its MAC as the source address, the destination, the form with the
destination UDP port, the source IP address, and the AN and the secure association that protect it, whose packet number is the frame's. -/
structure EFrame where
  port : Nat
  mac : Nat
  dst : Nat
  form : Form
  src : Nat
  sec : Option (Nat × SA)
  deriving DecidableEq, Repr

/-- Something the package sends out. -/
inductive Out where
  /-- A frame on a FLINK (R341): its message of 1,285 bytes, and the symbols that each physical lane carries. -/
  | frame (link : Nat) (msg : List Byte) (lanes : List (Nat × List Nat))
  /-- A training block on a physical lane of a FLINK (R338). -/
  | train (link lane : Nat) (block : List Byte)
  /-- A GCT datagram in an Ethernet frame (R416, R418, R422): its 40 header bytes, its body, and what follows the header on the
  wire: the body of a setup message as it stands, any other body as it is encrypted, with its tag. -/
  | gct (frame : EFrame) (header body wire : List Byte)
  /-- A PTP Delay_Req to the master of a network (R438): the frame, the transport as TIME_CFG codes it, and the domain. -/
  | delayReq (frame : EFrame) (transport domain : Nat)
  /-- A PLDM response over I3C (R538). -/
  | pldm (bytes : List Byte)
  deriving DecidableEq, Repr

/-- The parts of a unit that are not registers (R58, R67, R68, R449 to R456): the state to which a test or a loss of management
returns it, the test in progress (0 none, 1 started by hardware, 2 by SELFTEST), the error code under test with its location,
whether ISOLATE is in effect, whether a reset or a retraining is in progress (of a gang: whether it is held for the test of a member),
the times of its transient classifications, the errors (code, location) whose test follows the one in progress, whether those classifications
have passed the limit of R455, so that the next error is lasting, and the uncorrectable errors whose test is to begin (R454). -/
structure UAux where
  prior : UState
  test : Nat
  code : Nat
  loc : Nat
  iso : Bool
  busy : Bool
  trans : List Nat
  more : List (Nat × Nat)
  span : Nat × Nat
  passed : Bool
  due : List (Nat × Nat)
  deriving DecidableEq, Repr

/-- The fuses that are programmed in the field (R471): FW_SVN and MFST_SVN as counts, KEY_REVOKED and KILL. -/
structure Fuses where
  fwSvn : Nat
  mfstSvn : Nat
  revoked : Nat
  kill : Bool
  deriving DecidableEq, Repr

/-- A component of a firmware image (R472): its TYPE, OFFSET, LENGTH and DIGEST. -/
structure FwComp where
  ty : Nat
  off : Nat
  len : Nat
  digest : List Byte
  deriving DecidableEq, Repr

/-- An admission key slot (R479): key, ROLE (CO) and permission mask. -/
structure AkSlot where
  key : List Byte
  co : Bool
  perm : Nat
  deriving DecidableEq, Repr

/-- The RTU (R467 to R494): fuses, the admission key slots in force, measurement registers and log entries
(oldest first, the last 4,096), attestation requests, the SVN of each CPROC's firmware, the running IFACE_REV and the key slot
that the running image was verified under, the slot whose key store write runs with its new contents, the commit or revocation
in progress or waiting (0 firmware floor, 1 manifest floor, 2 revocation; value), CPROCs of an FW_APPLY still to do, the groups
that await microcode with the time they were named, the size, the source, the key slot and the components of the staged image, the two copies of
the key store as (serial, slots), none where its tag fails (R479, log entry 210), the copy loaded at the last boot (2: neither) with its serial, and the digest of
the microcode in force (R490): under g on a group, under 8 + k on a tile that was given its own, under 1000 that of the boot image. -/
structure RtuSt where
  fuses : Fuses
  ak : List (Nat × AkSlot)
  mr : List (Nat × List Byte)
  log : List (List Byte)
  attest : List Msg
  run : List (Nat × Nat)
  iface : Nat
  keys : List (Nat × Nat)
  akNew : Option (Nat × Option AkSlot)
  blow : List (Nat × Nat)
  apply : List Nat
  ucode : List (Nat × Nat)
  size : Nat
  src : Nat
  skey : Nat
  comps : List FwComp
  stores : List (Option (Nat × List (Nat × AkSlot)))
  akFrom : Nat × Nat
  micro : List (Nat × List Byte)
  deriving DecidableEq, Repr

/-- An island rail that has moved (R499): the level in mV that it had at an instant, its target since then, and SLEW_UP as it was. -/
structure Rail where
  level : Nat
  since : Nat
  target : Nat
  slew : Nat
  deriving DecidableEq, Repr

/-- The supply and its limits (R498 to R509): the mode (0 on, 1 warm restart, 2 BROWNOUT, 3 OFF), the brown-out instant, VIN12
below 10.8 V, when V_CAP last changed and since when it stands at 0.60 V over the cap (plus one; 0 once that has been reported), when
PWR_ALERT_L was released, the ns of CAP_MS not yet counted, when each island's V_THERM last changed, when each CPROC was last reset
by its watchdog (R445), when ROOT became UNMANAGED (R515), the rails that have moved (R499), and the samples of input power in CAP_WINDOW, newest
first (R503). -/
structure PwrSt where
  mode : Nat
  since : Nat
  low : Bool
  capAt : Nat
  overAt : Option Nat
  released : Option Nat
  capNs : Nat
  thermAt : List (Nat × Nat)
  watchAt : List (Nat × Nat)
  aloneAt : Nat
  rails : List (Nat × Rail)
  samples : List Nat
  deriving DecidableEq, Repr

/-- The pins of R529 that carry state: PWR_GOOD, PKG_RESET_L and PWR_ALERT_L low, THERM_TRIP_L driven low, PPS_OUT high, the
state of each GPIO (0 high-impedance, 1 low, 2 high, 3 input with pull-up), the dynamic I3C address (0: none), an in-band
interrupt pending, the sensor values last updated (R538), the last edge of PPS_IN, and whether the xSPI chip select is in use: it is deasserted
until stage OPTION (R458). -/
structure PinSt where
  pwrGood : Bool
  rstLow : Bool
  alertLow : Bool
  tripLow : Bool
  ppsHigh : Bool
  gpio : List Nat
  i3c : Nat
  ibi : Bool
  sensors : List (Nat × Nat)
  ppsAt : Option Nat
  xspi : Bool
  deriving DecidableEq, Repr

/-- What TIME holds beside its registers (R438, R439): 1PPS armed, the last time the active source and the other network's clock
delivered time, and the master each network's clock follows (0: none yet). -/
structure ClkSt where
  armed : Bool
  syncA : Nat
  syncB : Nat
  mastersA : List (Nat × Nat)
  mastersB : List (Nat × Nat)
  deriving DecidableEq, Repr

/-- The retained state of a warm reset (R447): registers, slots, buckets, pools, Updraft's and HALO's tables, the time of the save, and
the groups whose notices were unacknowledged. -/
structure Saved where
  regs : List (Nat × Word)
  slots : List (Nat × Slot)
  buckets : List (Nat × Bucket)
  pools : List (Nat × PoolSt)
  uds : List (Nat × UdSt)
  halos : List (Nat × HaloSt)
  leads : List (Nat × Nat)
  time : Nat
  notices : Nat
  deriving DecidableEq, Repr

/-- Why a command stops with a fault. -/
inductive Fault where
  /-- Nothing raises it: every access of this block that reaches no unit or no memory is answered with a status (R33, R49). It
  is kept so that the outcome of a step has its three forms. Safe. -/
  | noSuchUnit (page : Nat)
  deriving DecidableEq, Repr

/-- Why a command is refused. -/
inductive Refusal where
  /-- The command is not modelled; the mnemonic is that of the opcode table. Raised by `exec` alone. Safe. -/
  | notModelled (mnemonic : String)
  deriving DecidableEq, Repr

/-- The state of the package: its fixed configuration; the registers by (bank, page, offset) that differ from their reset values;
package memory, tile scratch included, and its poison marks; the parts of each unit that are not registers; the fabric layer;
the sequence slots and buckets; requests and actions that wait or run on, register accesses to other packages among them with the entry each has come to; the GCT sessions and their subscriptions; the RTU, the
boot flash, the supply, the pins and the clock; the retained image of a warm reset; the MACsec keys by port and SA; what the
command in hand has sent and the status it answers; the count of free values taken; and the commands that wait. -/
structure State where
  cfg : PkgCfg
  regs : List (Nat × Word)
  mem : List Host.Cell
  poison : List (Nat × Bool)
  seqs : List (Nat × SeqSt)
  tiles : List (Nat × TileSt)
  halos : List (Nat × HaloSt)
  gmems : List (Nat × GmemSt)
  cache : List (Nat × List CLine)
  pools : List (Nat × PoolSt)
  links : List (Nat × FlinkSt)
  fab : FabSt
  uds : List (Nat × UdSt)
  steps : List (Nat × StepSt)
  squalls : List (Nat × SqSt)
  slots : List (Nat × Slot)
  buckets : List (Nat × Bucket)
  seqWait : List Msg
  remote : List (Nat × Msg)
  busy : List Nat
  tables : List (Nat × Nat)
  gangOrder : List Nat
  subs : List (Nat × Nat)
  sessions : List (Nat × Sess)
  late : List (Nat × Nat)
  uaux : List (Nat × UAux)
  rtu : RtuSt
  flash : List (Nat × Byte)
  pw : PwrSt
  pins : PinSt
  clk : ClkSt
  saved : Option Saved
  sas : List (Nat × SA)
  out : List Out
  ret : Status
  freeCtr : Nat
  pending : List Instr
  deriving DecidableEq, Repr

/-- Enabled tiles of a variant, of its 288 positions (R5). -/
def enabledTiles : Variant → Nat | .dr9400 => 256 | .dr9300 => 224 | .dr9200 => 192
/-- The tiles of a die that are neither ABSENT nor in reserve. -/
def PkgCfg.activeOn (c : PkgCfg) (die : Nat) : Nat :=
  ((List.range 144).filter fun k => !c.absentTiles.contains (144 * die + k) && !c.reserveTiles.contains (144 * die + k)).length
/-- A build that may be shipped (R5, R27): as many active tiles as its variant enables, on the DR-9400 half of them on each die, and at
least four reserve tiles on each die, none of them ABSENT. -/
def PkgCfg.shipped (c : PkgCfg) : Bool :=
  c.activeOn 0 + c.activeOn 1 == enabledTiles c.variant && (c.variant != .dr9400 || c.activeOn 0 == 128)
  && [0, 1].all (fun d => decide (4 ≤ (c.reserveTiles.filter fun k => k / 144 == d).length)) && c.reserveTiles.all fun k => !c.absentTiles.contains k
/-- The DR-9400 of the reset state: four tiles of each die fused off and position 11 of each island a reserve, so that 128 of each
die are active (R27); the 32 Gb devices and the 1 TiB devices of the reference build; tray 0 and slot 0; an unprogrammed
PIN_FUSES word, and no key programmed (log entry 1). -/
def PkgCfg.dr9400 : PkgCfg :=
  ⟨.dr9400, 0, [10, 22, 34, 46, 154, 166, 178, 190], (List.range 24).map fun k => 12 * k + 11, List.replicate 20 2,
   [0x80000, 0, 0x80000, 0], 0, 0, 0, 0, [], 0, [], true, true, 0⟩

/-- A DR-9300 and a DR-9200 of the same make (log entry 1): position 11 of each island in reserve, 112 or 96 active tiles on each die, and
the devices that the variant has. -/
def PkgCfg.dr9300 : PkgCfg :=
  { PkgCfg.dr9400 with
    variant := .dr9300
    absentTiles := ((List.range 24).map fun k => 12 * k + 10) ++ (List.range 24).filterMap fun k => if k % 12 < 8 then some (12 * k + 9) else none
    cxlCap := [0x80000, 0, 0, 0] }
def PkgCfg.dr9200 : PkgCfg :=
  { PkgCfg.dr9400 with
    variant := .dr9200, absentTiles := (List.range 24).flatMap fun k => [12 * k + 8, 12 * k + 9, 12 * k + 10], cxlCap := [0, 0, 0, 0] }

/-- The package at the instant t0 of a cold reset with cause POWER_ON (R445, R446, R462): PWR_GOOD is high and PKG_RESET_L has just
been released, BOOT stands in stage FUSE, every register has its reset value, memory lists nothing, and nothing waits. -/
def State.reset : State :=
  { cfg := PkgCfg.dr9400, regs := [], mem := [], poison := [], seqs := [], tiles := [], halos := [], gmems := [], cache := [],
    pools := [], links := [], fab := ⟨[], [], [], [], [], [], [], [], [], [], [], [], [], [], []⟩, uds := [], steps := [], squalls := [],
    slots := [], buckets := [], seqWait := [], remote := [], busy := [], tables := [], gangOrder := [], subs := [], sessions := [], late := [],
    uaux := [], rtu := ⟨⟨0, 0, 0, false⟩, [], [], [], [], [], 0, [], none, [], [], [], 0, 0, 0, [], [some (0, []), some (0, [])], (0, 0), []⟩, flash := [],
    pw := ⟨0, 0, false, 0, none, none, 0, [], [], 0, [], []⟩,
    pins := ⟨true, false, false, false, false, List.replicate 16 0, 0, false, [], none, false⟩,
    clk := ⟨false, 0, 0, [], []⟩, saved := none, sas := [], out := [], ret := .ok, freeCtr := 0, pending := [] }

end Sys2Proof.Machine
end

