-- ==== Sys2Proof/Machine/RegFile.lean ====
section
/-! DEFINITION. The register file: the reset value of every register (R51 to R68 and the chapters' tables), reading and
writing a register or a field, the state of a unit, events (R61 to R64) and error capture (R66). A register is named by a
bank (the entry that an index register shows, 0 for a register without one), a page index and an offset. -/

namespace Sys2Proof

/-- The row covers the offset. -/
def RegRow.covers (r : RegRow) (off : Nat) : Bool :=
  decide (r.off ≤ off) && (off - r.off) % r.stride == 0 && decide ((off - r.off) / r.stride < r.n)

/-- The field of element `i` of an array of registers `stride` bytes apart. -/
def Fld.el (f : Fld) (i : Nat) (stride : Nat := 8) : Fld := { f with off := f.off + i * stride }

end Sys2Proof

namespace Sys2Proof.Machine

/-- The key of a register in State.regs. -/
def regKey (bank p off : Nat) : Nat := bank * 2 ^ 32 + p * 4096 + off

/-- The rows of the register map of a unit type. A GANG page has the TILE layout below 0xE00 (R71). -/
def regRows : UType → List RegRow
  | .root => regRowsROOT | .island => regRowsISLAND | .tgroup => regRowsTGROUP
  | .partition => regRowsPARTITION | .tile => regRowsTILE | .gang => regRowsTILE ++ regRowsGANG
  | .gmem => regRowsGMEM | .btier => regRowsBTIER | .mcache => regRowsMCACHE | .pool => regRowsPOOL
  | .flink => regRowsFLINK | .frouter => regRowsFROUTER | .enet => regRowsENET | .gct => regRowsGCT
  | .dport => regRowsDPORT | .updraft => regRowsUPDRAFT | .squall => regRowsSQUALL
  | .stepseq => regRowsSTEPSEQ | .contrail => regRowsCONTRAIL | .halo => regRowsHALO
  | .check => regRowsCHECK | .rtu => regRowsRTU | .boot => regRowsBOOT | .pwr => regRowsPWR
  | .therm => regRowsTHERM | .time => regRowsTIME | .die | .cproc => []

/-- The row of an offset, if the map defines it. -/
def findRow (t : UType) (off : Nat) : Option RegRow := (regRows t).find? fun r => r.covers off

/-- The RW bits of an offset (R16). -/
def rwMask (t : UType) (off : Nat) : Nat :=
  if off = 0x018 then (if t = .tile || t = .gang then 0x30010 else 0x10)
  else if off = 0x030 then 2 ^ 64 - 1
  else match findRow t off with | some r => r.rw | none => 0

/-- The state that a unit enters after reset (R57): OFFLINE for reserve tiles, gang slots, tile groups, which hold no islands then, with
their STEPSEQs (R279), and partitions; ROOT stays in RESET until READY (R462). -/
def resetState (c : PkgCfg) (t : UType) (k : Nat) : UState :=
  match t with
  | .tile => if c.reserveTiles.contains k then .offline else .idle
  | .gang | .tgroup | .stepseq | .partition | .flink => .offline
  | .boot => .running
  | .root => .reset
  | .rtu => .test
  | _ => .idle

/-- The maximum package power of a variant in W (R504). -/
def maxPower : Variant → Nat | .dr9400 => 2600 | .dr9300 => 2400 | .dr9200 => 2100

/-- ROOT.PART of a variant (R77). -/
def partCode : Variant → Nat | .dr9400 => 0x9400 | .dr9300 => 0x9300 | .dr9200 => 0x9200

/-- The reset value of a unit-specific register that depends on the unit, the part, the pins or the default option record
(R77, R84, R89, R106, R194, R198, R232, R360, R412, R441, R443, R460, R504, R521); `none`: the map's value stands. -/
def specialReset (c : PkgCfg) (t : UType) (k off : Nat) : Option Nat :=
  match t, off with
  | .root, 0x100 => some (partCode c.variant + c.stepping * 2 ^ 16)
  | .root, 0x108 => some (c.trayId * 2 ^ 24 + c.slotId * 2 ^ 32)
  | .tile, 0x100 => some (k + (if c.reserveTiles.contains k then 2 ^ 28 else 0))
  | .tile, 0x120 | .gang, 0x120 => some 0x0000000000100000
  | .tile, 0x128 | .gang, 0x128 => some 0x0000000003000010
  | .tile, 0x130 | .gang, 0x130 => some 0x0000000001800310
  | .tile, 0x138 | .gang, 0x138 => some 0x0000000001700490
  | .tile, 0x208 | .gang, 0x208 => some 0x108
  | .tile, 0x248 | .gang, 0x248 => some 0x008
  | .tile, 0x288 | .gang, 0x288 => some 0x208
  | .tile, 0x2C8 | .gang, 0x2C8 => some 0x308
  | .gmem, 0x100 => some (nth 0 c.density k + 3 * 2 ^ 4)
  | .mcache, o => if 0x108 ≤ o ∧ o < 0x188 then
      some (if (o - 0x108) / 8 = 8 || (o - 0x108) / 8 = 10 || 13 ≤ (o - 0x108) / 8 then 0 else 0xFFFFFFFF) else none
  | .check, 0x100 => some (0xE + (if k < 4 then 0x100 + k * 2 ^ 16 else if 8 ≤ k ∧ k < 12 then 0x100 + (k - 4) * 2 ^ 16 else 0))
  | .gct, 0x100 => some (0xAC58 + 2 ^ 16 + 2 ^ 17)
  | .pwr, 0x100 => some (maxPower c.variant + 2 ^ 16 + 0x03E8 * 2 ^ 32)
  | .pwr, 0x108 => some (620 + 0x0064 * 2 ^ 32)
  | .boot, 0x100 => some 1
  | .boot, 0x110 => some c.pinFuses.toNat
  | _, _ => none

/-- The reset value of a register. -/
def regReset (c : PkgCfg) (key : Nat) : Word :=
  let off := key % 4096
  let p := key / 4096 % 2 ^ 20
  match unitOf p with
  | none => 0
  | some (t, k) =>
    if off < 0x100 then
      match off with
      | 0x018 => if t = .tile || t = .gang then 0x20010 else 0x10
      | 0x020 => BitVec.ofNat 64 (resetState c t k).code
      | 0x030 => BitVec.ofNat 64 (evtMaskReset t)
      | _ => 0
    else match specialReset c t k off with
      | some v => BitVec.ofNat 64 v
      | none => match findRow t off with | some r => BitVec.ofNat 64 r.rst | none => 0

/-- The stored value of a register. -/
def State.reg (s : State) (bank p off : Nat) : Word := tblGet (regReset s.cfg) s.regs (regKey bank p off)

/-- Store a register. -/
def State.setReg (s : State) (bank p off : Nat) (v : Word) : State :=
  { s with regs := tblSet (regReset s.cfg) s.regs (regKey bank p off) v }

/-- Bits [hi:lo] of a word. -/
def bits (w : Word) (hi lo : Nat) : Nat := w.toNat / 2 ^ lo % 2 ^ (hi + 1 - lo)

/-- A word with bits [hi:lo] replaced. -/
def setBits (w : Word) (hi lo v : Nat) : Word :=
  BitVec.ofNat 64 (w.toNat - bits w hi lo * 2 ^ lo + v % 2 ^ (hi + 1 - lo) * 2 ^ lo)

/-- Read a field of a register in a bank. -/
def State.rdB (s : State) (bank p : Nat) (f : Fld) : Nat := bits (s.reg bank p f.off) f.hi f.lo
/-- Write a field of a register in a bank. -/
def State.wrB (s : State) (bank p : Nat) (f : Fld) (v : Nat) : State :=
  s.setReg bank p f.off (setBits (s.reg bank p f.off) f.hi f.lo v)
/-- Read a field. -/
def State.rd (s : State) (p : Nat) (f : Fld) : Nat := s.rdB 0 p f
/-- Write a field. -/
def State.wr (s : State) (p : Nat) (f : Fld) (v : Nat) : State := s.wrB 0 p f v
/-- A one-bit field is 1. -/
def State.on (s : State) (p : Nat) (f : Fld) : Bool := s.rd p f == 1
/-- Add to a counter that wraps at its width. -/
def State.bump (s : State) (p : Nat) (f : Fld) (n : Nat := 1) : State := s.wr p f (s.rd p f + n)
/-- Add to a counter that saturates at its width. -/
def State.bumpSat (s : State) (p : Nat) (f : Fld) (n : Nat := 1) : State :=
  s.wr p f (min (s.rd p f + n) (2 ^ (f.hi + 1 - f.lo) - 1))
/-- Subtract from a level. -/
def State.dec (s : State) (p : Nat) (f : Fld) (n : Nat := 1) : State := s.wr p f (s.rd p f - n)

/-- Registers of a page return to their reset values (R451). -/
def State.regsReset (s : State) (p : Nat) (offs : List Nat) : State :=
  offs.foldl (fun s o => s.setReg 0 p o (regReset s.cfg (regKey 0 p o))) s

/-- DEVICE_TIME in ns (R439). -/
def State.now (s : State) : Nat := s.rd (pg .time 0) F.TIME.DEVICE_TIME
/-- DEVICE_TIME is at least this value: the command that says so is an event of that time (log entry 13). -/
def State.reach (s : State) (t : Nat) : State :=
  if s.now < t then s.wr (pg .time 0) F.TIME.DEVICE_TIME t else s

/-- Answer with a status: the status with which the register write, request or event completes. -/
def State.answer (s : State) (st : Status) : State := { s with ret := st }

/-- The stored state of a unit. -/
def State.stored (s : State) (p : Nat) : UState := UState.ofCode (s.rd p F.COM.STATE)

/-- The state of a unit as its gang chain gives it (R73): a bound unit shows its gang's state, except RESET, TEST and a
HALTED or OFFLINE of its own. `n` bounds the depth (R72 check 9). -/
def State.stateUp (s : State) : Nat → Nat → UState
  | 0, p => s.stored p
  | n + 1, p =>
    if s.on p F.COM.BOUND then
      match s.stored p with
      | .reset => .reset | .test => .test | .halted => .halted | .offline => .offline
      | _ => s.stateUp n (s.rd p F.COM.BOUND_TO)
    else s.stored p

/-- The state of a unit, ABSENT included (R10, R55, R73). -/
def State.ust (s : State) (p : Nat) : UState := if absentPg s.cfg p then .absent else s.stateUp 16 p

/-- A unit accepts new work (R55): it is IDLE or RUNNING, so that one in DRAINING refuses it and one that is HALTED starts none. -/
def State.takesWork (s : State) (p : Nat) : Bool := s.stored p == .idle || s.stored p == .running

/-- The member pages of a gang (R71). -/
def State.members (s : State) (p : Nat) : List Nat :=
  if typeOf p = .gang && s.on p F.GANG.BOUND_OK || typeOf p = .gang && s.on p F.GANG.MEMBER_LOST then
    (List.range (min (s.rd p F.GANG.MEMBER_COUNT) 32)).map fun k => s.rd p (F.GANG.MEMBER.el k)
  else []

/-- Every page of a gang's tree, the gang first. -/
def State.treeN (s : State) : Nat → Nat → List Nat
  | 0, p => [p]
  | n + 1, p => p :: (s.members p).flatMap (s.treeN n)
/-- Every page of the tree below a page. -/
def State.tree (s : State) (p : Nat) : List Nat := s.treeN 16 p

/-- Apply an operation for each element of a list. -/
def forEach {α : Type} (l : List α) (f : α → State → State) (s : State) : State := l.foldl (fun s a => f a s) s

/-- The unit shows UNIT_EVT (R56): a flag is set that its mask does not stop. -/
def State.unitEvt (s : State) (p : Nat) : Bool := (s.reg 0 p 0x028 &&& ~~~ (s.reg 0 p 0x030)) != 0

end Sys2Proof.Machine
end

