-- ==== Sys2Proof/Machine/Send.lean ====
section
/-! DEFINITION. Sending a GCT message (R419, R420, R426) and an EVENT (R64, R435): the message is cut into segments and queued
on its session. What is queued leaves at the end of the command (Gct.lean). -/

namespace Sys2Proof.Machine

/-- A number as `n` little-endian bytes. -/
def leBytes : Nat → Nat → List Byte
  | 0, _ => []
  | n + 1, v => BitVec.ofNat 8 v :: leBytes n (v / 256)

/-- A session index that nothing has used. -/
def Sess.init : Sess :=
  ⟨.free, 0, 0, 0, false, none, 0, 0, 0, [], [], [], 256, 0, 0, 0, 0, 0, 0, 0, 0, none, 0, false, 0, 0, [], [], [], [], 0, 0, 0⟩
/-- A session. -/
def State.sess (s : State) (i : Nat) : Sess := tblGet (fun _ => Sess.init) s.sessions i
/-- Replace it. -/
def State.setSess (s : State) (i : Nat) (x : Sess) : State := { s with sessions := tblSet (fun _ => Sess.init) s.sessions i x }
/-- The session is established. -/
def State.established (s : State) (i : Nat) : Bool := (s.sess i).st == .up
/-- The GCT unit that anchors a session. -/
def State.anchorPg (s : State) (i : Nat) : Nat := pg .gct (s.sess i).anchor

/-- Pieces of 8,192 bytes, the last one shorter. `n` bounds them. -/
def pieces : Nat → List Byte → List (List Byte)
  | 0, b => [b]
  | n + 1, b => if b.length ≤ 8192 then [b] else b.take 8192 :: pieces n (b.drop 8192)
/-- The segments of a body (R420): a body of at most 8,256 bytes fits in one. -/
def segsOf (b : List Byte) : List (List Byte) := if b.length ≤ 8256 then [b] else pieces 1024 b

/-- Queue a message on a session (R420, R426). -/
def State.queueMsg (s : State) (i typ id status : Nat) (body : List Byte) : State :=
  let x := s.sess i
  let ps := segsOf body
  let ord := s.sessions.foldl (fun m y => y.2.queue.foldl (fun m g => max m (g.ord + 1)) m) 0
  let segs := ps.zipIdx.map fun (b, k) => (⟨(x.tx + k) % 2 ^ 32, typ, id, status, k, ps.length, b, 0, false, ord, false, false⟩ : GSeg)
  s.setSess i { x with tx := (x.tx + ps.length) % 2 ^ 32, queue := x.queue ++ segs }

/-- Send a message on a session (R419): dropped where it is not established, a REPORT then counting in EVT_LOST. -/
def State.gctSend (s : State) (i typ id status : Nat) (body : List Byte) : State :=
  if s.established i then s.queueMsg i typ id status body
  else if typ = 0x2A then s.bump (s.anchorPg i) F.GCT.EVT_LOST else s

/-- The sessions subscribed to a page (R434): `subs` lists (session, page). -/
def State.subscribers (s : State) (p : Nat) : List Nat := (s.subs.filter fun x => x.2 == p).map (·.1)

/-- The EVENT body of a unit (R435). -/
def State.eventBody (s : State) (p : Nat) (ovf : Bool) : List Byte :=
  leBytes 4 p ++ leBytes 1 ((s.ust p).code + (if ovf then 16 else 0)) ++ leBytes 3 0 ++ leBytes 8 (s.reg 0 p 0x028).toNat
  ++ leBytes 8 (s.reg 0 p 0x038).toNat ++ leBytes 8 (s.reg 0 p 0x040).toNat ++ leBytes 8 s.now

/-- Queue an EVENT on a session (R435): with 256 waiting it is dropped, and the next one says so. -/
def State.sendEvent (s : State) (p i : Nat) : State :=
  let x := s.sess i
  if x.st != .up then s.bump (s.anchorPg i) F.GCT.EVT_LOST
  else if 256 ≤ (x.queue.filter fun g => g.typ == 0x22).length then
    let s := (s.setSess i { x with evtOver := true }).bump (s.anchorPg i) F.GCT.EVT_LOST
    { s with late := s.late ++ [(s.anchorPg i, F.EVT.GCT.EVT_OVERFLOW)] }
  else (s.setSess i { x with evtOver := false }).queueMsg i 0x22 0 0 (s.eventBody p x.evtOver)

/-- Report an event (R64): one EVENT message to every subscribed session, with the flags and the count as they stand. -/
def State.report (s : State) (p : Nat) : State := (s.subscribers p).foldl (fun s i => s.sendEvent p i) s

end Sys2Proof.Machine
end

