-- ==== Sys2Proof/Machine/Flags.lean ====
section
/-! DEFINITION. Status and event flags: setting and reporting an event (R61 to R64), entering a state (R58), capturing an
error (R66), and the free values of State. -/

namespace Sys2Proof.Machine

/-- Hardware sets an event flag (R61, R63, R64): the flag is set and counted, and a 0 to 1 change of an unmasked flag is
reported. An ABSENT unit has no events (R10). -/
def State.setEvt (s : State) (p bit : Nat) : State :=
  if absentPg s.cfg p then s else
  let was := (s.reg 0 p 0x028).getLsbD bit
  let s := s.setReg 0 p 0x028 (s.reg 0 p 0x028 ||| BitVec.ofNat 64 (2 ^ bit))
  let s := (s.bump p F.COM.SET_COUNT).wr p F.COM.LAST_BIT bit
  if !was && !(s.reg 0 p 0x030).getLsbD bit then s.report p else s

/-- Enter a state (R58); entering HALTED, OFFLINE, QUARANTINED or UNMANAGED sets the STATE event (R61), also of every member that
follows the unit's state (R73). -/
def State.enter (s : State) (p : Nat) (st : UState) : State :=
  if s.stored p = st then s else
  let s := s.wr p F.COM.STATE st.code
  match st with
  | .halted | .offline | .quarantined | .unmanaged =>
      forEach (s.tree p) (fun q s => if q = p || s.ust q == st && s.stored q != st then s.setEvt q F.EVT.COM.EVT_STATE else s) s
  | _ => s

/-- Show a unit RUNNING while a condition holds and IDLE otherwise; other states are left (R58). -/
def State.runIff (s : State) (p : Nat) (b : Bool) : State :=
  match s.stored p with
  | .idle => if b then s.enter p .running else s
  | .running => if b then s else s.enter p .idle
  | _ => s

/-- Capture an error (R66): the first while VALID is 0; a further one sets OVERFLOW. -/
def State.capture (s : State) (p code : Nat) (st : Status) (loc : Nat) : State :=
  if absentPg s.cfg p then s
  else if s.on p F.COM.ERR_VALID then s.wr p F.COM.ERR_OVERFLOW 1
  else
    let v := code % 256 + st.code * 2 ^ 8 + 2 ^ 16 + loc % 2 ^ 32 * 2 ^ 32
    (s.setReg 0 p 0x040 (BitVec.ofNat 64 v)).setReg 0 p 0x048 (BitVec.ofNat 64 s.now)

/-- The parts of a unit that are not registers, as reset leaves them. -/
def UAux.init : UAux := ⟨.idle, 0, 0, 0, false, false, [], [], (0, 0), false, []⟩
/-- Those of a unit. -/
def State.ua (s : State) (p : Nat) : UAux := tblGet (fun _ => UAux.init) s.uaux p
/-- Replace them. -/
def State.setUa (s : State) (p : Nat) (x : UAux) : State := { s with uaux := tblSet (fun _ => UAux.init) s.uaux p x }
/-- The 8 KiB row of a word (R111). -/
def rowOfWord (off : Nat) : Nat := off / 0x2000
/-- Two errors of a tile ask for the same targeted self-test (R111): of a row, of a link, or of a structure. -/
def sameTest (a b : Nat × Nat) : Bool :=
  a.1 == b.1 && (if a.1 = 1 || a.1 = 2 then rowOfWord a.2 == rowOfWord b.2 else if a.1 = 8 then a.2 == b.2 else true)
/-- An error whose test follows those that a unit has before it (R456). -/
def State.testMore (s : State) (p code loc : Nat) : State :=
  let x := s.ua p
  if sameTest (x.code, x.loc) (code, loc) || x.more.any (sameTest (code, loc)) then s else s.setUa p { x with more := x.more ++ [(code, loc)] }
/-- The limit of R455 has been passed: the next error of the unit is lasting, without a test. -/
def State.tooTransient (s : State) (p : Nat) : Bool := s.rd (pg .boot 0) F.BOOT.TRANSIENT_LIMIT != 0 && (s.ua p).passed
/-- An error awaits its targeted self-test (R111, R454): its code and location. Above the limit of R455 it is lasting without one, which comes
before the tests that wait. -/
def State.awaitTest (s : State) (p code loc : Nat) : State :=
  let x := s.ua p
  if s.tooTransient p && x.test = 0 then
    s.setUa p { x with test := 3, passed := false, code := code, loc := loc, more := if x.code = 0 then x.more else (x.code, x.loc) :: x.more }
  else if x.code = 0 && x.test = 0 then s.setUa p { x with code := code, loc := loc } else s.testMore p code loc
/-- An uncorrectable error of a unit with a SELFTEST routine whose test is to begin (R454); `code` names the structure. -/
def State.dueTest (s : State) (p code loc : Nat) : State :=
  if capSelftest (typeOf p) then s.setUa p { s.ua p with due := (s.ua p).due ++ [(code, loc)] } else s

/-- Take the next free value (log entry 4). -/
def State.free (s : State) : Nat × State := (Config.freeValue s.freeCtr, { s with freeCtr := s.freeCtr + 1 })

/-- One of several elements that the spec leaves to the implementation to choose (log entry 12): a free value picks it. -/
def State.pick {α : Type} (s : State) (d : α) (l : List α) : α × State :=
  match l with
  | [] => (d, s)
  | [x] => (x, s)
  | _ => let (v, s) := s.free; (nth d l (v % l.length), s)

/-- Put a message on the way out. -/
def State.emit (s : State) (o : Out) : State := { s with out := s.out ++ [o] }

end Sys2Proof.Machine
end

