-- ==== Sys2Proof/Machine/Ops.lean ====
section
/-! DEFINITION. Shared operations: package memory and tile scratch (R13, R33, R110), gang membership (R43, R71, R96), tile
groups (R36, R70), the sequencer's tables, and the record of what a command answers. -/

namespace Sys2Proof.Machine

/-- What a byte of memory that nothing has written reads as (log entry 6). -/
def memDefault : Nat → Byte := fun _ => 0

/-- One byte of package memory. -/
def State.byte (s : State) (a : Nat) : Byte := tblGet memDefault s.mem a
/-- Write one byte of package memory. -/
def State.setByte (s : State) (a : Nat) (v : Byte) : State := { s with mem := tblSet memDefault s.mem a v }

/-- The little-endian number in `n` bytes from `a` on (R13). -/
def State.ld (s : State) (a : Nat) : Nat → Nat
  | 0 => 0
  | n + 1 => (s.byte a).toNat + 256 * s.ld (a + 1) n

/-- Write a number as `n` little-endian bytes. -/
def State.st (s : State) (a : Nat) : Nat → Nat → State
  | 0, _ => s
  | n + 1, v => (s.setByte a (BitVec.ofNat 8 v)).st (a + 1) n (v / 256)

/-- `n` bytes from `a` on. -/
def State.ldBytes (s : State) (a : Nat) : Nat → List Byte
  | 0 => []
  | n + 1 => s.byte a :: s.ldBytes (a + 1) n

/-- Write a list of bytes. -/
def State.stBytes (s : State) (a : Nat) : List Byte → State
  | [] => s
  | b :: t => (s.setByte a b).stBytes (a + 1) t

/-- Every byte of a range lies where the predicate allows it to stay; the rest of memory is dropped (a device that comes up
empty, R204). -/
def State.keepMem (s : State) (p : Nat → Bool) : State := { s with mem := s.mem.filter fun c => p c.1 }

/-- The local offset of a byte of a tile position's scratch (R33). -/
def scr (pos off : Nat) : Nat := 0x4000000000 + pos * 0x8000000 + off
/-- The size of a scratch slice: 96 MiB (R84). -/
def sliceBytes : Nat := 0x6000000
/-- The tile scratch region of R33. -/
def inScratch (a : Nat) : Bool := decide (0x4000000000 ≤ a) && decide (a < 0x4900000000)
/-- The 32-byte word of an address that carries a poison mark (R110). -/
def pword (a : Nat) : Nat := a / 32

/-- A word of memory is marked poisoned (R110, R192, R204). -/
def State.isPoison (s : State) (w : Nat) : Bool := tblGet (fun _ => false) s.poison w
/-- Mark or clear the words that a range touches. -/
def State.mark (s : State) (b : Bool) (w : Nat) : Nat → State
  | 0 => s
  | n + 1 => ({ s with poison := tblSet (fun _ => false) s.poison w b }).mark b (w + 1) n
/-- The number of 32-byte words that a range touches. -/
def wordsOf (a n : Nat) : Nat := if n = 0 then 0 else (a + n - 1) / 32 - a / 32 + 1
/-- Some word of a range is poisoned. -/
def State.anyPoison (s : State) (a n : Nat) : Bool := (List.range (wordsOf a n)).any fun i => s.isPoison (a / 32 + i)
/-- Mark every word of a range. -/
def State.markRange (s : State) (a n : Nat) (b : Bool) : State := s.mark b (a / 32) (wordsOf a n)

/-- Write whole bytes to memory and clear the marks of the words written in full (R110). -/
def State.put (s : State) (a : Nat) (bs : List Byte) : State :=
  let first := (a + 31) / 32
  let last := (a + bs.length) / 32
  (s.stBytes a bs).mark false first (last - first)

/-- The SeqSt of a page that has done nothing. The round robin of R92 begins with Q0 among equal queues: the model's choice (log
entry 165). -/
def SeqSt.init : SeqSt := ⟨[], [], none, [], [], [], [3, 3, 3, 3], .idle, none⟩
/-- The reset layout of the regions (R84). -/
def resetRegions : List (Nat × Nat) := [(0, 16), (16, 768), (784, 384), (1168, 368)]
/-- The TileSt of a position after reset. -/
def TileSt.init : TileSt := ⟨resetRegions, [], [0, 0, 0, 0], [], [], 0, [], [[], []]⟩
/-- A HALO after reset. -/
def HaloSt.init : HaloSt := ⟨[], [], [], [], [], []⟩
/-- No statistics. -/
def HStat.zero' : HStat := ⟨0, 0, 0, 0, 0, 0⟩

/-- The sequencer of a tile or gang page. -/
def State.sq (s : State) (p : Nat) : SeqSt := tblGet (fun _ => SeqSt.init) s.seqs p
/-- Replace it. -/
def State.setSq (s : State) (p : Nat) (x : SeqSt) : State := { s with seqs := tblSet (fun _ => SeqSt.init) s.seqs p x }
/-- The tile at a position. -/
def State.tl (s : State) (pos : Nat) : TileSt := tblGet (fun _ => TileSt.init) s.tiles pos
/-- Replace it. -/
def State.setTl (s : State) (pos : Nat) (x : TileSt) : State := { s with tiles := tblSet (fun _ => TileSt.init) s.tiles pos x }
/-- The HALO of a group. -/
def State.hl (s : State) (g : Nat) : HaloSt := tblGet (fun _ => HaloSt.init) s.halos g
/-- Replace it. -/
def State.setHl (s : State) (g : Nat) (x : HaloSt) : State := { s with halos := tblSet (fun _ => HaloSt.init) s.halos g x }

/-- The leaf tile positions of a page, depth first in member order (R96). `n` bounds the depth. -/
def State.leavesN (s : State) : Nat → Nat → List Nat
  | 0, p => if typeOf p = .tile then [instOf p] else []
  | n + 1, p => if typeOf p = .tile then [instOf p] else (s.members p).flatMap (s.leavesN n)

/-- The leaf tile positions of a tile or gang page. -/
def State.leaves (s : State) (p : Nat) : List Nat := s.leavesN 16 p
/-- The lead tile of a page (R96). -/
def State.lead (s : State) (p : Nat) : Nat := (s.leaves p).headD 0
/-- The gangs that hold a page, innermost first. -/
def State.gangsAboveN (s : State) : Nat → Nat → List Nat
  | 0, _ => []
  | n + 1, p => if s.on p F.COM.BOUND then s.rd p F.COM.BOUND_TO :: s.gangsAboveN n (s.rd p F.COM.BOUND_TO) else []
/-- The gangs that hold a page, innermost first. -/
def State.gangsAbove (s : State) (p : Nat) : List Nat := s.gangsAboveN 16 p
/-- The outermost unit that a page is part of. -/
def State.outer (s : State) (p : Nat) : Nat := (s.gangsAbove p).getLastD p

/-- The open step of the group's STEPSEQ. -/
def State.openOf (s : State) (g : Nat) : Option OpenStep := ((tblFind g s.steps).bind (·.opened))

/-- The open step of a group, replaced. -/
def State.setOpen (s : State) (g : Nat) (o : Option OpenStep) : State :=
  match tblFind g s.steps with
  | some x => { s with steps := tblInsert g { x with opened := o } (tblErase g s.steps) }
  | none => s

/-- Change the open step of a group. -/
def State.modOpen (s : State) (g : Nat) (f : OpenStep → OpenStep) : State :=
  match s.openOf g with | some o => s.setOpen g (some (f o)) | none => s

/-- A unit of a group has reported an uncorrectable error: its open step does not commit as it stands (R266). -/
def State.stepErr (s : State) (g : Nat) : State := s.modOpen g fun o => { o with err := true }

/-- The tile group a tile or gang page serves, if any (R70, R106). -/
def State.groupOf (s : State) (p : Nat) : Option Nat :=
  if typeOf p = .gang then
    (if s.stored p = .offline then none else some (s.rd p F.GANG.TGROUP))
  else if s.on p F.TILE.SERVES_VALID then some (s.rd p F.TILE.SERVES_TGROUP) else none

/-- The positions that serve a group (R70). -/
def State.servers (s : State) (g : Nat) : List Nat :=
  (List.range 288).filter fun k => s.groupOf (pg .tile k) == some g

/-- ACTIVE_TILES of a group counts the tiles that serve it (R70). -/
def State.countActive (s : State) (g : Nat) : State := s.wr (pg .tgroup g) F.TGROUP.ACTIVE_TILES (s.servers g).length

/-- Byte `o` on of a descriptor, `n` bits from bit `b` (R113). -/
def dfld (d o b n : Nat) : Nat := d / 2 ^ (8 * o + b) % 2 ^ n

/-- Serial comparison of R22: a is later than b among n-bit values. -/
def laterThan (n a b : Nat) : Bool :=
  let x := (a + 2 ^ n - b % 2 ^ n) % 2 ^ n
  decide (1 ≤ x) && decide (x ≤ 2 ^ (n - 1) - 1)
/-- Two values whose difference is exactly 2^(n-1) are unordered (R22). -/
def unordered (n a b : Nat) : Bool := (a + 2 ^ n - b % 2 ^ n) % 2 ^ n == 2 ^ (n - 1)

end Sys2Proof.Machine
end

