-- ==== Sys2Proof/Machine/Operands.lean ====
section
/-! DEFINITION. Command descriptors: the classes (R116), the body of each (R113, R122, R125, R127, R129, R130, R132, R134,
R135, R137, R138, R140, R141) and the checks before a command starts (R114, R115, R117 to R119, R156). -/

namespace Sys2Proof.Machine

/-- CLASS of a descriptor. -/
def dClass (d : Nat) : Nat := dfld d 0 0 8
/-- OP of a descriptor. -/
def dOp (d : Nat) : Nat := dfld d 1 0 8
/-- TAGGED. -/
def dTagged (d : Nat) : Bool := dfld d 2 0 1 == 1
/-- WATCH. -/
def dWatch (d : Nat) : Bool := dfld d 2 1 1 == 1
/-- The step tag: STEP_NUMBER and GENERATION. -/
def dTag (d : Nat) : Nat × Nat := (dfld d 4 0 32, dfld d 8 0 16)
/-- LAYER. -/
def dLayer (d : Nat) : Nat := dfld d 14 0 10
/-- WATCH_ID. -/
def dWatchId (d : Nat) : Nat := dfld d 12 0 16
/-- CMD_ID. -/
def dCmdId (d : Nat) : Nat := dfld d 10 0 16

/-- The engine of a class (R116): 0 array, 1 vector, 2 mover, 3 control. ATTN is listed under the array and holds the
vector unit too. -/
def engineOf (cls : Nat) : Nat :=
  if cls = 0x10 ∨ cls = 0x11 ∨ cls = 0x40 ∨ cls = 0x41 then 0
  else if cls = 0x20 ∨ cls = 0x21 ∨ cls = 0x22 then 1
  else if cls = 0x30 ∨ cls = 0x31 ∨ cls = 0x32 then 2 else 3

/-- The operation codes of a class (R116, R122 to R141); none for an undefined class. -/
def opsOf : Nat → List Nat
  | 0x00 => [0] | 0x01 => [0, 1, 2, 3] | 0x02 => [0, 1, 2] | 0x10 => [0, 1] | 0x11 => [0]
  | 0x20 => [0, 1, 2, 3, 4, 5, 6, 7, 8, 9, 0xA, 0xB, 0xC, 0xD, 0xE, 0x10, 0x11, 0x12, 0x13, 0x20]
  | 0x21 => [0, 1] | 0x22 => [0] | 0x30 => [0, 1, 2, 3, 4, 5] | 0x31 => [0, 1] | 0x32 => [0, 1, 2, 3, 4]
  | 0x40 => [0] | 0x41 => [0] | _ => []

/-- The operation is executed only where TYPE_CAP.TRAIN is 1 (R102, R128). -/
def isTrain (cls op : Nat) : Bool := cls == 0x40 || cls == 0x41 || (cls == 0x20 && op == 0x20)

/-- A bit run of the descriptor: byte, bit within it, width. -/
abbrev Run3 := Nat × Nat × Nat

/-- The header's defined bits (R113). -/
def headerBits : List Run3 := [(0, 0, 16), (2, 0, 2), (3, 0, 5), (4, 0, 32), (8, 0, 16), (10, 0, 16), (12, 0, 16), (14, 0, 10)]

/-- The body's defined bits of a class and operation; a field that the rules want zero for the operation is left
out, and bits [31:27] of a scratch reference are reserved (R114). -/
def bodyBits (d : Nat) : List Run3 :=
  let op := dOp d
  match dClass d with
  | 0x00 => []
  | 0x01 => [(16, 0, 8), (18, 0, 9), (20, 0, 27), (24, 0, 64), (32, 0, 16), (34, 0, 16)]
  | 0x02 => [(16, 0, 4), (18, 0, 16), (20, 0, 32), (24, 0, 27), (28, 0, 32), (32, 0, 27)]
  | 0x10 | 0x40 =>
      [(16, 0, 8), (17, 0, 1), (18, 0, 16), (24, 0, 27), (28, 0, 32), (40, 0, 27), (44, 0, 32)]
      ++ (if dfld d 17 0 1 = 1 then [(48, 0, 27)] else [])
      ++ (if op = 1 && dClass d = 0x10 then [(32, 0, 27), (52, 0, 27), (56, 0, 16)] else [(20, 0, 16), (22, 0, 16), (32, 0, 27)])
      ++ (if dfld d 16 0 4 = 5 then [] else [(36, 0, 27)])
  | 0x11 => [(16, 0, 8), (17, 0, 2), (18, 0, 16), (20, 0, 8), (21, 0, 8), (22, 0, 8), (24, 0, 27), (28, 0, 27), (32, 0, 27), (36, 0, 27), (40, 0, 32)]
  | 0x20 =>
      [(16, 0, 8), (18, 0, 16), (20, 0, 32), (24, 0, 27), (36, 0, 27), (40, 0, 32), (44, 0, 32), (48, 0, 32)]
      ++ (if [0, 1, 2, 4, 5, 7, 9, 0x12, 0x20].contains op then [(28, 0, 27)] else [])
      ++ (if [2, 5, 0x12, 0x20].contains op then [(32, 0, 27)] else [])
      ++ (if op = 0x12 then [(52, 0, 8)] else []) ++ (if op = 0x20 then [(56, 0, 27)] else [])
  | 0x21 => [(16, 0, 8), (17, 0, 4), (18, 0, 16), (20, 0, 32), (24, 0, 27), (28, 0, 27), (32, 0, 32), (36, 0, 32), (40, 0, 32), (44, 0, 32)]
      ++ (if dfld d 17 2 2 = 2 then [(48, 0, 27)] else [])
  | 0x22 => [(16, 0, 4), (17, 0, 1), (18, 0, 16), (20, 0, 32), (24, 0, 27), (28, 0, 32), (32, 0, 27), (36, 0, 27)]
  | 0x30 => [(16, 0, if op = 1 then 45 else 27), (24, 0, if op = 2 then 45 else 27), (32, 0, 32), (36, 0, 16), (38, 0, 9), (40, 0, 32), (44, 0, 32), (48, 0, 64)]
  | 0x31 => [(16, 0, 52), (24, 0, 27), (28, 0, 32), (32, 0, 27), (36, 0, 16)]
  | 0x32 => (if op = 4 then [(16, 0, 27), (20, 0, 9), (21, 1, 3), (21, 4, 3), (22, 0, 7)] else [(16, 0, 52)])
      ++ [(24, 0, 27), (28, 0, 32), (32, 0, 27), (36, 0, 16), (38, 0, 1), (39, 0, 6), (40, 0, if dfld d 40 0 32 = 0xFFFFFFFF then 32 else 27)]
  | 0x41 => [(16, 0, 5), (18, 0, 16), (20, 0, 16), (22, 0, 16), (24, 0, 27), (28, 0, 32), (32, 0, 27), (36, 0, 32), (40, 0, 27), (44, 0, 32)]
  | _ => []

/-- The mask of a list of bit runs. -/
def runMask (l : List Run3) : Nat := l.foldl (fun m r => m ||| ((2 ^ r.2.2 - 1) * 2 ^ (8 * r.1 + r.2.1))) 0

/-- The byte offsets at which the fields of a descriptor begin, reserved ones included, in falling order (R113, R122 to R141). -/
def fieldStarts (cls : Nat) : List Nat :=
  (match cls with
   | 0x01 => [36, 34, 32, 24, 20, 18, 17]
   | 0x02 => [36, 32, 28, 24, 20, 18, 17]
   | 0x10 | 0x40 => [58, 56, 52, 48, 44, 40, 36, 32, 28, 24, 22, 20, 18, 17]
   | 0x11 => [44, 40, 36, 32, 28, 24, 23, 22, 21, 20, 18, 17]
   | 0x20 => [60, 56, 53, 52, 48, 44, 40, 36, 32, 28, 24, 20, 18, 17]
   | 0x21 => [52, 48, 44, 40, 36, 32, 28, 24, 20, 18, 17]
   | 0x22 => [40, 36, 32, 28, 24, 20, 18, 17]
   | 0x30 => [56, 48, 44, 40, 38, 36, 32, 24]
   | 0x31 => [38, 36, 32, 28, 24]
   | 0x32 => [44, 40, 39, 38, 36, 32, 28, 24]
   | 0x41 => [48, 44, 40, 36, 32, 28, 24, 22, 20, 18, 17]
   | _ => []) ++ [16, 14, 12, 10, 8, 4, 3, 2, 1, 0]

/-- The byte offset of the first field of a descriptor with a reserved bit that is not zero (R117 check 3, R120). -/
def rsvByte (d : Nat) : Option Nat :=
  let x := d ^^^ (d &&& runMask (headerBits ++ bodyBits d))
  ((List.range 64).find? fun b => x / 2 ^ (8 * b) % 256 != 0).map fun b => ((fieldStarts (dClass d)).find? (· ≤ b)).getD b

/-- What a command says about itself that the checks need: fields that must hold (each with the DETAIL_BYTE and
DETAIL_REASON of its failure), alignments (value, modulus, byte) and operands. -/
structure Opd where
  off : Nat
  len : Nat
  kind : Nat
  byte : Nat
  deriving DecidableEq, Repr

/-- Operand kinds: 0 read from any region but QUEUES, 1 read from any region (COPY and list sources, R85), 2 weight
(WINDOW), 3 output (KV or WORK), 4 mover output (KV, WORK or WINDOW), 5 WORK only. -/
def kindRegions : Nat → List Nat
  | 0 => [1, 2, 3] | 1 => [0, 1, 2, 3] | 2 => [1] | 3 => [2, 3] | 4 => [1, 2, 3] | _ => [3]

/-- The bytes of an element of a plain type code: 0 FP32, 1 BF16. -/
def esz (t : Nat) : Nat := if t = 0 then 4 else 2
/-- Values in one scaled line of a format (R149). -/
def perLine (f : Fmt) : Nat := if f.is4 then 512 else 256
/-- The bytes of a row of `k` values in a format's stored form (R153). -/
def rowBytes (f : Fmt) (k : Nat) : Nat :=
  if f = .bf16 then 2 * k else (k + perLine f - 1) / perLine f * 272
/-- The K of one array block (R78). -/
def kBlk (f : Fmt) : Nat := if f.is4 then 256 else 128
/-- The bytes of one array load (R151). -/
def loadBytes (f : Fmt) : Nat := if f = .bf16 then 32768 else 17408
/-- The panels, each with an FP32 scale, of one array load (R152). -/
def loadPanels (f : Fmt) : Nat := if f = .bf16 then 0 else if f.is4 then 2 else 1
/-- The extent of `rows` rows `pitch` bytes apart of which each holds `b` bytes. -/
def span (rows pitch b : Nat) : Nat := if rows = 0 then 0 else (rows - 1) * pitch + b

/-- The deal procedure of R98: the first block and the count of member `k` of `m`. -/
def deal (blocks m k : Nat) : Nat × Nat :=
  let q := blocks / m
  let r := blocks % m
  (if k < r then k * (q + 1) else r * (q + 1) + (k - r) * q, if k < r then q + 1 else q)

/-- The shares of the leaves of a page: position, first item, count (R101, R116). -/
def State.rowShares (s : State) : Nat → Nat → Nat → Nat → List (Nat × Nat × Nat)
  | 0, p, lo, n => [(instOf p, lo, n)]
  | k + 1, p, lo, n =>
    if typeOf p = .tile then [(instOf p, lo, n)]
    else
      let ms := s.members p
      ms.zipIdx.flatMap fun (m, i) => let (f, c) := deal n ms.length i; s.rowShares k m (lo + f) c

/-- The shares of a weight operand: position, first K block, K blocks, first column block, column blocks (R98). -/
def State.wShares (s : State) : Nat → Nat → Nat → Nat → Nat → Nat → List (Nat × Nat × Nat × Nat × Nat)
  | 0, p, k0, kc, n0, nc => [(instOf p, k0, kc, n0, nc)]
  | k + 1, p, k0, kc, n0, nc =>
    if typeOf p = .tile then [(instOf p, k0, kc, n0, nc)]
    else
      let ms := s.members p
      ms.zipIdx.flatMap fun (m, i) =>
        if s.rd p F.GANG.SPLIT = 0 then let (f, c) := deal nc ms.length i; s.wShares k m k0 kc (n0 + f) c
        else let (f, c) := deal kc ms.length i; s.wShares k m (k0 + f) c n0 nc

/-- The largest number of array loads that a leaf of the page holds. -/
def State.maxLoads (s : State) (p kc nc : Nat) : Nat :=
  ((s.wShares 16 p 0 kc 0 nc).map fun x => x.2.2.1 * x.2.2.2.2).foldl max 0

/-- The mode of a matrix command: MODE, or for RECIPE the mode latched for LAYER (R122, R187). -/
def State.modeOf (s : State) (p d : Nat) : Option Fmt :=
  let m := dfld d 16 0 4
  if m = 0xF then
    match s.groupOf p with
    | some g => fmtOf (tblGet (fun _ => 0xF) (s.hl g).latched (dLayer d))
    | none => none
  else fmtOf m

/-- CAP of a TOPK: IMM1 as an FP32 integer value (R283); 0 where it is none. -/
def topkCap (d : Nat) : Nat :=
  match fp32 (dfld d 48 0 32) with
  | .fin false q => if q.d != 0 && q.n % q.d == 0 then (q.n / q.d).toNat else 0
  | _ => 0
/-- P64 of R284. -/
def p64 (x : Nat) : Nat := (x + 63) / 64 * 64
/-- The offsets c1 to c7 of a router block, and its size (R284). -/
def topkOffs (e k cap : Nat) : List Nat :=
  let c1 := 64 + p64 (2 * e)
  let c2 := c1 + 64 * e
  let c3 := c2 + 16 * e
  let c4 := c3 + 128 * cap
  let c5 := c4 + 2 * cap * k
  let c6 := c5 + 4 * cap * k
  let c7 := c6 + 2 * cap * k
  [c1, c2, c3, c4, c5, c6, c7, c7 + 256 * cap * k]
/-- The limits of R283 on K, E, CAP and M. -/
def topkOk (d : Nat) : Bool :=
  let cap := topkCap d
  decide (dfld d 20 0 32 ≤ 4096) && decide (dfld d 52 0 8 ≤ dfld d 20 0 32) && cap % 32 == 0 && decide (32 ≤ cap) && decide (cap ≤ 4064)
  && decide (cap * dfld d 52 0 8 ≤ 65535) && decide (dfld d 18 0 16 ≤ cap)

/-- A check with its DETAIL_BYTE and DETAIL_REASON. -/
abbrev Chk := Bool × Nat × Nat

/-- Checks 3 of R117 beyond the reserved bits: enumerations (reason 0x02) and counts (reason 0x03). `layers` is the LAYERS
of the group's checked step program. -/
def State.fieldChecks (s : State) (p layers d : Nat) : List Chk :=
  let op := dOp d
  let hdr : List Chk :=
    [(dTagged d || dfld d 4 0 32 == 0, 4, 0x01), (dTagged d || dfld d 8 0 16 == 0, 8, 0x01), (dWatch d || dWatchId d == 0, 12, 0x01)]
  let body : List Chk := match dClass d with
    | 0x01 => [(op ≥ 2 || dfld d 16 0 8 ≤ 1, 16, 0x02)]
    | 0x02 => [(dWatch d, 2, 0x02), (dfld d 16 0 4 ≤ 6, 16, 0x02)]
    | 0x10 | 0x40 =>
        let m := dfld d 16 0 4
        let n := dfld d 22 0 16 * (if dClass d = 0x40 then kBlk ((s.modeOf p d).getD .fp4) else 128)
        let es := if dfld d 16 5 1 = 1 then 2 else 4
        let l : List Chk := [ (m ≤ 5 || m == 0xF, 16, 0x02), (m != 0xF || dTagged d, 16, 0x02),
          (dfld d 16 4 1 = 0 || dfld d 16 5 1 = 0, 16, 0x02), (dfld d 16 6 2 ≤ 2, 16, 0x02),
          (m != 0xF || (s.groupOf p).isNone || dLayer d < layers, 14, 0x03),
          (m != 0xF || s.modeOf p d != some .bf16 || dfld d 36 0 32 == 0, 36, 0x01) ]
        if op = 0 || dClass d = 0x40 then (decide (n * es ≤ dfld d 44 0 32), 44, 0x03) :: l else l
    | 0x11 =>
        let ok (x : Nat) : Bool := x == 2 || x == 3 || x == 5
        [ (ok (dfld d 16 0 4), 16, 0x02), (ok (dfld d 16 4 4), 16, 0x02),
          (1 ≤ dfld d 20 0 8 && dfld d 20 0 8 ≤ 128, 20, 0x03),
          (1 ≤ dfld d 21 0 8 && dfld d 20 0 8 % dfld d 21 0 8 == 0, 21, 0x03),
          (1 ≤ dfld d 22 0 8 && dfld d 22 0 8 ≤ 8, 22, 0x03) ]
    | 0x20 =>
        [ (dfld d 16 0 4 ≤ 1, 16, 0x02), (dfld d 16 4 4 ≤ 1, 16, 0x02), (dfld d 20 0 32 ≤ 2 ^ 20, 20, 0x03),
          (dfld d 20 0 32 ≤ dfld d 40 0 32, 40, 0x03),
          (op != 0x12 || (1 ≤ dfld d 52 0 8 && dfld d 52 0 8 ≤ 16), 52, 0x03),
          (op != 0x20 || dfld d 36 0 32 == dfld d 24 0 32, 36, 0x02),
          (op != 0x12 || dfld d 16 4 4 == 0, 16, 0x02), (op != 0x12 || topkOk d, 20, 0x03) ]
    | 0x21 =>
        let f := (fmtOf (dfld d 16 0 4)).getD .fp4
        let line := (dfld d 20 0 32 + perLine f - 1) / perLine f * 272
        let imm := fp32 (dfld d 44 0 32)
        [ (dfld d 16 0 4 ≤ 4, 16, 0x02), (dfld d 16 4 4 ≤ 1, 16, 0x02), (dfld d 17 0 2 ≤ 2, 17, 0x02),
          (dfld d 17 2 2 ≤ 2, 17, 0x02), (dfld d 20 0 32 % 32 == 0, 20, 0x03),
          (line ≤ (if op = 0 then dfld d 36 0 32 else dfld d 32 0 32), if op = 0 then 36 else 32, 0x03),
          (dfld d 17 2 2 != 1 || (imm.isFin && Q.lt ⟨0, 1⟩ imm.num && Q.le imm.num ⟨1, 1⟩), 44, 0x03) ]
    | 0x22 => [(dfld d 16 0 4 ≤ 1, 16, 0x02), (dfld d 20 0 32 ≤ 2 ^ 20, 20, 0x03)]
    | 0x31 => [(dfld d 28 0 32 ≤ 0x6000000, 28, 0x03)]
    | 0x41 => [(let m := dfld d 16 0 4; m == 2 || m == 3 || m == 5, 16, 0x02)]
    | _ => []
  hdr ++ body

/-- The alignments of R114 and R156: value, modulus, DETAIL_BYTE. HALO has none: R114 names array, vector, mover and SYNC operands. The
fabric address of an atomic is aligned to its element (R368). SRC and SRC_PITCH of a FILL, which it does not use, are held to the mover's
alignment as well: the model's choice (DESIGN CHOICE, log entry 205). -/
def alignments (d : Nat) : List (Nat × Nat × Nat) :=
  let op := dOp d
  let w (b : Nat) : Nat := dfld d b 0 32
  let es := esz (dfld d 16 0 4)
  let eo := esz (dfld d 16 4 4)
  match dClass d with
  | 0x01 => if op ≤ 1 then [(w 20, 8, 20)] else []
  | 0x10 | 0x40 => [(w 24, 64, 24), (w 28, 64, 28), (w 32, 64, 32), (w 36, 64, 36), (w 40, 64, 40), (w 44, 64, 44), (w 48, 64, 48), (w 52, 64, 52)]
  | 0x11 => [(w 24, 64, 24), (w 28, 64, 28), (w 32, 64, 32), (w 36, 64, 36)]
  | 0x20 => [(w 24, es, 24), (w 28, if op = 9 then 4 else es, 28), (w 32, if op = 0x20 then 4 else es, 32),
             (w 36, if op = 0x12 then 4 else eo, 36), (w 56, 4, 56)]
  | 0x21 =>
      let pl := esz (dfld d 16 4 4)
      if op = 0 then [(w 24, pl, 24), (w 32, pl, 32), (w 28, 16, 28), (w 36, 16, 36)]
      else [(w 24, 16, 24), (w 32, 16, 32), (w 28, pl, 28), (w 36, pl, 36)]
  | 0x22 => [(w 24, es, 24), (w 32, 4, 32), (w 36, 4, 36)]
  | 0x30 => [(dfld d 16 0 45, 64, 16), (dfld d 24 0 45, 64, 24), (w 32, 64, 32), (w 40, 64, 40), (w 44, 64, 44)]
  | 0x31 => if op = 0 then [(dfld d 16 0 52, 64, 16), (w 24, 64, 24), (w 28, 64, 28)] else [(w 32, 64, 32)]
  | 0x32 => (if dfld d 38 0 1 = 1 then [(w 32, 64, 32)]
             else [(dfld d 16 0 27, if op = 4 || op = 0 then 64 else if op = 2 then 8 else 4, 16), (w 24, 64, 24), (w 28, 64, 28)])
                 ++ (if op = 4 && w 40 != 0xFFFFFFFF then [(w 40, 8, 40)] else [])
  | 0x41 => [(w 24, 64, 24), (w 28, 64, 28), (w 32, 64, 32), (w 36, 64, 36), (w 40, 64, 40), (w 44, 64, 44)]
  | _ => []

/-- A count of the command is zero (R119). FLUSH and CLEAR use no count, and are not skipped for one: the model's choice (log entry 173). -/
def zeroCount (d : Nat) : Bool :=
  let op := dOp d
  let z (b n : Nat) : Bool := dfld d b 0 n == 0
  match dClass d with
  | 0x02 => op == 0 && (z 18 16 || z 20 32)
  | 0x10 => if op = 1 then z 18 16 || z 56 16 else z 18 16 || z 20 16 || z 22 16
  | 0x40 | 0x41 => z 18 16 || z 20 16 || z 22 16
  | 0x11 => z 18 16
  | 0x20 | 0x21 | 0x22 => z 18 16 || z 20 32
  | 0x30 => z 32 32 || z 36 16
  | 0x31 => if op = 0 then z 28 32 else z 36 16
  | 0x32 => if dfld d 38 0 1 = 1 then z 36 16 else z 28 32
  | _ => false

/-- The operands that the descriptor makes known (R117 check 6). -/
def State.operands (s : State) (p d : Nat) : List Opd :=
  let op := dOp d
  let w (b : Nat) : Nat := dfld d b 0 32
  let rows := dfld d 18 0 16
  let el := w 20
  let es := esz (dfld d 16 0 4)
  let eo := esz (dfld d 16 4 4)
  match dClass d with
  | 0x01 => if op = 0 || (op = 1 && dfld d 18 0 9 = 0x1FF) then [⟨w 20, 8, 5, 20⟩] else []
  | 0x02 =>
      if op = 0 then
        let b := match fmtOf (dfld d 16 0 4) with | some .bf16 => 4 * el | some f => rowBytes f el | none => 2 * el
        [⟨w 24, span rows (w 28) b, 0, 24⟩]
      else if op = 1 then [⟨w 32, 40, 3, 32⟩] else []
  | 0x10 | 0x40 =>
      match s.modeOf p d with
      | none => []
      | some f =>
        if op = 1 && dClass d = 0x10 then
          (if dfld d 17 0 1 = 1 then [⟨w 48, rows * 2, 0, 48⟩] else []) ++ [⟨w 52, dfld d 56 0 16 * 16, 6, 52⟩]
        else
          let kb := dfld d 20 0 16
          let nb := dfld d 22 0 16
          let l := s.maxLoads p kb nb
          let eb := if dfld d 16 5 1 = 1 then 2 else 4
          let a := rowBytes f (kb * (if dClass d = 0x40 then 128 else kBlk f))
          (if dfld d 17 0 1 = 1 then [⟨w 48, rows * 2, 0, 48⟩] else [⟨w 24, span rows (w 28) a, 0, 24⟩])
          ++ [⟨w 32, l * loadBytes f, 2, 32⟩, ⟨w 36, l * loadPanels f * 4, 2, 36⟩,
              ⟨w 40, span rows (w 44) (nb * (if dClass d = 0x40 then kBlk f else 128) * eb), 3, 40⟩]
  | 0x11 => [⟨w 28, rows * 16, 0, 28⟩]
  | 0x20 =>
      let pit := w 40
      let row (b : Nat) : Nat := span rows (pit * b) (el * b)
      let src : List Opd := match op with
        | 0x00 | 0x01 | 0x07 => [⟨w 24, row es, 0, 24⟩, ⟨w 28, row es, 0, 28⟩]
        | 0x02 => [⟨w 24, row es, 0, 24⟩, ⟨w 28, row es, 0, 28⟩, ⟨w 32, row es, 0, 32⟩]
        | 0x04 => [⟨w 24, row es, 0, 24⟩, ⟨w 28, el * es, 0, 28⟩]
        | 0x05 => [⟨w 24, row es, 0, 24⟩, ⟨w 28, el * es, 0, 28⟩, ⟨w 32, el * es, 0, 32⟩]
        | 0x09 => [⟨w 24, row es, 0, 24⟩, ⟨w 28, rows * 4, 0, 28⟩]
        | 0x20 => [⟨w 24, row es, 0, 24⟩, ⟨w 28, row es, 0, 28⟩, ⟨w 32, row 8, 3, 32⟩, ⟨w 56, 32, 0, 56⟩]
        | _ => [⟨w 24, row es, 0, 24⟩]
      let k := dfld d 52 0 8
      let dst := match op with
        | 0x10 | 0x11 => rows * eo
        | 0x12 => nth 0 (topkOffs el k (topkCap d)) 7
        | _ => span rows (pit * eo) (el * eo)
      let lists : List Opd := if op = 0x12 then (if w 28 = 0 then [] else [⟨w 28, 64 * el, 0, 28⟩]) ++ (if w 32 = 0 then [] else [⟨w 32, 16 * el, 0, 32⟩]) else []
      src ++ lists ++ [⟨w 36, dst, if op = 0x12 then 5 else 3, 36⟩]
  | 0x21 =>
      let f := (fmtOf (dfld d 16 0 4)).getD .fp4
      let pl := el * esz (dfld d 16 4 4)
      let ln := rowBytes f el
      (if op = 0 then [⟨w 24, span rows (w 32) pl, 0, 24⟩, ⟨w 28, span rows (w 36) ln, 3, 28⟩]
       else [⟨w 24, span rows (w 32) ln, 0, 24⟩, ⟨w 28, span rows (w 36) pl, 3, 28⟩])
      ++ (if op = 0 && dfld d 17 2 2 = 2 then [⟨w 48, rows * (el / 32), 0, 48⟩] else [])
  | 0x22 => [⟨w 32, rows * 32, 0, 32⟩, ⟨w 36, rows * 16, 3, 36⟩]
  | 0x30 =>
      let r := dfld d 36 0 16
      let len := w 32
      let src : List Opd := if op = 1 || op = 5 then []
        else [⟨w 16, span r (w 40) len, if op = 0 || (op = 4 && typeOf p = .tile) then 1 else 0, 16⟩]
      let dst : List Opd := if op = 2 || op = 3 then [] else [⟨w 24, span r (w 44) len, 4, 24⟩]
      src ++ dst
  | 0x31 => if op = 0 then [⟨w 24, w 28, 4, 24⟩] else [⟨w 32, dfld d 36 0 16 * 16, 1, 32⟩]
  | 0x32 => if dfld d 38 0 1 = 1 then [⟨w 32, dfld d 36 0 16 * 16, 0, 32⟩] else [⟨w 24, w 28, 0, 24⟩]
  | 0x41 =>
      match fmtOf (dfld d 16 0 4) with
      | none => []
      | some f =>
        [⟨w 24, span rows (w 28) (rowBytes f (dfld d 20 0 16 * 128)), 5, 24⟩,
         ⟨w 32, span rows (w 36) (rowBytes f (dfld d 22 0 16 * 128)), 0, 32⟩,
         ⟨w 40, span (dfld d 20 0 16 * 128) (w 44) (dfld d 22 0 16 * 512), 3, 40⟩]
  | _ => []

/-- A range lies wholly in one of the regions of a layout (R114). -/
def inRegion (rs : List (Nat × Nat)) (ks : List Nat) (off len : Nat) : Bool :=
  len == 0 || ks.any fun k =>
    let (b, z) := nth (0, 0) rs k
    decide (b * 65536 ≤ off) && decide (off + len ≤ (b + z) * 65536)

/-- Check 6 for one operand: the DETAIL_REASON of its failure. -/
def opdFail (rs : List (Nat × Nat)) (o : Opd) : Option Nat :=
  let ks := if o.kind = 6 then [2, 3] else kindRegions o.kind
  if o.len = 0 then none
  else if sliceBytes ≤ o.off || sliceBytes < o.off + o.len then some 0x05
  else if inRegion rs ks o.off o.len then none else some 0x06

/-- Two ranges overlap. -/
def overlap (a n b m : Nat) : Bool := n != 0 && m != 0 && decide (a < b + m) && decide (b < a + n)

/-- An output that overlaps an input where the class forbids it (R122, R127, R129): the byte of the output field. -/
def State.badOverlap (s : State) (p d : Nat) : Option Nat :=
  let os := s.operands p d
  match dClass d with
  | 0x10 | 0x40 =>
      let ins := os.filter fun o => o.kind != 3
      (os.find? fun o => o.kind == 3 && ins.any fun i => overlap o.off o.len i.off i.len).map (·.byte)
  | 0x21 => (os.find? fun o => o.byte == 28 && os.any fun i => i.byte == 24 && overlap o.off o.len i.off i.len).map (·.byte)
  | 0x20 =>
      let dst := dfld d 36 0 32
      (os.find? fun o => o.byte == 36 &&
        ((os.filter fun i => i.byte != 36 && !(i.byte == 24 && i.off == dst)).any fun i => overlap o.off o.len i.off i.len)).map (·.byte)
  | _ => none

/-- R115: what is wrong with the command's tag. -/
def tagFail (q d : Nat) : Option (Status × Nat) :=
  let cls := dClass d
  let op := dOp d
  let own := cls == 0x01 && op == 1 && dfld d 18 0 9 == 0x1FF
  if dTagged d && 2 ≤ q then some (.perm, 0x0B)
  else if !dTagged d && (cls == 0x32 || (cls == 0x30 && (op == 2 || op == 3)) || (cls == 0x01 && ((op == 1 && !own) || op == 2)))
  then some (.badArg, 0x07) else none

/-- A failed check as a result. -/
def failRes (st : Status) (byte reason : Nat) : Res := { st := st, byte := byte, reason := reason }

/-- R118: the first state condition that holds, as a result with the unit and its state. A tagged RECIPE on a tile that serves no group
names the TGROUP (R122). A watched command there has no group HALO to judge: its record names HALO, OFFLINE, the model's choice (log entry
180). -/
def State.stateFail (s : State) (p d : Nat) : Option Res :=
  let g := s.groupOf p
  let cls := dClass d
  let op := dOp d
  let bad (of_ : Nat) (st : UState) : Option Res :=
    some { st := .illegalState, stateOf := of_, state := st.code }
  let isX := cls == 0x31 || cls == 0x32
  if g.isNone && dTagged d && (cls == 0x10 || cls == 0x40) && dfld d 16 0 4 == 0xF then bad 1 .offline
  else if dTagged d && !s.on p F.TILE.STEP_OPEN then
    bad 4 (match g with | some g => s.ust (pg .stepseq g) | none => .offline)
  else match g with
    | none =>
        if dTagged d || (cls == 0x30 && op == 3) || (cls == 0x01 && op == 2) || isX then bad 1 .offline
        else if dWatch d || cls == 0x02 then bad 3 .offline else none
    | some g =>
        let tg := pg .tgroup g
        let part := pg .partition (s.rd tg F.TGROUP.PARTITION)
        let up (x : UState) : Bool := x == .idle || x == .running
        if isX && !s.on tg F.TGROUP.PART_VALID then bad 2 .offline
        else if isX && !up (s.ust part) then bad 2 (s.ust part)
        else if (dWatch d || cls == 0x02) && !up (s.ust (pg .halo g)) then bad 3 (s.ust (pg .halo g))
        else none

/-- The checks of R117, in their order; none where all pass. `layers` is the LAYERS of the group's checked program. A tag that differs in
GENERATION only fails at byte 8 (DEDUCED from R113 and R120, log entry 172). -/
def State.startFail (s : State) (p q layers d : Nat) : Option Res :=
  let cls := dClass d
  let op := dOp d
  let rs := (s.tl (s.lead p)).regions
  if !(opsOf cls).contains op then some (failRes .badArg (if (opsOf cls).isEmpty then 0 else 1) 0x02)
  else if isTrain cls op && s.cfg.variant != .dr9400 then some (failRes .absent 0 0x00)
  else match rsvByte d with
  | some b => some (failRes .badArg b 0x01)
  | none =>
  match (s.fieldChecks p layers d).find? fun c => !c.1 with
  | some c => some (failRes .badArg c.2.1 c.2.2)
  | none =>
  match (alignments d).find? fun a => a.1 % a.2.1 != 0 with
  | some a => some (failRes .badArg a.2.2 0x04)
  | none =>
  match if zeroCount d then none else s.badOverlap p d with
  | some b => some (failRes .badArg b 0x08)
  | none =>
  match tagFail q d with
  | some (st, r) => some (failRes st 2 r)
  | none =>
  let peerBad := (cls == 0x30 && op == 3 && 288 ≤ dfld d 38 0 9) ||
    (cls == 0x01 && op == 1 && 288 ≤ dfld d 18 0 9 && dfld d 18 0 9 != 0x1FF)
  let loadBad := cls == 0x30 && op == 1 && (List.range (dfld d 36 0 16)).any fun i => inScratch (dfld d 16 0 45 + i * dfld d 40 0 32)
  if !zeroCount d && loadBad then some (failRes .range 16 0x06)
  else if !zeroCount d && peerBad then some (failRes .range (if cls == 0x30 then 38 else 18) 0x05)
  else match if zeroCount d then none else (s.operands p d).findSome? fun o => (opdFail rs o).map fun r => (o.byte, r) with
  | some (b, r) => some (failRes .range b r)
  | none =>
  if !zeroCount d && cls == 0x32 && op != 4 && dfld d 38 0 1 == 0 && inScratch (dfld d 16 0 45) then some (failRes .perm 16 0x06) else
  match s.stateFail p d with
  | some r => some r
  | none =>
  if dTagged d && dTag d != (s.rd p F.TILE.STEP_NUMBER, s.rd p F.TILE.GENERATION) then
    some (failRes .staleTag (if (dTag d).1 = s.rd p F.TILE.STEP_NUMBER then 8 else 4) 0x00)
  else none

end Sys2Proof.Machine
end

