-- ==== Sys2Proof/Machine/Tile.lean ====
section
/-! DEFINITION. The tile's sequencer: rings and doorbells (R89 to R91, R108, R109), regions (R84, R107), starting a command
(R92, R113, R117, R124), completion records (R90, R93, R96, R120), kills (R94, R95, R142) and the granules (R124). -/

namespace Sys2Proof.Machine

/-- The field of queue `q`. -/
def qf (f : Fld) (q : Nat) : Fld := f.el q 0x40
/-- The number of entries of a queue's ring. -/
def State.ringSize (s : State) (p q : Nat) : Nat := 2 ^ s.rd p (qf F.TILE.LOG2_SIZE q)
/-- Ring base offset in scratch. -/
def State.ringBase (s : State) (p q : Nat) : Nat := s.rd p (qf F.TILE.Q_BASE q) * 64
/-- Completion ring base offset in scratch. -/
def State.cplBase (s : State) (p q : Nat) : Nat := s.rd p (qf F.TILE.CPL_BASE q) * 32
/-- Local offset of the descriptor of entry `i` (R90, R96). -/
def State.descAddr (s : State) (p q i : Nat) : Nat := scr (s.lead p) (s.ringBase p q + i % s.ringSize p q * 64)
/-- The 64 descriptor bytes of entry `i`. -/
def State.desc (s : State) (p q i : Nat) : Nat := s.ld (s.descAddr p q i) 64
/-- Difference of two ring indices (R90). -/
def idx16 (a b : Nat) : Nat := (a + 65536 - b % 65536) % 65536
/-- The queue is in service. -/
def State.qOn (s : State) (p q : Nat) : Bool := s.on p (qf F.TILE.Q_ENABLE q)
/-- Entries from HEAD to TAIL. -/
def State.waitingIdx (s : State) (p q : Nat) : List Nat :=
  if s.qOn p q then
    (List.range (idx16 (s.rd p (qf F.TILE.TAIL q)) (s.rd p (qf F.TILE.HEAD q)))).map fun k => (s.rd p (qf F.TILE.HEAD q) + k) % 65536
  else []
/-- Unstarted commands of a queue: those not already given a KILLED record in place (R94). -/
def State.unstarted (s : State) (p q : Nat) : List Nat :=
  (s.waitingIdx p q).filter fun i => !((s.sq p).inPlace.contains (q, i))

/-- The tile or gang has nothing queued and nothing running. -/
def State.noWork (s : State) (p : Nat) : Bool :=
  (s.sq p).run.isEmpty && (List.range 4).all fun q => (s.waitingIdx p q).isEmpty

/-- HEAD passes the entries that a kill has already recorded (R94). -/
def State.passKilled (s : State) (p q : Nat) : Nat → State
  | 0 => s
  | n + 1 =>
    let h := s.rd p (qf F.TILE.HEAD q)
    if s.qOn p q && (s.sq p).inPlace.contains (q, h) && h != s.rd p (qf F.TILE.TAIL q) then
      let s := s.setSq p { s.sq p with inPlace := (s.sq p).inPlace.filter (· != (q, h)) }
      (s.wr p (qf F.TILE.HEAD q) (h + 1)).passKilled p q n
    else s

/-- CPL_TAIL advances over an unbroken run of written records (R90). -/
def State.advanceCpl (s : State) (p q : Nat) : Nat → State
  | 0 => s
  | n + 1 =>
    let c := s.rd p (qf F.TILE.CPL_TAIL q)
    if (s.sq p).ahead.contains (q, c) then
      let s := s.setSq p { s.sq p with ahead := (s.sq p).ahead.filter (· != (q, c)) }
      (s.wr p (qf F.TILE.CPL_TAIL q) (c + 1)).advanceCpl p q n
    else s

/-- A little-endian number built from (value, bytes) pairs. -/
def packLE : List (Nat × Nat) → Nat
  | [] => 0
  | (v, n) :: t => v % 256 ^ n + 256 ^ n * packLE t

/-- The completion record of R120 as one number. WATCH_EVT is 0: HALO raises its events at the evaluation after the commit (R177), and a
step's records are written before it (log entry 48). -/
def recordOf (s : State) (p q i d elapsed : Nat) (r : Res) : Nat :=
  packLE [(r.st.code, 1), (r.state % 16 + r.stateOf * 16, 1), (dClass d, 1),
    (q + (if typeOf p = .gang then 4 else 0) + (if r.skipped then 16 else 0), 1),
    (dCmdId d, 2), (i, 2), (dfld d 4 0 32, 4), (dfld d 8 0 16, 2), (r.byte, 1), (r.reason, 1),
    (elapsed, 4), (min r.r0 0xFFFFFFFF, 4), (min r.r1 0xFFFFFFFF, 4), (s.now, 4)]

/-- The values of RESULT0 and RESULT1 (R121): those of the class where they are valid, and free values in a record without STATUS OK
(log entry 36), but for FETCH and for the wait time of a SYNC with TIMEOUT. -/
def State.recordResults (s : State) (d : Nat) (r : Res) : Res × State :=
  let fetch := dClass d = 0x31
  let (a, s) := if r.st = .ok || fetch then (r.r0, s) else s.free
  let (b, s) := if r.st = .ok || fetch || (dClass d = 0x01 && r.st = .timeout) then (r.r1, s) else s.free
  ({ r with r0 := a, r1 := b }, s)

/-- Write the completion record of an entry, count it, and advance CPL_TAIL (R90, R92, R105). -/
def State.writeRecord (s : State) (p q i d elapsed : Nat) (r : Res) : State :=
  let (r, s) := s.recordResults d r
  let s' := s.put (scr (s.lead p) (s.cplBase p q + i % s.ringSize p q * 32)) (leBytes 32 (recordOf s p q i d elapsed r))
  let s := s'.setSq p { s'.sq p with ahead := (s'.sq p).ahead ++ [(q, i)] }
  let s := (s.bump p (qf F.TILE.DONE_COUNT q)).wr p (qf F.TILE.LAST_STATUS q) r.st.code
  let s := s.advanceCpl p q 4097
  if r.st = .ok || r.st = .killed then s else s.setEvt p F.EVT.TILE.CMD_ERR

/-- HALT_ON_ERROR (R93): the tile starts no further command, and will enter HALTED when the running ones complete. Where commands of two
queues fail before that, the queue of the first is named: the model's choice (log entry 166). -/
def State.haltOnError (s : State) (p q : Nat) (r : Res) : State :=
  if r.st != .ok && r.st != .killed && s.on p (qf F.TILE.HALT_ON_ERROR q) && s.stored p != .halted && (s.sq p).stop.isNone then
    s.setSq p { s.sq p with stop := some q }
  else s
/-- The tile enters HALTED under R93: HALT_BY_ERROR, HALT_QUEUE and HALT_ERR are set with it. -/
def State.haltError (s : State) (p q : Nat) : State :=
  let s := s.setSq p { s.sq p with stop := none, drain := [] }
  let s := (((s.wr p F.COM.HALT 0).wr p F.COM.DRAIN 0).wr p F.TILE.HALT_BY_ERROR 1).wr p F.TILE.HALT_QUEUE q
  (s.enter p .halted).setEvt p F.EVT.TILE.HALT_ERR

/-- Every accepted command of a DRAIN has started (R95). -/
def State.drained (s : State) (p : Nat) : Bool :=
  match (s.sq p).drain with
  | [] => false
  | ts => (List.range 4).all fun q => !(s.qOn p q) || s.rd p (qf F.TILE.HEAD q) == nth 0 ts q

/-- The state changes that follow from the sequencer's contents (R58, R93, R95): RUNNING with work, IDLE without, HALTED
once a HALT, a DRAIN or an error has taken effect. A HALT that still waits when a DRAIN is written ends with the drain, whose commands
are all executed (DEDUCED, log entry 167). -/
def State.settle (s : State) (p : Nat) : State :=
  let s := if s.stored p = .idle && (!(s.noWork p) || (s.sq p).stop.isSome) then s.enter p .running else s
  let st := s.stored p
  if !(st == .running || st == .draining) || !(s.sq p).run.isEmpty then s
  else match (s.sq p).stop with
    | some q => s.haltError p q
    | none =>
      if st = .running then
        if s.on p F.COM.HALT then (s.wr p F.COM.HALT 0).enter p .halted
        else if s.noWork p then s.enter p .idle else s
      else if s.drained p then
        (((s.setSq p { s.sq p with drain := [] }).wr p F.COM.HALT 0).wr p F.COM.DRAIN 0).enter p .halted
      else s

/-- The engines that a running command holds (R92, R116): ATTN holds the array and the vector unit. -/
def Run.engines (r : Run) : List Nat := if dClass r.d = 0x11 then [0, 1] else [r.eng]

/-- WAIT_ENG and WAIT_XQ of the command at the head of its queue (R113, R104). -/
def State.depOk (s : State) (p q d : Nat) : Bool :=
  let w := if s.on p F.TILE.STRICT_ORDER then 0xF else dfld d 3 0 4
  let run := (s.sq p).run
  (run.all fun r => r.q != q || r.engines.all fun e => w / 2 ^ e % 2 == 0) && (dfld d 3 4 1 == 0 || run.isEmpty)

/-- A matrix command joins the chain of the one on the array (R80): the next entry of its queue, in the same mode, whose
work is done while its results drain. -/
def State.joins (s : State) (p q i d : Nat) (a : Run) : Bool :=
  let mm (x : Nat) : Bool := dClass x == 0x10 || dClass x == 0x40
  mm a.d && mm d && a.q == q && idx16 i a.idx == 1 && a.res.isSome && s.modeOf p a.d == s.modeOf p d
  && dfld d 3 0 1 == 0 && dfld d 3 4 1 == 0 && !s.on p F.TILE.STRICT_ORDER

/-- The engines of a command are free (R92). -/
def State.engFree (s : State) (p q i d : Nat) : Bool :=
  let need := if dClass d = 0x11 then [0, 1] else [engineOf (dClass d)]
  (s.sq p).run.all fun r => (r.engines.all fun e => !need.contains e) || s.joins p q i d r

/-- The weight and scale ranges that an array command reads, per leaf (R98, R122, R123). -/
def State.weightRanges (s : State) (p d : Nat) : List (Nat × Nat × Nat) :=
  let dense (kb nb w ps : Nat) : List (Nat × Nat × Nat) :=
    match s.modeOf p d with
    | none => []
    | some f => (s.wShares 16 p 0 kb 0 nb).flatMap fun (pos, _, kc, _, nc) =>
        [(pos, w, kc * nc * loadBytes f), (pos, ps, kc * nc * loadPanels f * 4)]
  if dClass d = 0x10 && dOp d = 1 then
    -- each leaf reads its own group list (R116)
    (s.leaves p).flatMap fun pos => (List.range (dfld d 56 0 16)).flatMap fun g =>
      let a := scr pos (dfld d 52 0 27) + 16 * g
      if s.ld (a + 2) 2 = 0 then []
      else (dense (s.ld (a + 14) 2) (s.ld (a + 12) 2) (s.ld (a + 4) 4) (s.ld (a + 8) 4)).filter fun x => x.1 == pos
  else if dClass d = 0x10 || dClass d = 0x40 then dense (dfld d 20 0 16) (dfld d 22 0 16) (dfld d 32 0 32) (dfld d 36 0 32)
  else []

/-- A granule that nothing has filled. -/
def Gran.none' : Gran := ⟨false, none, 0, false⟩
/-- A granule of a slice. -/
def TileSt.granule (t : TileSt) (k : Nat) : Gran := tblGet (fun _ => Gran.none') t.gran k
/-- Replace a granule. -/
def TileSt.setGran (t : TileSt) (k : Nat) (g : Gran) : TileSt := { t with gran := tblSet (fun _ => Gran.none') t.gran k g }
/-- The granules that a range touches. -/
def granIdx (off len : Nat) : List Nat :=
  if len = 0 then [] else (List.range ((off + len - 1) / 65536 - off / 65536 + 1)).map (off / 65536 + ·)

/-- A running command of a tile reads the granule (R124): a write to it waits until that command completes. -/
def State.granInUse (s : State) (pos k : Nat) : Bool :=
  let p := s.outer (pg .tile pos)
  (s.sq p).run.any fun r => (s.weightRanges p r.d).any fun (q, off, len) => q == pos && (granIdx off len).contains k

/-- Change the granules that a range touches. -/
def State.mapGran (s : State) (pos off len : Nat) (f : Gran → Gran) : State :=
  forEach (granIdx off len) (fun k s => let t := s.tl pos; s.setTl pos (t.setGran k (f (t.granule k)))) s
/-- A transfer begins in the granules of a range: VALID is cleared (R124). -/
def State.granBegin (s : State) (pos off len : Nat) : State :=
  s.mapGran pos off len fun g => { g with valid := false, busy := g.busy + 1, lost := g.busy != 0 && g.lost }
/-- A transfer that began has landed and passed its check: the granule becomes VALID, labelled, when none is left and none was lost. A write
of DPORT and an untagged one set VALID too: the model's choice (log entry 174). -/
def State.granEnd (s : State) (pos off len : Nat) (label : Option Nat) : State :=
  s.mapGran pos off len fun g => if g.busy ≤ 1 then ⟨!g.lost, label, 0, false⟩ else { g with busy := g.busy - 1, label := label }
/-- A transfer that began in the granules of a range is abandoned: they stay not VALID (R124, R228). -/
def State.granAbort (s : State) (pos off len : Nat) : State :=
  s.mapGran pos off len fun g => { g with valid := false, busy := g.busy - 1, lost := true }
/-- Granules of a range are left not VALID. -/
def State.granClear (s : State) (pos off len : Nat) : State := s.mapGran pos off len fun g => { g with valid := false }

/-- The part of a range of a slice that lies in WINDOW: offset and length. -/
def State.windowPart (s : State) (pos off len : Nat) : Nat × Nat :=
  let (b, z) := nth (0, 0) (s.tl pos).regions 1
  let lo := max off (b * 65536)
  (lo, min (off + len) ((b + z) * 65536) - lo)
/-- A granule of WINDOW that a range touches is read by a running command: a write to it waits (R124). -/
def State.writeWaits (s : State) (pos off len : Nat) : Bool :=
  let (o, n) := s.windowPart pos off len
  (granIdx o n).any (s.granInUse pos)
/-- Every granule of WINDOW that the command's weights and scales touch (R124): what a group entry names outside WINDOW ends the
command when it is read (R123). -/
def State.touched (s : State) (p d : Nat) : List Gran :=
  (s.weightRanges p d).flatMap fun (pos, off, len) =>
    let (o, n) := s.windowPart pos off len
    (granIdx o n).map (s.tl pos).granule

/-- A write that lands at once labels the WINDOW granules it touches (R124); elsewhere it leaves them. -/
def State.granWrite (s : State) (pos off len : Nat) (label : Option Nat) : State :=
  let (o, n) := s.windowPart pos off len
  (s.granBegin pos o n).granEnd pos o n label

/-- The head entry of a queue with its descriptor. -/
def State.headOf (s : State) (p q : Nat) : Option (Nat × Nat) :=
  match s.unstarted p q with
  | i :: _ => if i == s.rd p (qf F.TILE.HEAD q) then some (i, s.desc p q i) else none
  | [] => none

/-- STEPSEQ's gate (R251, R252): commands of Q2 and Q3 of a group's tiles start only while no step is open, or in FINE mode. -/
def State.gateOk (s : State) (p q : Nat) : Bool :=
  q < 2 || match s.groupOf p with
    | none => true
    | some g => match (tblFind g s.steps).bind (·.opened) with
      | none => true
      | some o => bits o.cfg 17 16 == 2

/-- The result of a granule label check on a command whose granules are all VALID (R124). -/
def State.labelFail (s : State) (p d : Nat) : Option Res :=
  if dTagged d && (s.touched p d).any fun g => g.label != some (dTag d).2 then some (failRes .staleTag 0xFF 0x00) else none

/-- The next command of a queue can be taken (R92): its dependency condition holds, and it ends without an engine (a check
fails, or a count is zero: R117, R119, R124), or its granules are VALID and its engine is free. `layers` as in `startFail`. -/
def State.canGo (s : State) (p layers q : Nat) : Bool :=
  match s.headOf p q with
  | none => false
  | some (i, d) =>
    s.gateOk p q && (s.stored p != .draining || idx16 (nth 0 (s.sq p).drain q) (s.rd p (qf F.TILE.HEAD q)) != 0) &&
    (s.anyPoison (s.descAddr p q i) 64 || (s.depOk p q d &&
      ((s.startFail p q layers d).isSome || zeroCount d ||
      ((s.touched p d).all (·.valid) && ((s.labelFail p d).isSome || s.engFree p q i d)))))

/-- The queue that the sequencer serves: the lowest PRIORITY value, then round robin among the queues of that value (R92). -/
def State.pickQueue (s : State) (p layers : Nat) : Option Nat :=
  let key (q : Nat) : Nat :=
    let pr := s.rd p (qf F.TILE.PRIORITY q)
    pr * 4 + (q + 3 - nth 3 (s.sq p).rr pr) % 4
  ((List.range 4).filter (s.canGo p layers)).foldl
    (fun b q => match b with | none => some q | some r => if key q < key r then some q else some r) none

/-- What the sequencer does with the entry it takes: the running command, or the result that ends it at once. -/
inductive Taken where
  | runs (r : Run)
  | ends (r : Res)
  | poisoned
  deriving DecidableEq, Repr

/-- Take the head of a queue (R90, R92, R117, R119, R124): HEAD advances past it. -/
def State.take (s : State) (p layers q : Nat) : Option (Nat × Nat × Taken × State) :=
  match s.headOf p q with
  | none => none
  | some (i, d) =>
    let t : Taken :=
      if s.anyPoison (s.descAddr p q i) 64 then .poisoned
      else match s.startFail p q layers d with
        | some r => .ends r
        | none =>
          if zeroCount d then .ends { st := .ok, skipped := true }
          else match s.labelFail p d with
            | some r => .ends r
            | none => .runs { eng := engineOf (dClass d), q := q, idx := i, d := d, t0 := s.now, res := none, waiting := 0, acked := 0, failed := none }
    let s := s.wr p (qf F.TILE.HEAD q) (i + 1)
    let s := s.setSq p { s.sq p with rr := setNth q (s.sq p).rr (s.rd p (qf F.TILE.PRIORITY q)) }
    let s := match t with | .runs r => s.setSq p { s.sq p with run := (s.sq p).run ++ [r] } | _ => s
    some (i, d, t, s.passKilled p q 4097)

/-- The sequencer may start commands: the unit is in service and no HALT or error stop is in force (R58, R93, R95). -/
def State.mayStart (s : State) (p : Nat) : Bool :=
  ((s.stored p == .running && !s.on p F.COM.HALT) || s.stored p == .draining) && !s.on p F.COM.BOUND && !s.on p F.COM.ISOLATED && (s.sq p).stop.isNone

/-- The cost of a VEC operation per 128 elements (R128). -/
def vecCost (op k : Nat) : Nat :=
  if op = 0x04 then 2 else if op = 0x05 then 3 else if op = 0x06 || op = 0x09 || op = 0x20 then 6
  else if op = 0x07 || op = 0x08 then 5 else if 0x0A ≤ op && op ≤ 0x0E then 4 else if op = 0x12 then 2 + k else 1

/-- The array steps of `l` loads on `m` rows, without the fill and drain (R80). -/
def arraySteps (f : Fmt) (l m : Nat) : Nat := if f = .bf16 then l * 4 * max m 4 else l * max m 9
/-- Array or vector steps that a command takes at least (R80, R123, R125, R128, R129, R141), for the leaf with the largest share. A GROUPED
MMA and an ATTN have counted those of their groups and sequences as they read them. -/
def State.minSteps (s : State) (p : Nat) (r : Run) : Nat :=
  let d := r.d
  let rows := dfld d 18 0 16
  let el := dfld d 20 0 32
  let share := ((s.rowShares 16 p 0 rows).map (·.2.2)).foldl max 0
  match dClass d with
  | 0x10 | 0x40 =>
      match s.modeOf p d with
      | none => 0
      | some f =>
        if dOp d = 1 && dClass d = 0x10 then r.steps + 260
        else arraySteps f (s.maxLoads p (dfld d 20 0 16) (dfld d 22 0 16)) rows + 260
  | 0x11 => if r.steps = 0 then 0 else r.steps + 260
  | 0x20 =>
      share * ((el + 127) / 128) * vecCost (dOp d) (dfld d 52 0 8) + 24
  | 0x21 => share * ((el + 127) / 128) * (if dOp d = 0 then 3 else 1) + 24
  | 0x41 =>
      ((s.wShares 16 p 0 rows 0 (dfld d 22 0 16)).map fun x =>
        arraySteps ((fmtOf (dfld d 16 0 4)).getD .fp4) ((x.2.2.1 + 127) / 128 * dfld d 20 0 16) (x.2.2.2.2 * 128) + 260).foldl max 0
  | _ => 0

/-- The running command of a page with this class and operation whose work is still to be done. -/
def State.running (s : State) (p cls op : Nat) : Option Run :=
  (s.sq p).run.find? fun r => dClass r.d == cls && dOp r.d == op && r.res.isNone

/-- Replace a running command (named by queue and index). -/
def State.setRun (s : State) (p : Nat) (r : Run) : State :=
  s.setSq p { s.sq p with run := (s.sq p).run.map fun x => if x.q == r.q && x.idx == r.idx then r else x }

/-- The command's work is done, with this result. -/
def State.finish (s : State) (p : Nat) (r : Run) (x : Res) : State := s.setRun p { r with res := some x }

/-- A running command leaves its engine and its record is written (R92, R120): ELAPSED is at least the time of R80 or of the
class, and otherwise a free value (log entry 8). -/
def State.retire (s : State) (p : Nat) (r : Run) (x : Res) : State :=
  let s := s.setSq p { s.sq p with run := (s.sq p).run.filter fun y => !(y.q == r.q && y.idx == r.idx) }
  let (v, s) := s.free
  let el := min ((if x.st = .ok then s.minSteps p r else 0) + v) 0xFFFFFFFF
  (s.writeRecord p r.q r.idx r.d el x).haltOnError p r.q x

/-- A command lies within the scope of a kill (R94): every command, or those that carry a step tag. -/
def inScope (scope : Option (Nat × Nat)) (d : Nat) : Bool := match scope with | none => true | some t => dTagged d && dTag d == t
/-- The running commands that a kill of this scope stops. -/
def State.stops (s : State) (p : Nat) (scope : Option (Nat × Nat)) : List Run := (s.sq p).run.filter fun r => inScope scope r.d
/-- A kill takes hold of a tile or gang (R94 steps 1 to 3): KILLING, and the running commands in scope are stopped. A kill of
a unit already KILLING has no further effect (R59), but that a tile error takes every command into the scope of a kill by tag.
`after` is the state that follows. -/
def State.killBegin (s : State) (p : Nat) (scope : Option (Nat × Nat)) (after : UState) : State :=
  let q := s.sq p
  if s.stored p = .killing && (scope.isSome || q.scope = some none) then s else
  let s := s.setSq p { q with
    run := q.run.filter fun r => !(inScope scope r.d),
    stopped := q.stopped ++ s.stops p scope,
    scope := some scope, drain := [], next := after, stop := if scope.isNone then none else q.stop }
  let s := (s.wr p F.COM.HALT 0).wr p F.COM.DRAIN 0
  let s := forEach (s.tree p) (fun x s => (s.wr x F.TILE.BUF_A_VALID 0).wr x F.TILE.BUF_B_VALID 0) s
  let s := forEach (s.leaves p) (fun k s => (s.setTl k { s.tl k with bufs := [[], []] })) s
  s.enter p .killing

/-- KILLED, or POISON where the descriptor itself could not be read (R110), with the bytes and entries that a FETCH has received
(R121). -/
def killRes (r : Run) : Res :=
  match r.res with
  | some x => if x.st = .poison && r.d = 0 then x else { st := .killed, r0 := r.got, r1 := r.okEnts }
  | none => { st := .killed, r0 := r.got, r1 := r.okEnts }

/-- The kill of a unit completes (R94 steps 4 to 6): a KILLED record for every stopped and every unstarted command in
scope, HEAD past those at the head, STEP_OPEN cleared where the scope is the open step. -/
def State.killEnd (s : State) (p : Nat) : State :=
  match (s.sq p).scope with
  | none => s
  | some scope =>
    let stopped := (s.sq p).stopped
    let queued := (List.range 4).flatMap fun q =>
      ((s.unstarted p q).map fun i => (q, i, s.desc p q i)).filter fun x => inScope scope x.2.2
    let s := forEach stopped (fun r s =>
      let (el, s) := s.free
      s.writeRecord p r.q r.idx r.d (min el 0xFFFFFFFF) (killRes r)) s
    let s := forEach queued (fun x s => s.writeRecord p x.1 x.2.1 x.2.2 0 { st := .killed }) s
    let s := s.setSq p { s.sq p with stopped := [], scope := none, inPlace := (s.sq p).inPlace ++ queued.map fun x => (x.1, x.2.1) }
    let s := forEach (List.range 4) (fun q s => s.passKilled p q 4097) s
    let s := match scope with
      | none => s
      | some t => forEach (s.tree p) (fun x s =>
          if (s.rd x F.TILE.STEP_NUMBER, s.rd x F.TILE.GENERATION) == t then s.wr x F.TILE.STEP_OPEN 0 else s) s
    let killed := (stopped.filter fun r => (killRes r).st == .killed).length + queued.length
    let s := (s.bump p F.TILE.KILL_COUNT).wr p F.TILE.LAST_KILLED killed
    let s := s.wr p F.TILE.HALT_BY_ERROR 0
    let s := s.enter p (s.sq p).next
    (s.setEvt p F.EVT.TILE.KILL_DONE).settle p

/-- R84: the four staged regions are well formed. -/
def regionsOk (rs : List (Nat × Nat)) : Bool :=
  (rs.all fun r => 1 ≤ r.2 && r.1 + r.2 ≤ 1536) &&
  (let w := (nth (0, 0) rs 1).2; 512 ≤ w && w ≤ 1280) &&
  (rs.zipIdx.all fun (a, i) => rs.zipIdx.all fun (b, j) => i == j || a.1 + a.2 ≤ b.1 || b.1 + b.2 ≤ a.1)

/-- The staged layout of a page. -/
def State.staged (s : State) (p : Nat) : List (Nat × Nat) :=
  (List.range 4).map fun j => (s.rd p (F.TILE.REGION_BASE.el j), s.rd p (F.TILE.REGION_SIZE.el j))

/-- A position takes a layout; a changed WINDOW loses its valid granules (R107). -/
def State.setRegions (s : State) (pos : Nat) (rs : List (Nat × Nat)) : State :=
  let t := s.tl pos
  s.setTl pos { t with regions := rs, gran := if nth (0, 0) rs 1 = nth (0, 0) t.regions 1 then t.gran else [] }

/-- The SCR_REGION values of a page show a layout. -/
def State.showRegions (s : State) (p : Nat) (rs : List (Nat × Nat)) : State :=
  forEach [0, 1, 2, 3] (fun j s => (s.wr p (F.TILE.REGION_BASE.el j) (nth (0, 0) rs j).1).wr p (F.TILE.REGION_SIZE.el j) (nth (0, 0) rs j).2) s
/-- APPLY (R97, R107): the status it gives, and the state. On a gang page it applies the gang's staged values to every leaf. -/
def State.applyRegions (s : State) (p : Nat) : Status × State :=
  let offs := (List.range 4).all fun q => !(s.qOn p q)
  let free := typeOf p = .gang && s.stored p = .offline
  let okState := s.ust p == .offline || ((s.ust p == .idle || s.ust p == .halted) && offs)
  if free || !okState then (.illegalState, s.wr p F.TILE.APPLY_STATUS Status.illegalState.code)
  else if !regionsOk (s.staged p) then (.badArg, s.wr p F.TILE.APPLY_STATUS Status.badArg.code)
  else
    let rs := s.staged p
    (.ok, (forEach (s.leaves p) (fun k s => (s.setRegions k rs).showRegions (pg .tile k) rs) s).wr p F.TILE.APPLY_STATUS 0)

/-- A write of Q_TAIL (R89, R90, R91); `gct` says that it is a GCT register write. -/
def State.writeTail (s : State) (p q v : Nat) (gct : Bool) : Status × State :=
  let st := s.ust p
  let fail (x : Status) : Status × State := (x, s.setEvt p F.EVT.TILE.Q_REFUSED)
  if gct && q < 2 && (s.groupOf p).isSome then fail .perm
  else if st != .idle && st != .running && st != .halted then fail .illegalState
  else if s.ringSize p q < idx16 v (s.rd p (qf F.TILE.CPL_HEAD q)) || s.ringSize p q < idx16 v (s.rd p (qf F.TILE.TAIL q)) then fail .range
  else (.ok, (s.wr p (qf F.TILE.TAIL q) v).settle p)

/-- A write of Q_CPL_HEAD (R89, R90, R95). -/
def State.writeCplHead (s : State) (p q v : Nat) (gct : Bool) : Status × State :=
  let old := s.rd p (qf F.TILE.CPL_HEAD q)
  let fail (x : Status) : Status × State := (x, s.setEvt p F.EVT.TILE.Q_REFUSED)
  if gct && q < 2 && (s.groupOf p).isSome then fail .perm
  else if s.ust p = .offline then fail .illegalState
  else if idx16 (s.rd p (qf F.TILE.CPL_TAIL q)) old < idx16 v old then fail .range
  else (.ok, s.wr p (qf F.TILE.CPL_HEAD q) v)

/-- The rings of a queue with this control word lie in QUEUES and overlap no ring of an enabled queue (R109). The queues compared are those
of the same page: the model's choice, where rings of another page lie in the same slice (log entry 168). -/
def State.ringsOk (s : State) (p q logn : Nat) : Bool :=
  let n := 2 ^ logn
  let rs := (s.tl (s.lead p)).regions
  let a := s.ringBase p q
  let b := s.cplBase p q
  inRegion rs [0] a (64 * n) && inRegion rs [0] b (32 * n) && !overlap a (64 * n) b (32 * n) &&
  (List.range 4).all fun r => r == q || !(s.qOn p r) ||
    (let m := s.ringSize p r
     !overlap a (64 * n) (s.ringBase p r) (64 * m) && !overlap a (64 * n) (s.cplBase p r) (32 * m) &&
     !overlap b (32 * n) (s.ringBase p r) (64 * m) && !overlap b (32 * n) (s.cplBase p r) (32 * m))

/-- Set the four indices of a queue to 0. -/
def State.zeroIdx (s : State) (p q : Nat) : State :=
  let s := s.setSq p { s.sq p with ahead := (s.sq p).ahead.filter (·.1 != q), inPlace := (s.sq p).inPlace.filter (·.1 != q) }
  (((s.wr p (qf F.TILE.HEAD q) 0).wr p (qf F.TILE.TAIL q) 0).wr p (qf F.TILE.CPL_HEAD q) 0).wr p (qf F.TILE.CPL_TAIL q) 0

/-- A write of the control word of a queue: LOG2_SIZE, ENABLE, HALT_ON_ERROR and PRIORITY (R109). -/
def State.writeQCfg (s : State) (p q : Nat) (v : Word) : Status × State :=
  let off := 0x208 + 0x40 * q
  let newOn := bits v 4 4 == 1
  let keep := bits v 3 0 == s.rd p (qf F.TILE.LOG2_SIZE q) && bits v 9 8 == s.rd p (qf F.TILE.PRIORITY q)
  let v' := v &&& 0x33F
  if s.qOn p q then
    if !keep then (.illegalState, s)
    else if newOn then (.ok, s.setReg 0 p off v')
    else if s.rd p (qf F.TILE.HEAD q) == s.rd p (qf F.TILE.TAIL q) && s.rd p (qf F.TILE.TAIL q) == s.rd p (qf F.TILE.CPL_TAIL q)
    then (.ok, s.setReg 0 p off v') else (.illegalState, s)
  else if !newOn then (.ok, s.setReg 0 p off v')
  else if bits v 3 0 < 4 || 12 < bits v 3 0 || !s.ringsOk p q (bits v 3 0) then (.badArg, s)
  else (.ok, (s.setReg 0 p off v').zeroIdx p q)

/-- A write of a queue's BASE or CPL_BASE: only while ENABLE is 0 (R109). -/
def State.writeQBase (s : State) (p q off : Nat) (v : Word) : Status × State :=
  if s.qOn p q then (.illegalState, s)
  else (.ok, s.setReg 0 p off (v &&& BitVec.ofNat 64 (rwMask .tile off)))

/-- Queue registers and rings of a page return to reset (R75, R95, R112). -/
def State.resetQueues (s : State) (p : Nat) : State :=
  let s := forEach ((List.range 32).map fun j => 0x200 + 8 * j) (fun off s => s.setReg 0 p off (regReset s.cfg (regKey 0 p off))) s
  s.setSq p SeqSt.init

end Sys2Proof.Machine
end

