-- ==== Sys2Proof/Machine/Work.lean ====
section
/-! DEFINITION. What the work of every command shares: reading plain and scaled rows (R149, R151, R153), writing outputs
with the rules for poisoned words (R110, R117), undefined outputs, and the statistics of the watch unit (R138, R176). -/

namespace Sys2Proof.Machine

/-- A word at an end of a range is poisoned and lies in it only in part. -/
def State.headBad (s : State) (a : Nat) : Bool := a % 32 != 0 && s.isPoison (a / 32)
/-- The part of a write of `n` bytes that does not touch a poisoned word in part (R110): its first and its end offset. -/
def State.trim (s : State) (a n : Nat) : Nat × Nat :=
  (if s.headBad a then min (32 - a % 32) n else 0, if s.headBad (a + n) then n - min ((a + n) % 32) n else n)
/-- Write output bytes of a tile command: a poisoned word that the write covers only in part stays as it is, and the
command completes with POISON (R110). The Bool says so. -/
def State.putOut (s : State) (a : Nat) (bs : List Byte) : State × Bool :=
  let n := bs.length
  let (lo, hi) := s.trim a n
  (if lo < hi then s.put (a + lo) ((bs.take hi).drop lo) else s, n != 0 && (s.headBad a || s.headBad (a + n)))

/-- Free bytes in an output range that the spec leaves undefined (R117, R143, log entry 4). -/
def State.undef (s : State) (a : Nat) : Nat → State
  | 0 => s
  | n + 1 => let (v, s) := s.free; (s.setByte a (BitVec.ofNat 8 v)).undef (a + 1) n

/-- An output range of a command: position, offset, bytes. -/
abbrev ORange := Nat × Nat × Nat
/-- A free value decides whether an output range of a command that did not complete was begun: its bytes are then undefined, but for a
poisoned word that it covers only in part, and the WINDOW granules that it touches are left not VALID (R110, R117, R143, log entry 4). -/
def State.undefOut (s : State) (o : ORange) : State :=
  let (pos, off, len) := o
  let (v, s) := s.free
  if v % 2 = 0 then s else
  let (lo, hi) := s.trim (scr pos off) len
  let (w, n) := s.windowPart pos off len
  (s.undef (scr pos off + lo) (hi - lo)).granClear pos w n
/-- The outputs of a command that did not complete (R117, R143). -/
def State.undefOuts (s : State) (outs : List ORange) : State := forEach outs (fun o s => s.undefOut o) s

/-- The bytes of a value in a plain type (0 FP32, 1 BF16), rounded once from an FP32 code (R128). -/
def plainBytes (t : Nat) (c32 : Nat) : List Byte := if t = 0 then leBytes 4 c32 else leBytes 2 (toBf16 (fp32 c32))

/-- Element `i` of a plain row, as a value. -/
def State.elem (s : State) (t a i : Nat) : Fv := if t = 0 then fp32 (s.ld (a + 4 * i) 4) else bf16 (s.ld (a + 2 * i) 2)
/-- Element `i` of a plain row, as the FP32 code of its value. -/
def State.elem32 (s : State) (t a i : Nat) : Nat := if t = 0 then s.ld (a + 4 * i) 4 else toFp32 (bf16 (s.ld (a + 2 * i) 2))

/-- Block `j` of the scaled line at an address (R149). -/
def State.lineBlk (s : State) (f : Fmt) (a j : Nat) : Blk :=
  ⟨some (s.byte (a + 256 + j)).toNat,
   if f.is4 then (List.range 32).map fun i => (s.byte (a + 16 * j + i / 2)).toNat / 16 ^ (i % 2) % 16
   else (List.range 32).map fun i => (s.byte (a + 32 * j + i)).toNat⟩

/-- 32-element block `b` of a stored row of values (R153): a scaled line's block, or 32 BF16 values. -/
def State.rowBlk (s : State) (f : Fmt) (a b : Nat) : Blk :=
  if f = .bf16 then ⟨none, (List.range 32).map fun i => s.ld (a + 64 * b + 2 * i) 2⟩
  else
    let per := perLine f / 32
    s.lineBlk f (a + b / per * 272) (b % per)

/-- The byte ranges of blocks `b0` to `b0 + nb − 1` within a stored row: data, and the scale of each (R149, R153). -/
def rowParts (f : Fmt) (b0 nb : Nat) : List (Nat × Nat) :=
  if f = .bf16 then [(64 * b0, 64 * nb)]
  else
    let per := perLine f / 32
    (List.range nb).flatMap fun i =>
      let line := (b0 + i) / per * 272
      [(line + (b0 + i) % per * (256 / per), 256 / per), (line + 256 + (b0 + i) % per, 1)]

/-- Block `b` along K of column `n` of the array load at an address (R151). -/
def State.loadBlk (s : State) (f : Fmt) (a b n : Nat) : Blk :=
  if f = .bf16 then ⟨none, (List.range 32).map fun i => s.ld (a + 256 * n + 64 * b + 2 * i) 2⟩
  else if f.is4 then s.lineBlk f (a + b / 4 * 8704 + n / 4 * 272) (n % 4 * 4 + b % 4)
  else s.lineBlk f (a + n / 2 * 272) (n % 2 * 4 + b)

/-- Combine statistics (R177): counts saturate at 2^32 − 1, the largest MAX is kept. -/
def HStat.add (x y : HStat) : HStat :=
  let sat (n : Nat) : Nat := min n (2 ^ 32 - 1)
  ⟨sat (x.count + y.count), encodeIeee 11 52 ((decodeIeee 11 52 x.sumsq).add (decodeIeee 11 52 y.sumsq)),
   Nat.max x.max y.max, sat (x.nan + y.nan), sat (x.sat + y.sat), sat (x.zero + y.zero)⟩

/-- Statistics of one block of plain values (R176). -/
def plainStat (xs : List Fv) : HStat :=
  let fin := xs.filter Fv.isFin
  let sq := qSum (fin.map fun x => Q.mul x.num x.num)
  let mx := fin.foldl (fun m x => if m.lt x.num.abs then x.num.abs else m) ⟨0, 1⟩
  ⟨fin.length, encodeIeee 11 52 (.ofQ sq), toFp32 (.ofQ mx), if xs.any Fv.isNan then 1 else 0,
   (xs.filter fun x => match x with | .inf _ => true | _ => false).length, if xs.all Fv.isZero then 1 else 0⟩

/-- Statistics of one block of a scaled line, of which the row has `n` elements (R176). Saturated blocks are known to the command that
quantises them, which adds them (R157, R161); a stored block does not show them. -/
def lineStat (f : Fmt) (b : Blk) (n : Nat) : HStat :=
  if b.isNan f then ⟨0, 0, 0, 1, 0, 0⟩
  else if b.isZero then ⟨0, 0, 0, 0, 0, 1⟩
  else
    let xs := ((dequantBlock f b).take n).map Fv.num
    let mx := xs.foldl (fun (m : Q) x => if m.lt x.abs then x.abs else m) ⟨0, 1⟩
    ⟨xs.length, encodeIeee 11 52 (.ofQ (qSum (xs.map fun x => Q.mul x x))), toFp32 (.ofQ mx), 0, 0, 0⟩

/-- A run of output elements: position, scratch offset, elements, type (0 to 4 scaled formats, 5 FP32, 6 BF16). -/
abbrev Seg := Nat × Nat × Nat × Nat

/-- Statistics of one row of output (R176). -/
def State.segStat (s : State) (g : Seg) : HStat :=
  let (pos, off, n, ty) := g
  let a := scr pos off
  (List.range ((n + 31) / 32)).foldl (fun h b =>
    h.add (if ty < 5 then lineStat ((fmtOf ty).getD .fp4) (s.rowBlk ((fmtOf ty).getD .fp4) a b) (min 32 (n - 32 * b))
           else plainStat ((List.range (min 32 (n - 32 * b))).map fun i => s.elem (ty - 5) a (32 * b + i)))) HStat.zero'

/-- Statistics of output rows, per position. -/
def State.segStats (s : State) (gs : List Seg) : List (Nat × HStat) :=
  gs.foldl (fun acc g => tblSet (fun _ => HStat.zero') acc g.1 ((tblGet (fun _ => HStat.zero') acc g.1).add (s.segStat g))) []

/-- A tile or gang page reports an uncorrectable error: ERR_UNCORR is set, and the open step of its group does not commit (R266). -/
def State.uncorr (s : State) (p : Nat) : State :=
  let s := s.setEvt p F.EVT.COM.ERR_UNCORR
  match s.groupOf p with | some g => s.stepErr g | none => s

/-- What the work of a command has made (R117, R120, R121): the state with its outputs, whether a write met a poisoned word in part (R110), the
two results, the rows of output, statistics besides those of the rows, and the array steps that it counted as it went (R80). -/
structure Made where
  s : State
  bad : Bool := false
  r0 : Nat := 0
  r1 : Nat := 0
  segs : List Seg := []
  extra : List (Nat × HStat) := []
  steps : Nat := 0

/-- The result of a command that has made its outputs, with the statistics of a watched command (R121, R138). -/
def Made.res (m : Made) (r : Run) : Res :=
  let addTo (acc : List (Nat × HStat)) (e : Nat × HStat) : List (Nat × HStat) :=
    tblSet (fun _ => HStat.zero') acc e.1 ((tblGet (fun _ => HStat.zero') acc e.1).add e.2)
  { st := .ok, r0 := m.r0, r1 := m.r1, stats := if dWatch r.d then m.extra.foldl addTo (m.s.segStats m.segs) else [] }
/-- A command that has made its outputs completes OK. -/
def Made.done (m : Made) (p : Nat) (r : Run) : State := m.s.finish p { r with steps := r.steps + m.steps } (m.res r)
/-- A command has made its outputs: it completes OK, or with POISON and ERR_UNCORR where a write met a poisoned word in part (R110). -/
def Made.finish (m : Made) (p : Nat) (r : Run) : State :=
  if m.bad then (m.s.finish p r { st := .poison }).uncorr p else m.done p r

/-- A command stops on a check of data read while it runs (R117): its outputs are undefined. -/
def State.finishFail (s : State) (p : Nat) (r : Run) (st : Status) (outs : List ORange) (reason : Nat := 0x09) : State :=
  (s.undefOuts outs).finish p r { st := st, byte := 0xFF, reason := reason }
/-- A command that read a poisoned word completes with POISON, and ERR_UNCORR is set (R110); its outputs are undefined (R117). -/
def State.finishPoison (s : State) (p : Nat) (r : Run) (outs : List ORange) : State :=
  ((s.undefOuts outs).finish p r { st := .poison }).uncorr p

/-- A sum saturates at 32 bits (R120). -/
def sat32 (n : Nat) : Nat := min n 0xFFFFFFFF
/-- Some range of a leaf is poisoned. -/
def State.poisonIn (s : State) (rs : List ORange) : Bool := rs.any fun x => s.anyPoison (scr x.1 x.2.1) x.2.2
/-- The parts of a command's rows, leaf by leaf: position and row (R116). -/
def State.rowsAt (s : State) (p n : Nat) : List (Nat × Nat) :=
  (s.rowShares 16 p 0 n).flatMap fun (pos, lo, c) => (List.range c).map fun i => (pos, lo + i)

/-! ### The mesh -/

/-- The port of a tile's router towards a neighbour: 0 north (a lower row), 1 east (a higher column), 2 south, 3 west. R82 numbers no
port, the model's choice (log entry 171); the grid of a compute die is that of R26. -/
def meshStep (pos port : Nat) : Nat := match port with | 0 => pos - 12 | 1 => pos + 1 | 2 => pos + 12 | _ => pos - 1
/-- `n` hops through one port: the links they take. -/
def meshRun (port : Nat) : Nat → Nat → List (Nat × Nat)
  | 0, _ => []
  | n + 1, pos => (pos, port) :: meshRun port n (meshStep pos port)
/-- The links from a position to another of the same die by dimension order, X first or Y first (R82). -/
def meshPath (xFirst : Bool) (a b : Nat) : List (Nat × Nat) :=
  let (ca, cb) := (a % 12, b % 12)
  let (ra, rb) := (a / 12, b / 12)
  let xs := meshRun (if ca ≤ cb then 1 else 3) (if ca ≤ cb then cb - ca else ca - cb)
  let ys := meshRun (if ra ≤ rb then 2 else 0) (if ra ≤ rb then rb - ra else ra - rb)
  if xFirst then xs a ++ ys (ra * 12 + cb) else ys a ++ xs (rb * 12 + ca)
/-- A mesh link has failed (R82). -/
def State.linkFailed (s : State) (x : Nat × Nat) : Bool := (s.tl x.1).meshFailed.contains x.2
/-- No position that the route passes through is ABSENT (R83). -/
def State.meshClear (s : State) (w : List (Nat × Nat)) : Bool := (w.drop 1).all fun x => !absentPg s.cfg (pg .tile x.1)
/-- The links that a mesh write takes on a die: X first, or Y first where a link of that route has failed (R82). A route that would pass an
ABSENT position goes the other way round, or by way of a third position: which detour is fixed at shipment R83 does not say, and the model
takes the first that serves (log entry 171). -/
def State.meshRoute (s : State) (a b : Nat) : List (Nat × Nat) :=
  let die := a / 144 * 144
  let ways := meshPath true a b :: meshPath false a b
    :: (List.range 144).map fun v => meshPath true a (die + v) ++ meshPath true (die + v) b
  let ok := ways.filter s.meshClear
  (ok.find? fun w => !w.any s.linkFailed).getD (ok.headD [])
/-- Hops through these links have succeeded, which ends a run of failures at each of their ports (R82). -/
def State.pathDone (s : State) (w : List (Nat × Nat)) : State :=
  forEach w (fun (pos, port) s => s.setTl pos { s.tl pos with hopFails := setNth 0 (s.tl pos).hopFails port }) s
/-- The positions at the edge of a compute die, where a bridge endpoint may lie (R82). -/
def State.bridgeEnds (s : State) (die : Nat) : List Nat :=
  ((List.range 144).filter fun i => i % 12 == 0 || i % 12 == 11 || i / 12 == 0 || i / 12 == 11).filterMap fun i =>
    if absentPg s.cfg (pg .tile (144 * die + i)) then none else some (144 * die + i)
/-- A transfer from a tile to another has been delivered over the mesh (R82). On the way to the other compute die hardware chooses the bridge
endpoints: free values (log entry 171). -/
def State.hopsDone (s : State) (a b : Nat) : State :=
  if a / 144 = b / 144 then s.pathDone (s.meshRoute a b)
  else
    let (x, s) := s.pick a (s.bridgeEnds (a / 144))
    let (y, s) := s.pick b (s.bridgeEnds (b / 144))
    let s := s.pathDone (s.meshRoute a x)
    s.pathDone (s.meshRoute y b)
/-- Transfers between these pairs of tiles have been delivered. -/
def State.allHops (s : State) (l : List (Nat × Nat)) : State := forEach l (fun x s => s.hopsDone x.1 x.2) s

/-- Do the work of the running command of this class and operation, if there is one. -/
def State.work (s : State) (p cls op : Nat) (f : Run → State → State) : State :=
  match s.running p cls op with
  | some r => f r s
  | none => s

end Sys2Proof.Machine
end

