-- ==== Sys2Proof/Machine/Vector.lean ====
section
/-! DEFINITION. The vector commands: VEC (R127, R128, R172) but for TOPK, and QNT (R129, R156 to R162). A result with a bound
is picked inside it (log entry 2). -/

namespace Sys2Proof.Machine

/-- A result given as an FP32 code. -/
def codeOut (t : Nat) (c : Nat) : List Byte × Bool := (plainBytes t c, (fp32 c).isNan)
/-- A result whose exact value is known: the FP32 result is correctly rounded, and rounded again into a BF16 output (R128, R172, and the
notation of that chapter): its bytes and whether it is a NaN. -/
def exactOut (t : Nat) (v : Fv) : List Byte × Bool := codeOut t (toFp32 v)

/-- 1 / x. -/
def fvRecip (x : Fv) : Fv := Fv.div (.ofQ ⟨1, 1⟩) x
/-- The logistic function times x: x / (1 + exp(−x)) (R128). -/
def fvSilu (x : Fv) : Fv := Fv.div x (Fv.add (.ofQ ⟨1, 1⟩) (Fv.exp x.opp))
/-- 0.797885 as R172 writes it. -/
def geluC : Q := ⟨797885, 1000000⟩
/-- The tanh form of GELU as R172 writes it. -/
def fvGelu (x : Fv) : Fv :=
  let x3 := Fv.mul (.ofQ ⟨44715, 1000000⟩) (Fv.mul x (Fv.mul x x))
  Fv.mul (Fv.mul (.ofQ ⟨1, 2⟩) x) (Fv.add (.ofQ ⟨1, 1⟩) (Fv.tanh (Fv.mul (.ofQ geluC) (Fv.add x x3))))

/-- GELU (R128, R172). Where the argument of its tanh leaves the FP32 range, IEEE 754 arithmetic gives x, or −0 for a negative x (R148); where
only the cube does, the order of the arithmetic decides (log entry 2). -/
def gelu (key : List Nat) (x : Fv) : Nat :=
  let x3 := Fv.mul x (Fv.mul x x)
  let arg := Fv.mul (.ofQ geluC) (Fv.add x (Fv.mul (.ofQ ⟨44715, 1000000⟩) x3))
  let ieee := toFp32 (if x.neg then .fin true ⟨0, 1⟩ else x)
  let exact := pickFv 0x08 key (fvGelu x) (ulps 4)
  if !x.isFin then exact else if !arg.r32.isFin then ieee else if !x3.r32.isFin then openPick 0x08 key ieee exact else exact

/-- SILU_MUL (R128, R172). Where exp(−x) overflows, or y is not finite, the order of the arithmetic decides (R148, log entry 2). -/
def siluMul (key : List Nat) (x y : Fv) : Nat :=
  let e := (Fv.exp x.opp).r32
  let ieee := toFp32 ((Fv.div x (Fv.add (.ofQ ⟨1, 1⟩) e)).r32.mul y)
  let exact := pickFv 0x07 key ((fvSilu x).mul y) (ulps 4)
  if !x.isFin || !y.isFin then ieee else if !e.isFin then openPick 0x07 key ieee exact else exact

/-- An element-wise operation of R128 on its three source values, with the immediates: the output bytes and whether it is a
NaN. -/
def vecElem (op t : Nat) (x y z : Fv) (i0 i1 : Nat) : List Byte × Bool :=
  let key := [toFp32 x, toFp32 y]
  match op with
  | 0x00 => exactOut t (x.add y)
  | 0x01 => exactOut t (x.mul y)
  | 0x02 => exactOut t ((x.mul y).add z)
  | 0x03 => exactOut t ((x.mul (fp32 i0)).add (fp32 i1))
  | 0x07 => codeOut t (siluMul key x y)
  | 0x08 => codeOut t (gelu key x)
  | 0x0A => codeOut t (pickFv op key (Fv.exp2 x) (ulps 2))
  | 0x0B => codeOut t (pickFv op key (Fv.log2 x) fun r => let a := ulps 2 r; if a.lt (Q.pow2 (-25)) then Q.pow2 (-25) else a)
  | 0x0C => codeOut t (pickFv op key (fvRecip x) (ulps 1))
  | 0x0D => codeOut t (pickFv op key (fvRecip (Fv.sqrt x)) (ulps 1))
  | 0x0E => codeOut t (pickFv op key (Fv.tanh x) (ulps 2))
  | _ => exactOut t x

/-- The FP32 sum of the squares of a row (R172). -/
def sumSquares (xs : List Fv) : Fv := fp32 (rowTree (xs.map fun x => toFp32 (x.mul x)))

/-- RMSNORM of a row (R128, R172). Where an intermediate value leaves the FP32 range, IEEE 754 arithmetic gives the result (R148). -/
def rmsRow (xs s1 : List Fv) (imm : Fv) : List Nat :=
  let nQ : Fv := .ofQ ⟨xs.length, 1⟩
  let root (sq : Fv) (f : Fv → Fv) : Fv := Fv.sqrt (f ((f (Fv.div sq nQ)).add imm))
  let den := root (fvSum (xs.map fun x => x.mul x)) id
  let den' := (root (sumSquares xs) Fv.r32).r32
  let key := (xs ++ s1).map toFp32
  xs.zipIdx.map fun (x, i) =>
    let w := nth .zero s1 i
    if !(sumSquares xs).isFin || !den'.isFin then toFp32 ((Fv.div x den').r32.mul w)
    else pickFv 0x04 (i :: key) ((Fv.div x den).mul w) (relU (clog2 xs.length + 8))

/-- LAYERNORM of a row (R128, R172), with the same provision. Where σ is 0, |mean| / σ is no number, and that term of the bound counts as 0: the
model's choice (DESIGN CHOICE, log entry 200). -/
def layerRow (xs s1 s2 : List Fv) (imm : Fv) : List Nat :=
  let nQ : Fv := .ofQ ⟨xs.length, 1⟩
  let mean := Fv.div (fvSum xs) nQ
  let dev := xs.map fun x => x.add mean.opp
  let var := Fv.div (fvSum (dev.map fun x => x.mul x)) nQ
  let sg := Fv.sqrt (var.add imm)
  let sd := Fv.sqrt var
  let mean' := (Fv.div (fp32 (rowTree (xs.map toFp32))) nQ).r32
  let dev' := xs.map fun x => (x.add mean'.opp).r32
  let sg' := (Fv.sqrt (((Fv.div (sumSquares dev') nQ).r32.add imm).r32)).r32
  let key := (xs ++ s1 ++ s2).map toFp32
  xs.zipIdx.map fun (_, i) =>
    let w := nth .zero s1 i
    let b := nth .zero s2 i
    let prod := ((Fv.div (nth .zero dev' i) sg').r32.mul w).r32
    if !mean'.isFin || dev'.any (fun x => !x.isFin) || !(sumSquares dev').isFin || !sg'.isFin || !prod.isFin then toFp32 (prod.add b)
    else pickFv 0x05 (i :: key) (((Fv.div (nth .zero dev i) sg).mul w).add b) fun q =>
      Q.mul (Q.mul ⟨clog2 xs.length + 10, 1⟩ uQ) ((q.abs.add (Q.mul w.num.abs (Fv.div mean sd).num.abs)).add b.num.abs)

/-- SOFTMAX of a row under IMM0 (R128, R172). Where a product with IMM0 overflows, the order of the arithmetic decides (R148, log entry 2). -/
def scaledSoft (op : Nat) (xs : List Fv) (imm : Fv) : List Nat :=
  let key := (imm :: xs).map toFp32
  let sc := xs.map fun x => x.mul imm
  let mx := xs.foldl (fun (m : Option Q) x => match x, m with | .fin _ q, some y => some (if y.lt q then q else y) | .fin _ q, none => some q | _, m => m) none
  let dist (i : Nat) : Q := Q.div (Q.mul (((nth .zero xs i).num.sub (mx.getD ⟨0, 1⟩)).abs) imm.num.abs) (fxToQ fxLn2)
  let row (zs : List Fv) : List Nat := softRow op key zs fun i _ => dist i
  let ovf := sc.any fun x => x.isFin && !x.r32.isFin
  ((row sc).zip (row (sc.map Fv.r32))).map fun (a, b) => if ovf then openPick op (1 :: key) a b else a

/-- IMM0 to the power −2i/ELEMS, as IEEE 754 has it for special bases (R128, R148). -/
def ropePow (base : Fv) (i n : Nat) : Fv :=
  if i = 0 then .ofQ ⟨1, 1⟩ else
  match base with
  | .nan => .nan
  | .inf _ => .zero
  | .fin neg q =>
      if q.n = 0 then .inf false else if neg then .nan else .ofQ (qExp2 (Q.mul ⟨-2 * (i : Int), n⟩ (qLog2 q)))

/-- ROPE on one row (R128, R172): the pair of elements 2i and 2i + 1 is rotated by position × frequency. The frequency is an FP32 value
within 2u of IMM0^(−2i/ELEMS), and the rotation is within 3u of the pair's norm. Which elements form a pair, and that the last element of
an odd row is paired with 0, is the model's choice (log entry 176). -/
def ropeRow (xs : List Fv) (position i0 : Nat) : List Nat :=
  let n := xs.length
  let key := (position :: i0 :: xs.map toFp32)
  (List.range n).map fun e =>
    let i := e / 2
    let a := nth .zero xs (2 * i)
    let b := nth .zero xs (2 * i + 1)
    let freq := fp32 (pickFv 0x109 [i, n, i0] (ropePow (fp32 i0) i n) (relU 2))
    let (sn, cs) : Fv × Fv := match (Fv.ofQ ⟨position, 1⟩).mul freq with
      | .fin _ ang => let (x, y) := qSinCos ang; (.ofQ x, .ofQ y)
      | _ => (.nan, .nan)
    let v := if e % 2 = 0 then (a.mul cs).add (b.mul sn).opp else (a.mul sn).add (b.mul cs)
    pickFv 9 (e :: key) v fun _ => Q.mul (Q.mul ⟨3, 1⟩ uQ) (qSqrt ((Q.mul a.num a.num).add (Q.mul b.num b.num)))

/-- The largest element of a row: +0 above −0, the canonical NaN if the row holds a NaN (R128, R172). -/
def rowMax (xs : List Nat) : Nat := match xs with | [] => 0xFF800000 | x :: t => t.foldl fmax32 (if (fp32 x).isNan then nan32 else x)

/-- One element of ADAMW (R172): the new first and second moment and the new parameter, as FP32 codes; `h` are the six hyperparameters,
learning rate, beta1, beta2, epsilon, weight decay and bias correction. R128 gives no formula: m' = β1 m + (1 − β1) g, v' = β2 v + (1 − β2) g²,
Δp = lr × (m' × correction / (√v' + ε) + decay × p), p' = p − Δp is the model's choice (log entry 177). Where an intermediate value leaves
the FP32 range, IEEE 754 arithmetic gives the parameter (R148). -/
def adamElem (x g m v : Nat) (h : List Fv) : Nat × Nat × Nat :=
  let hp (i : Nat) : Fv := nth .zero h i
  let one : Fv := .ofQ ⟨1, 1⟩
  let m' := toFp32 (((hp 1).mul (fp32 m)).add ((one.add (hp 1).opp).mul (fp32 g)))
  let v' := toFp32 (((hp 2).mul (fp32 v)).add ((one.add (hp 2).opp).mul ((fp32 g).mul (fp32 g))))
  let dpOf (f : Fv → Fv) : Fv :=
    f ((hp 0).mul (f ((f (Fv.div (f ((fp32 m').mul (hp 5))) (f ((f (Fv.sqrt (fp32 v'))).add (hp 3))))).add (f ((hp 4).mul (fp32 x))))))
  let dp := dpOf id
  let dp' := dpOf Fv.r32
  let r := (fp32 x).add dp.opp
  (m', v', if dp'.isFin then pickFv 0x20 [x, g, m, v] r fun q => (ulps 2 q).add (Q.mul ⟨8, 1⟩ (Q.mul uQ dp.num.abs))
    else toFp32 ((fp32 x).add dp'.opp))

/-- The output bytes of a row of a VEC command, and how many results are NaN. -/
def State.vecRowOut (s : State) (pos d row : Nat) : List Byte × Nat :=
  let op := dOp d
  let ti := dfld d 16 0 4
  let to_ := dfld d 16 4 4
  let n := dfld d 20 0 32
  let pit := dfld d 40 0 32
  let i0 := dfld d 44 0 32
  let rowA (b es : Nat) : Nat := scr pos (dfld d b 0 32 + row * pit * es)
  let el (b i : Nat) : Fv := s.elem ti (rowA b (esz ti)) i
  let vec (b : Nat) : List Fv := (List.range n).map fun i => s.elem ti (scr pos (dfld d b 0 32)) i
  let xs (b : Nat) : List Fv := (List.range n).map (el b)
  let fin (l : List (List Byte × Bool)) : List Byte × Nat := (l.flatMap (·.1), (l.filter (·.2)).length)
  match op with
  | 0x04 => fin ((rmsRow (xs 24) (vec 28) (fp32 i0)).map (codeOut to_))
  | 0x05 => fin ((layerRow (xs 24) (vec 28) (vec 32) (fp32 i0)).map (codeOut to_))
  | 0x06 => fin ((scaledSoft op (xs 24) (fp32 i0)).map (codeOut to_))
  | 0x09 => fin ((ropeRow (xs 24) (s.ld (scr pos (dfld d 28 0 32 + 4 * row)) 4) i0).map (codeOut to_))
  | 0x10 => fin [codeOut to_ (rowTree ((xs 24).map toFp32))]
  | 0x11 => fin [codeOut to_ (rowMax ((xs 24).map toFp32))]
  | _ => fin ((List.range n).map fun i =>
      vecElem op to_ (el 24 i) (if [0, 1, 2, 7].contains op then el 28 i else .zero) (if op = 2 then el 32 i else .zero) i0 (dfld d 48 0 32))

/-- The input ranges of a row of a VEC command in its leaf. -/
def vecInputs (d row : Nat) : List (Nat × Nat) :=
  let op := dOp d
  let es := esz (dfld d 16 0 4)
  let n := dfld d 20 0 32
  let pit := dfld d 40 0 32
  let rw (b : Nat) : Nat × Nat := (dfld d b 0 32 + row * pit * es, n * es)
  rw 24 :: (if [0, 1, 2, 7, 0x20].contains op then [rw 28] else []) ++ (if op = 2 then [rw 32] else [])
    ++ (if op = 4 || op = 5 then [(dfld d 28 0 32, n * es)] else []) ++ (if op = 5 then [(dfld d 32 0 32, n * es)] else [])
    ++ (if op = 9 then [(dfld d 28 0 32 + 4 * row, 4)] else [])
    ++ (if op = 0x20 then [(dfld d 32 0 32 + row * pit * 8, n * 8), (dfld d 56 0 32, 32)] else [])

/-- The output ranges of a row of a VEC command in its leaf: the row, and the moments of ADAMW. ROWSUM and ROWMAX put the value of row r at
DST + r × its size: the model's choice (log entry 178). -/
def vecOuts (d row : Nat) : List (Nat × Nat) :=
  let op := dOp d
  let eo := esz (dfld d 16 4 4)
  let n := dfld d 20 0 32
  let pit := dfld d 40 0 32
  if op = 0x10 || op = 0x11 then [(dfld d 36 0 32 + row * eo, eo)]
  else (dfld d 36 0 32 + row * pit * eo, n * eo) :: (if op = 0x20 then [(dfld d 32 0 32 + row * pit * 8, n * 8)] else [])
/-- The rows of a command with the ranges that `f` gives for each. -/
def State.rowRanges (s : State) (p n : Nat) (f : Nat → List (Nat × Nat)) : List ORange :=
  (s.rowsAt p n).flatMap fun (pos, row) => (f row).map fun x => (pos, x.1, x.2)

/-- What a row of a VEC command writes, ADAMW's NaN results being its parameters that are NaN and not its moments (DESIGN CHOICE, log entry
201): the bytes for each of its output ranges, and how many results are NaN. -/
def State.vecRowPuts (s : State) (pos d row : Nat) : List (List Byte) × Nat :=
  if dOp d = 0x20 then
    let ti := dfld d 16 0 4
    let pit := dfld d 40 0 32
    let h := (List.range 6).map fun k => fp32 (s.ld (scr pos (dfld d 56 0 32 + 4 * k)) 4)
    let rs := (List.range (dfld d 20 0 32)).map fun e =>
      let mo := scr pos (dfld d 32 0 32 + row * pit * 8 + 8 * e)
      adamElem (s.elem32 ti (scr pos (dfld d 24 0 32 + row * pit * esz ti)) e) (s.elem32 ti (scr pos (dfld d 28 0 32 + row * pit * esz ti)) e)
        (s.ld mo 4) (s.ld (mo + 4) 4) h
    ([rs.flatMap fun x => plainBytes (dfld d 16 4 4) x.2.2, rs.flatMap fun x => leBytes 4 x.1 ++ leBytes 4 x.2.1],
     (rs.filter fun x => (fp32 x.2.2).isNan).length)
  else let (bs, k) := s.vecRowOut pos d row; ([bs], k)

/-- The outputs of a VEC operation but TOPK, on the rows of every leaf (R101, R128); ADAMW updates the parameters, and the two moments of each
element, in place. -/
def State.vecMade (s0 : State) (p d : Nat) : Made :=
  let each := s0.rowsAt p (dfld d 18 0 16)
  let (t, bad, nan, segs) := each.foldl (fun acc (pos, row) =>
    let (bss, k) := s0.vecRowPuts pos d row
    let tys := [dfld d 16 4 4, 0]
    ((vecOuts d row).zip bss).zipIdx.foldl (fun acc (((off, len), bs), j) =>
      let (u, b) := acc.1.putOut (scr pos off) bs
      (u, acc.2.1 || b, acc.2.2.1, acc.2.2.2 ++ [(pos, off, len / esz (nth 0 tys j), 5 + nth 0 tys j)])) (acc.1, acc.2.1, acc.2.2.1 + k, acc.2.2.2))
    ((s0, false, 0, []) : State × Bool × Nat × List Seg)
  { s := t, bad := bad, r0 := each.length, r1 := nan, segs := segs }
/-- What a VEC operation but TOPK reads. -/
def State.vecReads (s : State) (p d : Nat) : List ORange := s.rowRanges p (dfld d 18 0 16) (vecInputs d)
/-- Every VEC operation but TOPK (R128). -/
def State.vecWork (s : State) (p : Nat) (r : Run) : State :=
  if s.poisonIn (s.vecReads p r.d) then s.finishPoison p r (s.rowRanges p (dfld r.d 18 0 16) (vecOuts r.d)) else (s.vecMade p r.d).finish p r

/-- The bytes of a scaled line row from its blocks: data, scales, zero reserved bytes, unused blocks zero (R149, R153, R161). -/
def lineRow (f : Fmt) (bs : List (Nat × List Nat)) : List Byte :=
  let per := perLine f / 32
  let lines := (bs.length + per - 1) / per
  (List.range lines).flatMap fun l =>
    let blk (j : Nat) : Nat × List Nat := nth (0, List.replicate 32 0) bs (l * per + j)
    let data := (List.range per).flatMap fun j =>
      if f.is4 then (List.range 16).map fun i => BitVec.ofNat 8 (nth 0 (blk j).2 (2 * i) + 16 * nth 0 (blk j).2 (2 * i + 1))
      else (List.range 32).map fun i => BitVec.ofNat 8 (nth 0 (blk j).2 i)
    data ++ ((List.range 16).map fun j => if j < per then BitVec.ofNat 8 (blk j).1 else 0)

/-- QUANT of one row (R157): its blocks, the saturated and the NaN blocks, and whether a table byte of 0xFF was met. -/
def State.quantRow (s : State) (pos d row : Nat) : List (Nat × List Nat) × Nat × Nat × Bool :=
  let f := (fmtOf (dfld d 16 0 4)).getD .fp4
  let pl := dfld d 16 4 4
  let n := dfld d 20 0 32
  let a := scr pos (dfld d 24 0 32 + row * dfld d 32 0 32)
  (List.range (n / 32)).foldl (fun acc j =>
    let xs := (List.range 32).map fun i => s.elem pl a (32 * j + i)
    let tab := if dfld d 17 2 2 = 2 then (s.byte (scr pos (dfld d 48 0 32 + row * (n / 32) + j))).toNat else 0
    match quantBlock f (dfld d 17 2 2) (dfld d 17 0 2) (dfld d 40 0 32) row (32 * j) (fp32 (dfld d 44 0 32)).num tab xs with
    | .nanBlk => (acc.1 ++ [(0xFF, List.replicate 32 0)], acc.2.1, acc.2.2.1 + 1, acc.2.2.2)
    | .zeroBlk => (acc.1 ++ [(0, List.replicate 32 0)], acc.2)
    | .blk sc cs sat => (acc.1 ++ [(sc, cs)], acc.2.1 + (if sat then 1 else 0), acc.2.2)
    | .badTable => (acc.1, acc.2.1, acc.2.2.1, true)) ([], 0, 0, false)

/-- The output range of a row of a QNT command in its leaf. -/
def qntOut (d row : Nat) : List (Nat × Nat) :=
  let f := (fmtOf (dfld d 16 0 4)).getD .fp4
  let n := dfld d 20 0 32
  [(dfld d 28 0 32 + row * dfld d 36 0 32, if dOp d = 0 then rowBytes f n else n * esz (dfld d 16 4 4))]
/-- What a row of a QNT command reads: the source, but for the unused rest of a last line (R162), and its scale table bytes. -/
def qntInputs (d row : Nat) : List (Nat × Nat) :=
  let f := (fmtOf (dfld d 16 0 4)).getD .fp4
  let n := dfld d 20 0 32
  let a := dfld d 24 0 32 + row * dfld d 32 0 32
  if dOp d = 0 then (a, n * esz (dfld d 16 4 4)) :: (if dfld d 17 2 2 = 2 then [(dfld d 48 0 32 + row * (n / 32), n / 32)] else [])
  else (rowParts f 0 (n / 32)).map fun x => (a + x.1, x.2)
/-- RESULT1 of a QNT command (R121): the two counts of each leaf, in 16 bits each. A count stops at 0xFFFF, and a gang's record sums those
of its leaves: the model's choice (log entry 175). `cs` gives the counts row by row. -/
def qntCounts (cs : List (Nat × Nat × Nat)) : Nat :=
  let leaf (pos : Nat) : Nat :=
    let mine := cs.filter fun c => c.1 == pos
    min (mine.map (·.2.1)).sum 0xFFFF + min (mine.map (·.2.2)).sum 0xFFFF * 2 ^ 16
  sat32 (((cs.map (·.1)).eraseDups.map leaf).sum)

/-- The status that a row of a QUANT ends its share with, if any (R110, R129). -/
def State.quantStop (s : State) (pos d row : Nat) : Option Status :=
  if s.poisonIn ((qntInputs d row).map fun x => (pos, x.1, x.2)) then some .poison
  else if (s.quantRow pos d row).2.2.2 then some .badArg else none
/-- What stops a QUANT, if anything: the first row in member order says it (R96). -/
def State.quantStops (s : State) (p d : Nat) : Option Status := (s.rowsAt p (dfld d 18 0 16)).findSome? fun x => s.quantStop x.1 d x.2
/-- The outputs of a QUANT (R129, R157 to R161). -/
def State.quantMade (s0 : State) (p d : Nat) : Made :=
  let f := (fmtOf (dfld d 16 0 4)).getD .fp4
  let each := s0.rowsAt p (dfld d 18 0 16)
  let (t, bad, cs, segs) := each.foldl (fun acc (pos, row) =>
    let (bs, sa, na, _) := s0.quantRow pos d row
    let off := dfld d 28 0 32 + row * dfld d 36 0 32
    let (u, b) := acc.1.putOut (scr pos off) (lineRow f bs)
    (u, acc.2.1 || b, acc.2.2.1 ++ [(pos, sa, na)], acc.2.2.2 ++ [(pos, off, dfld d 20 0 32, dfld d 16 0 4)]))
    ((s0, false, [], []) : State × Bool × List (Nat × Nat × Nat) × List Seg)
  { s := t, bad := bad, r0 := each.length, r1 := qntCounts cs, segs := segs, extra := cs.map fun c => (c.1, (⟨0, 0, 0, 0, c.2.1, 0⟩ : HStat)) }
/-- QNT QUANT (R129, R157 to R161). -/
def State.quantWork (s : State) (p : Nat) (r : Run) : State :=
  let outs := s.rowRanges p (dfld r.d 18 0 16) (qntOut r.d)
  match s.quantStops p r.d with
  | some .poison => s.finishPoison p r outs
  | some st => s.finishFail p r st outs
  | none => (s.quantMade p r.d).finish p r

/-- The outputs of a DEQUANT (R129, R162). -/
def State.dequantMade (s0 : State) (p d : Nat) : Made :=
  let f := (fmtOf (dfld d 16 0 4)).getD .fp4
  let pl := dfld d 16 4 4
  let n := dfld d 20 0 32
  let each := s0.rowsAt p (dfld d 18 0 16)
  let (t, bad, cs, segs) := each.foldl (fun acc (pos, row) =>
    let off := dfld d 28 0 32 + row * dfld d 36 0 32
    let blks := (List.range (n / 32)).map fun j => s0.rowBlk f (scr pos (dfld d 24 0 32 + row * dfld d 32 0 32)) j
    let bs := blks.flatMap fun b => (dequantBlock f b).flatMap fun v => (exactOut pl v).1
    let (u, b) := acc.1.putOut (scr pos off) bs
    (u, acc.2.1 || b, acc.2.2.1 ++ [(pos, 0, (blks.filter (·.isNan f)).length)], acc.2.2.2 ++ [(pos, off, n, 5 + pl)]))
    ((s0, false, [], []) : State × Bool × List (Nat × Nat × Nat) × List Seg)
  { s := t, bad := bad, r0 := each.length, r1 := qntCounts cs, segs := segs }
/-- What a QNT command reads. -/
def State.qntReads (s : State) (p d : Nat) : List ORange := s.rowRanges p (dfld d 18 0 16) (qntInputs d)
/-- QNT DEQUANT (R129, R162). -/
def State.dequantWork (s : State) (p : Nat) (r : Run) : State :=
  if s.poisonIn (s.qntReads p r.d) then s.finishPoison p r (s.rowRanges p (dfld r.d 18 0 16) (qntOut r.d)) else (s.dequantMade p r.d).finish p r

end Sys2Proof.Machine
end

