-- ==== Sys2Proof/Machine/Sample.lean ====
section
/-! DEFINITION. SAMPLE (R130, R131, R173, R548). -/

namespace Sys2Proof.Machine

/-- A logit ranks below another (R131, R548): NaN below −Inf; of equal ones the lower index is the larger. -/
def logitLt (a b : Fv) : Bool :=
  match a, b with
  | .nan, .nan => false
  | .nan, _ => true
  | _, .nan => false
  | .inf true, .inf true => false
  | .inf true, _ => true
  | .inf false, _ => false
  | _, .inf true => false
  | _, .inf false => true
  | .fin _ x, .fin _ y => x.lt y

/-- Put an index in its place in a list ranked by falling logit, ties to the lower index. -/
def rankInsert (v : Nat → Fv) (i : Nat) : List Nat → List Nat
  | [] => [i]
  | j :: t => if logitLt (v j) (v i) then i :: j :: t else j :: rankInsert v i t

/-- The indices below n, ranked by falling value. -/
def ranked (v : Nat → Fv) (n : Nat) : List Nat := (List.range n).foldl (fun l i => rankInsert v i l) []

/-- The greedy choice: the largest logit, the lowest index on a tie. -/
def greedy (v : Nat → Fv) (n : Nat) : Nat := (List.range n).foldl (fun b i => if logitLt (v b) (v i) then i else b) 0

/-- The smallest prefix of a ranking whose weights reach a target. -/
def prefixTo (w : Nat → Q) (target : Q) : List Nat → Q → List Nat
  | [], _ => []
  | i :: t, acc =>
    let a := acc.add (w i)
    if target.le a then [i] else i :: prefixTo w target t a

/-- The first token, in ascending order, at which the running sum exceeds u (R548); the last kept one if none does. -/
def firstOver (w : Nat → Q) (u : Q) : List Nat → Q → Nat
  | [], _ => 0
  | [i], _ => i
  | i :: t, acc => let a := acc.add (w i); if u.lt a then i else firstOver w u t a

/-- The probabilities that the draw uses, in place of the exact ones `w` of the tokens `l` (R173): a part of at most (⌈log2 VOCAB⌉ + 10) u of
the whole moves from some tokens to others, among them to the kept ones `wide` that TOP_P leaves out by exact arithmetic, so that the
distribution differs by no more than that in total variation. Which part moves depends on the logits and the parameters only (log entry 2):
`key`. The uniform variate's own resolution gives the 2^−31 of R173. -/
def nearProbs (key : List Nat) (vocab : Nat) (w : Nat → Q) (l wide : List Nat) (i : Nat) : Q :=
  let tot := qSum (l.map w)
  let p (i : Nat) : Q := if l.contains i then Q.div (w i) tot else ⟨0, 1⟩
  let part (k i : Nat) : Nat := Config.boundChoice 0x22 (k :: i :: key)
  let sum (k : Nat) (l : List Nat) : Nat := (l.map (part k)).sum
  let t := Q.mul ⟨clog2 vocab + 10, 1⟩ uQ
  let off (i : Nat) : Q := let x := Q.mul t (Q.div ⟨part 1 i, 1⟩ ⟨sum 1 l, 1⟩); if x.lt (p i) then x else p i
  if sum 2 wide = 0 then p i
  else ((p i).sub (if l.contains i then off i else ⟨0, 1⟩)).add
    (if wide.contains i then Q.mul (qSum (l.map off)) (Q.div ⟨part 2 i, 1⟩ ⟨sum 2 wide, 1⟩) else ⟨0, 1⟩)

/-- One token drawn from a row of logits at position q (R131, R173, R548): TOP_K, temperature, TOP_P, SEED, handle. Where a kept logit is
+Inf its softmax is no number: the token is one of those kept (log entry 2). Where every kept logit is −Inf it is none either: the model
takes the last kept token, the first with TOP_P below 1 (DESIGN CHOICE, log entry 202). -/
def drawToken (vocab : Nat) (v : Nat → Fv) (topK temp topP seed handle q : Nat) : Nat :=
  let t := fp32 temp
  if (List.range vocab).all fun i => (v i).isNan then 0
  else if t.isZero then greedy v vocab
  else
    let flat := t == .inf false
    let v' (i : Nat) : Fv := if flat then (if (v i).isNan then .nan else .zero) else v i
    let rk := ranked v' vocab
    let kept := (if topK = 0 then rk else rk.take topK).filter fun i => !(v' i).isNan
    let key := [topK, temp, topP] ++ (List.range vocab).map fun i => toFp32 (v i)
    let tp := fp32 topP
    let first := !(tp == .inf false) && (tp.neg || tp.isZero)
    if kept.any fun i => v' i == .inf false then
      let ks := if first then kept.take 1 else kept
      nth 0 ks (Config.boundChoice 0x22 ([seed, handle, q] ++ key) % max ks.length 1)
    else
      let mx := match kept with | i :: _ => (v' i).num | [] => ⟨0, 1⟩
      let w (i : Nat) : Q :=
        match v' i with
        | .fin _ x => if flat then ⟨1, 1⟩ else qExp (Q.div (x.sub mx) t.num)
        | _ => ⟨0, 1⟩
      let all := tp == .inf false || (tp.isFin && Q.le ⟨1, 1⟩ tp.num)
      let keep2 := if all then kept else if first then kept.take 1 else prefixTo w (Q.mul tp.num (qSum (kept.map w))) kept ⟨0, 1⟩
      let wide := if first then keep2 else kept
      let up (l : List Nat) : List Nat := (List.range vocab).filter fun i => l.contains i
      if (qSum (keep2.map w)).n = 0 then firstOver w ⟨0, 1⟩ (up keep2) ⟨0, 1⟩
      else firstOver (nearProbs key vocab w keep2 wide) (uvar seed handle q) (up wide) ⟨0, 1⟩

/-- The log-probability of a token under the softmax of the stored logits of its row (R548). Beside a +Inf logit the order of the arithmetic
decides between the logarithm of 0 and the canonical NaN (R148, log entry 2). -/
def logProb (vocab : Nat) (v : Nat → Fv) (tok : Nat) : Nat :=
  let key := tok :: (List.range vocab).map fun i => toFp32 (v i)
  if (List.range vocab).all fun i => (v i).isNan then nan32
  else if (List.range vocab).any fun i => v i == .inf false then
    (if (v tok).isFin || v tok == .inf true then openPick 0x22 key 0xFF800000 nan32 else nan32)
  else match v tok with
    | .fin _ x =>
        let mx := (List.range vocab).foldl (fun (m : Q) i => match v i with | .fin _ y => if m.lt y then y else m | _ => m) x
        let tot := qSum ((List.range vocab).map fun i => match v i with | .fin _ y => qExp (y.sub mx) | _ => ⟨0, 1⟩)
        let r := (x.sub mx).sub (qLn tot)
        let z := Q.div ((x.sub mx).abs) (fxToQ fxLn2)
        if r.n = 0 then 0 else pickWithin 0x22 key r ((Q.mul (Q.add ⟨clog2 vocab + 8, 1⟩ z) uQ).add (ulps 2 r))
    | .nan => nan32
    | .inf _ => 0xFF800000

/-- A parameter record (R130). -/
structure SampleParam where
  handle : Nat
  clen : Nat
  first : Nat
  drafts : Nat
  topK : Nat
  temp : Nat
  topP : Nat
  seed : Nat
  doff : Nat
  deriving DecidableEq, Repr

/-- Read the parameter record of a sequence. -/
def State.sampleParam (s : State) (pos d i : Nat) : SampleParam :=
  let a := scr pos (dfld d 32 0 32 + 32 * i)
  ⟨s.ld a 4, s.ld (a + 4) 4, s.ld (a + 8) 4, s.ld (a + 12) 2, s.ld (a + 14) 2, s.ld (a + 16) 4, s.ld (a + 20) 4, s.ld (a + 24) 4, s.ld (a + 28) 4⟩

/-- Verify drafts: the accepted count, the row that supplies the token, and the token (R131). -/
def verifyFrom (draw draft : Nat → Nat) (n : Nat) : Nat → Nat → Nat × Nat
  | 0, j => (j, draw j)
  | k + 1, j => if j < n && draw j == draft j then verifyFrom draw draft n k (j + 1) else (j, draw j)

/-- Where logit row `row` of a SAMPLE begins, its bytes, and the rows that a sequence reads (R130, R548). -/
def logitOff (d row : Nat) : Nat := dfld d 24 0 32 + row * dfld d 28 0 32 * esz (dfld d 16 0 4)
/-- The bytes of a logit row. -/
def logitBytes (d : Nat) : Nat := dfld d 20 0 32 * esz (dfld d 16 0 4)
/-- The logit rows that a sequence reads. -/
def SampleParam.rows (x : SampleParam) (d : Nat) : Nat := if dfld d 17 0 1 = 1 then x.drafts + 1 else 1
/-- The draft tokens that a sequence uses (R130, R548): none without VERIFY. -/
def SampleParam.used (x : SampleParam) (d : Nat) : Nat := if dfld d 17 0 1 = 1 then x.drafts else 0
/-- The status that a parameter record ends a SAMPLE with, if any (R114, R117, R130, R131). -/
def SampleParam.fail (x : SampleParam) (regs : List (Nat × Nat)) (d : Nat) : Option Status :=
  let t := fp32 x.temp
  if 63 < x.drafts || t.isNan || (t.neg && !t.isZero) || (fp32 x.topP).isNan then some .badArg
  else if x.used d != 0 && (2 ^ 27 ≤ x.doff || x.doff % 4 != 0) then some .badArg
  else if !(inRegion regs [1, 2, 3] (logitOff d x.first) (span (x.rows d) (dfld d 28 0 32 * esz (dfld d 16 0 4)) (logitBytes d))) then some .range
  else if !(inRegion regs [1, 2, 3] x.doff (4 * x.used d)) then some .range
  else none
/-- The output range of a sequence of a SAMPLE. -/
def sampleOut (d i : Nat) : List (Nat × Nat) := [(dfld d 36 0 32 + 16 * i, 16)]

/-- The status that a sequence ends its leaf's share of a SAMPLE with, if any (R110, R117). -/
def State.sampleStop (s : State) (regs : List (Nat × Nat)) (pos d i : Nat) : Option Status :=
  let x := s.sampleParam pos d i
  if s.poisonIn [(pos, dfld d 32 0 32 + 32 * i, 32)] then some .poison
  else match x.fail regs d with
    | some st => some st
    | none => if s.poisonIn ((pos, x.doff, 4 * x.used d) :: (List.range (x.rows d)).map fun j => (pos, logitOff d (x.first + j), logitBytes d))
        then some .poison else none

/-- What stops a SAMPLE, if anything: the first sequence in member order says it (R96). -/
def State.sampleStops (s : State) (p d : Nat) : Option Status :=
  (s.rowsAt p (dfld d 18 0 16)).findSome? fun x => s.sampleStop (s.tl (s.lead p)).regions x.1 d x.2
/-- The outputs of a SAMPLE (R130, R131, R548): one result per sequence of each leaf's share. A watched SAMPLE passes the statistics of its
log-probabilities, the one part of a result that is a number in a plain type: the model's choice (log entry 179). -/
def State.sampleMade (s0 : State) (p d : Nat) : Made :=
  let vocab := dfld d 20 0 32
  let each := s0.rowsAt p (dfld d 18 0 16)
  let (t, bad, acc, segs) := each.foldl (fun acc (pos, i) =>
    let x := s0.sampleParam pos d i
    let v (j k : Nat) : Fv := s0.elem (dfld d 16 0 4) (scr pos (logitOff d (x.first + j))) k
    let draw (j : Nat) : Nat := drawToken vocab (v j) x.topK x.temp x.topP x.seed x.handle (x.clen + j)
    let (j, tok) := verifyFrom draw (fun j => s0.ld (scr pos (x.doff + 4 * j)) 4) (x.used d) (x.used d) 0
    let off := dfld d 36 0 32 + 16 * i
    let (u, b) := acc.1.putOut (scr pos off) (leBytes 4 tok ++ leBytes 4 (logProb vocab (v j) tok) ++ leBytes 1 j ++ leBytes 7 0)
    (u, acc.2.1 || b, acc.2.2.1 + j, acc.2.2.2 ++ [(pos, off + 4, 1, 5)])) ((s0, false, 0, []) : State × Bool × Nat × List Seg)
  { s := t, bad := bad, r0 := each.length, r1 := acc, segs := segs }
/-- SAMPLE (R130, R131, R548). -/
def State.sampleWork (s : State) (p : Nat) (r : Run) : State :=
  let outs := s.rowRanges p (dfld r.d 18 0 16) (sampleOut r.d)
  match s.sampleStops p r.d with
  | some .poison => s.finishPoison p r outs
  | some st => s.finishFail p r st outs
  | none => (s.sampleMade p r.d).finish p r

end Sys2Proof.Machine
end

