-- ==== Sys2Proof/Machine/Matrix.lean ====
section
/-! DEFINITION. The matrix commands: MMA DENSE and GROUPED (R98 to R100, R122, R123, R154, R155), TMMA (R140) and TGRAD
(R141). -/

namespace Sys2Proof.Machine

/-- Where a matrix command finds its operands in every leaf: mode, the transpose flag of TMMA, the offsets of A (first row
and stride), of the loads and of their panel scales. -/
structure MmaArg where
  f : Fmt
  tr : Bool
  w : Nat
  ps : Nat
  deriving DecidableEq, Repr

/-- The accumulation of R154 in one leaf over its share of K (k0, kc), for column `n` of its share: `nl` is the column block
within the share of `nc` blocks and `acc` the starting accumulator. `row` is the address of the activation row. -/
def State.leafAcc (s : State) (g : MmaArg) (pos row k0 kc nc nl n acc : Nat) : Nat :=
  let per := if g.tr then 4 else kBlk g.f / 32
  (List.range (kc * per)).foldl (fun acc i =>
    let kb := i / per
    let b := i % per
    let ld := if g.tr then kb * nc + nl else nl * kc + kb
    let a := s.rowBlk g.f row ((k0 + kb) * per + b)
    let base := scr pos (g.w + ld * loadBytes g.f)
    let pan := if g.f.is4 then ld * 2 + (if g.tr then n / 128 else b / 4) else ld
    let p := if g.f = .bf16 then 0x3F800000 else s.ld (scr pos (g.ps + 4 * pan)) 4
    if g.tr then
      -- W^T: each of the 32 columns brings its own block, so the block's exact sum is formed term by term
      let terms := (List.range 32).map fun c =>
        blockTerm g.f (a.one g.f c) ((s.loadBlk g.f base (n / 32) (32 * b + c)).one g.f (n % 32)) p
      accStep acc (fvSum terms)
    else accStep acc (blockTerm g.f a (s.loadBlk g.f base b n) p)) acc

/-- The sum of the members of a reduction gang, level by level (R99). `fuel` bounds the levels. -/
def treeSum : Nat → List Nat → Nat
  | _, [] => 0
  | _, [x] => x
  | 0, x :: _ => x
  | k + 1, xs =>
    let pairs := (List.range ((xs.length + 1) / 2)).map fun i =>
      match xs.drop (2 * i) with
      | a :: b :: _ => fadd32 a b
      | [a] => a
      | [] => 0
    treeSum k pairs

/-- The leaf that holds column block `nb` of a page's result (R98, R100). -/
def State.holder (s : State) : Nat → Nat → Nat → Nat → Nat
  | 0, p, _, _ => instOf p
  | k + 1, p, nc, nb =>
    if typeOf p = .tile then instOf p
    else
      let ms := s.members p
      if s.rd p F.GANG.SPLIT = 0 then
        match (ms.zipIdx.filter fun (_, i) => let (f, c) := deal nc ms.length i; f ≤ nb && nb < f + c) with
        | (m, i) :: _ => let (f, c) := deal nc ms.length i; s.holder k m c (nb - f)
        | [] => 0
      else s.holder k (ms.headD 0) nc nb

/-- The FP32 result of a page's share for column block `nb` (within the share) and column `n` of it (R98, R99, R154): a
member dealt no blocks contributes zero. `arg` says where a leaf finds its operands, as its own scratch has it (R116); a leaf for which it says
nothing reads a group entry of another shape than the leaf that holds the result, and what it then adds R123 leaves open: a free value (log
entry 198). `start` gives the starting accumulator, out[m][n] with ACCUM = 1: that of the leaf that computes the block, and in a reduction of
member 0 alone, whatever the placement (DESIGN CHOICE, log entry 199). -/
def State.gval (s : State) (arg : Nat → Option MmaArg) (row : Nat → Nat) (start : Nat → Nat) :
    Nat → Nat → Nat → Nat → Nat → Nat → Nat → Bool → Nat
  | 0, _, _, _, _, _, _, _ => 0
  | k + 1, p, k0, kc, nc, nb, n, first =>
    if typeOf p = .tile then
      let pos := instOf p
      let acc := if first then start pos else 0
      match arg pos with
      | none => Config.boundChoice 0x123 [pos, nb, n] % 2 ^ 32
      | some g => if kc = 0 || nc = 0 then acc else s.leafAcc g pos (row pos) k0 kc nc nb n acc
    else
      let ms := s.members p
      if s.rd p F.GANG.SPLIT = 0 then
        match (ms.zipIdx.filter fun (_, i) => let (f, c) := deal nc ms.length i; f ≤ nb && nb < f + c) with
        | (m, i) :: _ => let (f, c) := deal nc ms.length i; s.gval arg row start k m k0 kc c (nb - f) n first
        | [] => 0
      else
        treeSum 6 (ms.zipIdx.map fun (m, i) =>
          let (f, c) := deal kc ms.length i
          s.gval arg row start k m (k0 + f) c nc nb n (first && i == 0))

/-- The destinations of a result column under PLACEMENT (R100). -/
def State.placed (s : State) (p place nc nb : Nat) : List Nat :=
  match place with
  | 0 => [s.holder 16 p nc nb]
  | 1 => s.leaves p
  | _ => [s.lead p]

/-- The bytes of an element of a matrix result. -/
def outEsz (d : Nat) : Nat := if dfld d 16 5 1 = 1 then 2 else 4
/-- The columns of a column block of a matrix result (R140). -/
def outCols (f : Fmt) (tr : Bool) : Nat := if tr then kBlk f else 128
/-- Where column block `b` of output row `m` lies (R122). -/
def outOff (d : Nat) (f : Fmt) (tr : Bool) (m b : Nat) : Nat := dfld d 40 0 32 + m * dfld d 44 0 32 + b * outCols f tr * outEsz d
/-- A group of rows with its weights, as a group entry gives it (R123); a DENSE command is one group. -/
structure Group where
  first : Nat
  rows : Nat
  w : Nat
  ps : Nat
  nb : Nat
  kb : Nat
  deriving DecidableEq, Repr
/-- The one group of a DENSE command (R122). -/
def denseGroup (d : Nat) : Group := ⟨0, dfld d 18 0 16, dfld d 32 0 32, dfld d 36 0 32, dfld d 22 0 16, dfld d 20 0 16⟩
/-- Where a leaf with group `y` finds the operands of a result of group `x`: both must name the same rows and blocks. -/
def Group.argFor (x y : Group) (f : Fmt) (tr : Bool) : Option MmaArg :=
  if y.first = x.first && y.rows = x.rows && y.nb = x.nb && y.kb = x.kb then some ⟨f, tr, y.w, y.ps⟩ else none
/-- The column blocks of a group that a leaf holds (R98, R100). -/
def State.heldBlocks (s : State) (p : Nat) (x : Group) (pos : Nat) : List Nat :=
  (List.range x.nb).filter fun b => s.holder 16 p x.nb b == pos
/-- The output ranges of a matrix result (R100, R122); `e` gives the group of each leaf (R116). -/
def State.mmaOuts (s : State) (p d : Nat) (f : Fmt) (tr : Bool) (e : Nat → Group) : List ORange :=
  (s.leaves p).flatMap fun h => (List.range (e h).rows).flatMap fun i => (s.heldBlocks p (e h) h).flatMap fun b =>
    (s.placed p (dfld d 16 6 2) (e h).nb b).map fun pos => (pos, outOff d f tr ((e h).first + i) b, outCols f tr * outEsz d)
/-- The offset of the activation row that output row `m` reads in a leaf (R122). -/
def State.aRow (s : State) (d pos m : Nat) : Nat :=
  dfld d 24 0 32 + (if dfld d 17 0 1 = 1 then s.ld (scr pos (dfld d 48 0 27 + 2 * m)) 2 else m) * dfld d 28 0 32

/-- What the rows of a command have written so far: the state, whether a poisoned word was met, and the segments. -/
abbrev RowAcc := State × Bool × List Seg
/-- Rows of a matrix result are formed and written, for the blocks that leaf `h` holds (R122, R123). -/
def State.mmaLeaf (s0 : State) (p d : Nat) (f : Fmt) (tr : Bool) (e : Nat → Group) (h : Nat) (acc : RowAcc) : RowAcc :=
  let x := e h
  let cols := outCols f tr
  let bf := dfld d 16 5 1 == 1
  (List.range x.rows).foldl (fun acc i => (s0.heldBlocks p x h).foldl (fun acc b =>
    let m := x.first + i
    let off := outOff d f tr m b
    let bytes := (List.range cols).flatMap fun n =>
      let start (pos : Nat) : Nat := if dfld d 16 4 1 = 1 then acc.1.ld (scr pos (off + n * 4)) 4 else 0
      let v := s0.gval (fun pos => x.argFor (e pos) f tr) (fun pos => scr pos (s0.aRow d pos m)) start 16 p 0 x.kb x.nb b n true
      if bf then leBytes 2 (toBf16 (fp32 v)) else leBytes 4 v
    (s0.placed p (dfld d 16 6 2) x.nb b).foldl (fun acc pos =>
      let (t, bad) := acc.1.putOut (scr pos off) bytes
      (t, acc.2.1 || bad, acc.2.2 ++ [(pos, off, cols, if bf then 6 else 5)])) acc) acc) acc
/-- Rows of a matrix result are formed and written in every leaf. -/
def State.mmaRows (s0 : State) (p d : Nat) (f : Fmt) (tr : Bool) (e : Nat → Group) : RowAcc :=
  (s0.leaves p).foldl (fun acc h => s0.mmaLeaf p d f tr e h acc) (s0, false, [])

/-- The shares of a weight operand that are not empty (R98). -/
def State.liveShares (s : State) (p kb nb : Nat) : List (Nat × Nat × Nat × Nat × Nat) :=
  (s.wShares 16 p 0 kb 0 nb).filter fun x => x.2.2.1 * x.2.2.2.2 != 0
/-- Those of a group, each leaf's as its own group entry gives it. -/
def State.groupShares (s : State) (p : Nat) (e : Nat → Group) : List (Nat × Nat × Nat × Nat × Nat) :=
  (s.leaves p).flatMap fun pos => (s.liveShares p (e pos).kb (e pos).nb).filter fun x => x.1 == pos && (e pos).rows != 0
/-- The array loads of a share. -/
def shareLoads (x : Nat × Nat × Nat × Nat × Nat) : Nat := x.2.2.1 * x.2.2.2.2
/-- The activation rows that a group's rows name in a leaf, whole (R114). -/
def State.aRows (s : State) (d : Nat) (f : Fmt) (tr : Bool) (x : Group) (pos : Nat) : List ORange :=
  (List.range x.rows).map fun i => (pos, s.aRow d pos (x.first + i), rowBytes f (x.kb * (if tr then 128 else kBlk f)))
/-- What a group's rows read in a leaf: the row map, the leaf's share of the activation rows, its loads and their scales (R98, R101). -/
def State.mmaReads (s : State) (p d : Nat) (f : Fmt) (tr : Bool) (x : Group) (pos : Nat) : List ORange :=
  let per := if tr then 4 else kBlk f / 32
  ((s.liveShares p x.kb x.nb).filter fun y => y.1 == pos).flatMap fun (_, k0, kc, _, nc) =>
    (if dfld d 17 0 1 = 1 then [(pos, dfld d 48 0 27 + 2 * x.first, 2 * x.rows)] else [])
    ++ ((List.range x.rows).flatMap fun i => (rowParts f (k0 * per) (kc * per)).map fun y => (pos, s.aRow d pos (x.first + i) + y.1, y.2))
    ++ [(pos, x.w, kc * nc * loadBytes f), (pos, x.ps, kc * nc * loadPanels f * 4)]
/-- The checks that a leaf makes on data read while a group runs (R114, R117, R122): the status and the DETAIL_REASON of the first that
fails. -/
def State.rowsFail (s : State) (p d : Nat) (f : Fmt) (tr : Bool) (x : Group) (pos : Nat) : Option (Status × Nat) :=
  let n := span x.rows (dfld d 44 0 32) (x.nb * outCols f tr * outEsz d)
  let live := (s.liveShares p x.kb x.nb).any fun y => y.1 == pos
  if live && (s.aRows d f tr x pos).any (fun y => overlap (outOff d f tr x.first 0) n y.2.1 y.2.2) then some (.badArg, 0x08)
  else if live && (s.aRows d f tr x pos).any (fun y => !(inRegion (s.tl (s.lead p)).regions [1, 2, 3] y.2.1 y.2.2)) then some (.range, 0x09)
  else if s.poisonIn (s.mmaReads p d f tr x pos) then some (.poison, 0x00) else none

/-- A command's array loads pass through the panel buffers of its leaves (R79, R103): `ls` gives for a leaf the number of its loads and the
bytes of each. Which loads the buffers hold afterwards, which of them are complete, and which buffer feeds the array, the spec leaves
open: free values (log entry 37). A page none of whose leaves has a load keeps what it shows. -/
def State.loadBufs (s : State) (p : Nat) (ls : List (Nat × Nat × (Nat → List Byte))) : State :=
  let ls := ls.filter fun x => x.2.1 != 0
  let s := forEach ((s.tree p).filter fun x => (s.leaves x).any fun k => ls.any fun y => y.1 == k) (fun x s =>
    let (v, s) := s.free
    ((s.wr x F.TILE.BUF_A_VALID (v % 2)).wr x F.TILE.BUF_B_VALID (v / 2 % 2)).wr x F.TILE.BUF_ACTIVE (v / 4 % 2)) s
  forEach ls (fun (pos, n, f) s =>
    let (v, s) := s.free
    let held (b : Fld) (i : Nat) : List Byte := if s.on (pg .tile pos) b then f (i % n) else []
    s.setTl pos { s.tl pos with bufs := [held F.TILE.BUF_A_VALID v, held F.TILE.BUF_B_VALID (v / n)] }) s
/-- The array loads of each leaf of a group. -/
def State.wLoads (s : State) (p : Nat) (f : Fmt) (e : Nat → Group) : List (Nat × Nat × (Nat → List Byte)) :=
  (s.groupShares p e).map fun x => (x.1, shareLoads x, fun i => s.ldBytes (scr x.1 ((e x.1).w + i * loadBytes f)) (loadBytes f))

/-- The pairs of tiles between which the reduction network of a page sends partial sums: the leaf of a partner, and that of the member it is
added into (R99). -/
def State.sumHops (s : State) : Nat → Nat → List (Nat × Nat)
  | 0, _ => []
  | k + 1, p =>
    let ms := s.members p
    let at_ (i : Nat) : List Nat := match ms[i]? with | some m => s.leaves m | none => []
    ms.flatMap (s.sumHops k) ++ if s.rd p F.GANG.SPLIT = 0 then [] else
      (List.range 5).flatMap fun j => ((List.range ms.length).filter fun i => i % 2 ^ (j + 1) == 0).flatMap fun i =>
        (at_ (i + 2 ^ j)).zip (at_ i)
/-- The pairs of tiles between which the placement of a matrix result sends its columns (R100). -/
def State.placeHops (s : State) (p d nb : Nat) : List (Nat × Nat) :=
  (List.range nb).flatMap fun b =>
    let h := s.holder 16 p nb b
    ((s.placed p (dfld d 16 6 2) nb b).filter (· != h)).map fun q => (h, q)

/-- A command stops on what its leaves met (R96, R110, R117): the first status in member order, if any. -/
def State.endOn (s : State) (p : Nat) (r : Run) (outs : List ORange) (st : Option (Status × Nat)) (ok : State) : State :=
  match st with
  | none => ok
  | some (.poison, _) => s.finishPoison p r outs
  | some (x, reason) => s.finishFail p r x outs reason

/-- What stops a DENSE command, if anything (R114, R117, R122): the first leaf in member order says it (R96). -/
def State.denseStop (s : State) (p d : Nat) (f : Fmt) (tr : Bool) : Option (Status × Nat) :=
  (s.leaves p).findSome? fun pos => s.rowsFail p d f tr (denseGroup d) pos
/-- The outputs of a DENSE command (R122, R140). -/
def State.denseMade (s : State) (p d : Nat) (f : Fmt) (tr : Bool) : Made :=
  let e (_ : Nat) : Group := denseGroup d
  let (t, bad, segs) := s.mmaRows p d f tr e
  let sh := s.groupShares p e
  { s := (t.allHops (s.sumHops 16 p ++ s.placeHops p d (dfld d 22 0 16))).loadBufs p (t.wLoads p f e), bad := bad
    r0 := sh.length * dfld d 18 0 16, r1 := (sh.map shareLoads).sum, segs := segs }
/-- DENSE, for MMA and TMMA (R122, R140). -/
def State.denseWork (s : State) (p : Nat) (tr : Bool) (r : Run) : State :=
  match s.modeOf p r.d with
  | none => s.finishFail p r .badArg []
  | some f =>
    s.endOn p r (s.mmaOuts p r.d f tr fun _ => denseGroup r.d) (s.denseStop p r.d f tr) ((s.denseMade p r.d f tr).finish p r)

/-- Group entry `i` of a GROUPED command, as a leaf's own scratch holds it (R116, R123). -/
def State.groupEntry (s : State) (d i pos : Nat) : Group :=
  let a := scr pos (dfld d 52 0 27 + 16 * i)
  ⟨s.ld a 2, s.ld (a + 2) 2, s.ld (a + 4) 4, s.ld (a + 8) 4, s.ld (a + 12) 2, s.ld (a + 14) 2⟩

/-- The status and the DETAIL_REASON that a group ends a leaf's share with, if any (R114, R122, R123). -/
def State.groupFail (s : State) (p d : Nat) (f : Fmt) (x : Group) (pos : Nat) : Option (Status × Nat) :=
  let regs := (s.tl (s.lead p)).regions
  let l := ((s.liveShares p x.kb x.nb).filter fun y => y.1 == pos).foldl (fun l y => l + shareLoads y) 0
  let o := outOff d f false x.first 0
  let n := span x.rows (dfld d 44 0 32) (x.nb * 128 * outEsz d)
  if x.rows = 0 then none
  else if 2 ^ 27 ≤ x.w || 2 ^ 27 ≤ x.ps || x.w % 64 != 0 || x.ps % 64 != 0 || dfld d 44 0 32 < x.nb * 128 * outEsz d then some (.badArg, 0x09)
  else if overlap o n x.w (l * loadBytes f) || overlap o n x.ps (l * loadPanels f * 4)
    || (dfld d 17 0 1 = 1 && overlap o n (dfld d 48 0 27) (2 * dfld d 18 0 16)) then some (.badArg, 0x08)
  else if dfld d 18 0 16 < x.first + x.rows then some (.range, 0x09)
  else if !(inRegion regs [1] x.w (l * loadBytes f)) || !(inRegion regs [1] x.ps (l * loadPanels f * 4)) || !(inRegion regs [2, 3] o n) then
    some (.range, 0x09)
  else s.rowsFail p d f false x pos

/-- The output ranges of a GROUPED command: in each leaf those of the groups before one that stops it. -/
def State.groupedOuts (s : State) (p d : Nat) (f : Fmt) : List ORange :=
  (s.leaves p).flatMap fun h =>
    (((List.range (dfld d 56 0 16)).map fun i => s.groupEntry d i h).takeWhile fun x => (s.groupFail p d f x h).isNone).flatMap fun x =>
      s.mmaOuts p d f false fun pos => if pos = h then x else { x with rows := 0 }

/-- What a GROUPED command has done so far: the state, poison met, the segments written, the output ranges, what stopped a leaf, and by leaf
the rows, the loads, the groups skipped and the array steps. -/
structure GroupAcc where
  s : State
  bad : Bool := false
  segs : List Seg := []
  outs : List ORange := []
  stops : List (Nat × Status × Nat) := []
  rows : List (Nat × Nat) := []
  loads : List (Nat × Nat) := []
  skipped : List (Nat × Nat) := []
  steps : List (Nat × Nat) := []

/-- Add to a leaf's count. -/
def tally (l : List (Nat × Nat)) (pos n : Nat) : List (Nat × Nat) := tblInsert pos ((tblFind pos l).getD 0 + n) (tblErase pos l)

/-- The groups in list order (R123): a leaf that a group has stopped applies no further one. A group of no K blocks writes zeros, or leaves the
output as it is with ACCUM = 1, and counts no rows: the model's choice (DESIGN CHOICE, log entry 198). -/
def groupsRun (p d : Nat) (f : Fmt) : Nat → Nat → GroupAcc → GroupAcc
  | 0, _, g => g
  | k + 1, i, g =>
    let going := (g.s.leaves p).filter fun pos => (tblFind pos g.stops).isNone
    let stops := going.filterMap fun pos => (g.s.groupFail p d f (g.s.groupEntry d i pos) pos).map fun x => (pos, x)
    let g := { g with stops := g.stops ++ stops }
    let e (pos : Nat) : Group :=
      let x := g.s.groupEntry d i pos
      if (tblFind pos g.stops).isSome then { x with rows := 0 } else x
    let (t, bad, segs) := g.s.mmaRows p d f false e
    let sh := g.s.groupShares p e
    let hops := g.s.sumHops 16 p ++ g.s.placeHops p d (e (g.s.lead p)).nb
    groupsRun p d f k (i + 1)
      { g with s := ((if sh.isEmpty then t else t.allHops hops).loadBufs p (t.wLoads p f e)), bad := g.bad || bad, segs := g.segs ++ segs,
               outs := g.outs ++ g.s.mmaOuts p d f false e,
               rows := sh.foldl (fun l x => tally l x.1 (e x.1).rows) g.rows,
               loads := sh.foldl (fun l x => tally l x.1 (shareLoads x)) g.loads,
               skipped := (going.filter fun pos => (g.s.groupEntry d i pos).rows == 0).foldl (fun l pos => tally l pos 1) g.skipped,
               steps := sh.foldl (fun l x => tally l x.1 (arraySteps f (shareLoads x) (e x.1).rows)) g.steps }

/-- All groups of a GROUPED command, in list order (R123); a leaf whose list is poisoned applies none (R110). -/
def State.groupedRun (s : State) (p d : Nat) (f : Fmt) : GroupAcc :=
  let bad := (s.leaves p).filter fun pos => s.poisonIn [(pos, dfld d 52 0 27, 16 * dfld d 56 0 16)]
  groupsRun p d f (dfld d 56 0 16) 0 { s := s, stops := bad.map fun pos => (pos, .poison, 0x00) }
/-- What stopped a GROUPED command: the first leaf in member order says it (R96). -/
def State.groupedStop (s : State) (p d : Nat) (f : Fmt) : Option (Status × Nat) :=
  (s.leaves p).findSome? fun pos => tblFind pos (s.groupedRun p d f).stops
/-- The outputs of a GROUPED command. Each leaf's record counts its loads in 24 bits and the skipped groups in 8, and both stop at their
largest value: the model's choice (log entry 175). -/
def State.groupedMade (s : State) (p d : Nat) (f : Fmt) : Made :=
  let g := s.groupedRun p d f
  let sum (l : List (Nat × Nat)) (cap : Nat) : Nat := (l.map fun x => min x.2 cap).sum
  { s := g.s, bad := g.bad, r0 := (g.rows.map (·.2)).sum, r1 := sat32 (sum g.loads (2 ^ 24 - 1) + sum g.skipped 255 * 2 ^ 24)
    segs := g.segs, steps := (g.steps.map (·.2)).foldl max 0 }
/-- GROUPED (R123). -/
def State.groupedWork (s : State) (p : Nat) (r : Run) : State :=
  match s.modeOf p r.d with
  | none => s.finishFail p r .badArg []
  | some f => (s.groupedRun p r.d f).s.endOn p r (s.groupedRun p r.d f).outs (s.groupedStop p r.d f) ((s.groupedMade p r.d f).finish p r)

/-- The element of GRAD for reduction index `k` and column `n`: the sum over rows of X[m][k] × dY[m][n], 32 rows to a
block, each exact sum rounded once (R141, R154). -/
def State.gradVal (s : State) (f : Fmt) (pos d r0 rc k n acc : Nat) : Nat :=
  (List.range ((rc + 31) / 32)).foldl (fun acc b =>
    let terms := (List.range (min 32 (rc - 32 * b))).map fun i =>
      let m := r0 + 32 * b + i
      let x := s.rowBlk f (scr pos (dfld d 24 0 32 + m * dfld d 28 0 32)) (k / 32)
      let y := s.rowBlk f (scr pos (dfld d 32 0 32 + m * dfld d 36 0 32)) (n / 32)
      blockTerm f (x.one f (k % 32)) (y.one f (n % 32)) 0x3F800000
    accStep acc (fvSum terms)) acc

/-- The gradient element of a page (R99, R116): columns are dealt with SPLIT = 0, rows with SPLIT = 1. -/
def State.gradOf (s : State) (f : Fmt) (d : Nat) (start : Nat → Nat) : Nat → Nat → Nat → Nat → Nat → Nat → Nat → Nat → Bool → Nat
  | 0, _, _, _, _, _, _, _, _ => 0
  | j + 1, p, r0, rc, nc, nb, k, n, first =>
    if typeOf p = .tile then s.gradVal f (instOf p) d r0 rc k n (if first then start (instOf p) else 0)
    else
      let ms := s.members p
      if s.rd p F.GANG.SPLIT = 0 then
        match (ms.zipIdx.filter fun (_, i) => let (a, c) := deal nc ms.length i; a ≤ nb && nb < a + c) with
        | (m, i) :: _ => let (a, c) := deal nc ms.length i; s.gradOf f d start j m r0 rc c (nb - a) k n first
        | [] => 0
      else treeSum 6 (ms.zipIdx.map fun (m, i) =>
        let (a, c) := deal rc ms.length i
        s.gradOf f d start j m (r0 + a) c nc nb k n (first && i == 0))

/-- The output ranges of a TGRAD (R116, R141). -/
def State.gradOuts (s : State) (p d : Nat) : List ORange :=
  let nb := dfld d 22 0 16
  (List.range (dfld d 20 0 16 * 128)).flatMap fun k => (List.range nb).map fun b =>
    (s.holder 16 p nb b, dfld d 40 0 32 + k * dfld d 44 0 32 + b * 512, 512)
/-- The bytes of load `i` of a leaf's share of X: 128 rows of one block of 128 columns (R141). -/
def State.xLoad (s : State) (f : Fmt) (pos d r0 rc i : Nat) : List Byte :=
  let kb := dfld d 20 0 16
  (List.range (min 128 (rc - 128 * (i / kb)))).flatMap fun m =>
    (rowParts f (i % kb * 4) 4).flatMap fun x => s.ldBytes (scr pos (dfld d 24 0 32 + (r0 + 128 * (i / kb) + m) * dfld d 28 0 32 + x.1)) x.2

/-- What a TGRAD reads: in each leaf its share of the rows of X and of dY (R141). -/
def State.gradReads (s : State) (p d : Nat) (f : Fmt) : List ORange :=
  (s.liveShares p (dfld d 18 0 16) (dfld d 22 0 16)).flatMap fun (pos, r0, rc, n0, nc) => (List.range rc).flatMap fun i =>
    ((rowParts f 0 (dfld d 20 0 16 * 4)).map fun x => (pos, dfld d 24 0 32 + (r0 + i) * dfld d 28 0 32 + x.1, x.2))
    ++ (rowParts f (n0 * 4) (nc * 4)).map fun x => (pos, dfld d 32 0 32 + (r0 + i) * dfld d 36 0 32 + x.1, x.2)
/-- The outputs of a TGRAD (R141). Each leaf counts the rows of its share, and the loads of X that it takes. -/
def State.gradMade (s : State) (p d : Nat) (f : Fmt) : Made :=
  let rows := dfld d 18 0 16
  let kb := dfld d 20 0 16
  let nb := dfld d 22 0 16
  let sh := s.liveShares p rows nb
  let (t, bad, segs) := (List.range (kb * 128)).foldl (fun acc k => (List.range nb).foldl (fun acc b =>
    let off := dfld d 40 0 32 + k * dfld d 44 0 32 + b * 512
    let bytes := (List.range 128).flatMap fun n =>
      let start (pos : Nat) : Nat := if dfld d 16 4 1 = 1 then acc.1.ld (scr pos (off + n * 4)) 4 else 0
      leBytes 4 (s.gradOf f d start 16 p 0 rows nb b k (b * 128 + n) true)
    let pos := s.holder 16 p nb b
    let (u, x) := acc.1.putOut (scr pos off) bytes
    (u, acc.2.1 || x, acc.2.2 ++ [(pos, off, 128, 5)])) acc) ((s, false, []) : State × Bool × List Seg)
  let loads (x : Nat × Nat × Nat × Nat × Nat) : Nat := (x.2.2.1 + 127) / 128 * kb
  { s := (t.allHops (s.sumHops 16 p)).loadBufs p (sh.map fun x => (x.1, loads x, fun i => s.xLoad f x.1 d x.2.1 x.2.2.1 i)), bad := bad
    r0 := (sh.map (·.2.2.1)).sum, r1 := (sh.map loads).sum, segs := segs }
/-- TGRAD (R141). -/
def State.gradWork (s : State) (p : Nat) (r : Run) : State :=
  match fmtOf (dfld r.d 16 0 4) with
  | none => s.finishFail p r .badArg []
  | some f => if s.poisonIn (s.gradReads p r.d f) then s.finishPoison p r (s.gradOuts p r.d) else (s.gradMade p r.d f).finish p r

end Sys2Proof.Machine
end

