-- ==== Sys2Proof/Machine/Tiers.lean ====
section
/-! DEFINITION. The memory tiers outside the tiles: regions of the local offset space (R33), the GDDR7 channel map (R190,
R191), device errors and the poison table (R192), relocation (R196), the memory-side cache (R197 to R200), the board tier
(R202 to R205). -/

namespace Sys2Proof.Machine

/-- The active option record lets a board-tier port train (R33, R460, BT_CFG). -/
def State.btEnabled (s : State) (k : Nat) : Bool := (s.reg 0 (pg .boot 0) 0x310).getLsbD (8 + 2 * k)

/-- A GMEM after reset. -/
def GmemSt.init : GmemSt := ⟨[], false, false, 0⟩
/-- The GMEM of a number. -/
def State.gm (s : State) (k : Nat) : GmemSt := tblGet (fun _ => GmemSt.init) s.gmems k
/-- Replace it. -/
def State.setGm (s : State) (k : Nat) (x : GmemSt) : State := { s with gmems := tblSet (fun _ => GmemSt.init) s.gmems k x }

/-- A POOL with no configuration. -/
def PoolSt.init : PoolSt := ⟨[(0, 0), (0, 0), (0, 0), (0, 0)], 1024, 256, 64, 64, [], [], [], [], [], [], [], [], none, false⟩
/-- The POOL of a group. -/
def State.pl (s : State) (g : Nat) : PoolSt := tblGet (fun _ => PoolSt.init) s.pools g
/-- Replace it. -/
def State.setPl (s : State) (g : Nat) (x : PoolSt) : State := { s with pools := tblSet (fun _ => PoolSt.init) s.pools g x }

/-- The GMEM numbers whose channels are in the channel list (R190). -/
def State.gmList (s : State) : List Nat := (List.range 20).filter fun k => s.on (pg .gmem k) F.GMEM.IN_LIST
/-- Bytes of a density code's device ÷ 4: its channel (R190). -/
def densityChan (d : Nat) : Nat := nth 0 [16, 24, 32, 48, 64] d * 2 ^ 25
/-- The channel capacity: the smallest trained density (R190). -/
def State.chanCap (s : State) : Nat :=
  match s.gmList.map fun k => densityChan (s.rd (pg .gmem k) F.GMEM.DENSITY) with
  | [] => 0
  | c :: cs => cs.foldl min c
/-- The populated bytes of the GDDR7 region (R190). -/
def State.gddrSize (s : State) : Nat := 4 * s.gmList.length * s.chanCap
/-- The channel and channel-local offset of a GDDR7 offset (R191). -/
def State.gmemMap (s : State) (off : Nat) : Nat × Nat :=
  let l := s.gmList
  let c := 4 * l.length
  let g := off / 1024
  (4 * nth 0 l (g % c / 4) + g % c % 4, g / c * 1024 + off % 1024)
/-- The GMEM that holds a GDDR7 offset. -/
def State.gmemOf (s : State) (off : Nat) : Nat := (s.gmemMap off).1 / 4

/-- The GDDR7 region of R33. -/
def inGddr (a : Nat) : Bool := decide (a < 0x2800000000)
/-- The board-tier windows of R33. -/
def inBoard (a : Nat) : Bool := decide (0x100000000000 ≤ a) && decide (a < 0x140000000000)
/-- The port of a board-tier offset. -/
def btPort (a : Nat) : Nat := if a < 0x120000000000 then 0 else 1
/-- The device of a board-tier offset, and the offset in it (R203). -/
def State.btDev (s : State) (a : Nat) : Nat × Nat :=
  let w := a - (0x100000000000 + btPort a * 0x20000000000)
  if s.on (pg .btier (btPort a)) F.BTIER.BIFURCATED then (w / 0x10000000000, w % 0x10000000000) else (0, w)

/-- What keeps a range of a board-tier device from being reached (R203, R204). -/
def State.devFail (s : State) (p d o n : Nat) : Option Status :=
  if n = 0 then none
  else if 2 ≤ d || s.rd p (F.BTIER.CAP_2M.el d) * 0x200000 < o + n then some .range
  else if s.rd p F.BTIER.DEV_UP / 2 ^ d % 2 = 1 && !s.on p F.COM.ISOLATED then none else some .isolated
/-- What keeps a memory range from being reached (R33, R190, R203, R204): RANGE, ABSENT or ISOLATED; none where it can be. A range may
go on from device 0 of a bifurcated port to device 1. -/
def State.rangeFail (s : State) (a n : Nat) : Option Status :=
  let e := a + n
  if inGddr a then (if e ≤ s.gddrSize then none else some .range)
  else if inScratch a then
    let p := (a - 0x4000000000) / 0x8000000
    if 0x4900000000 < e || (e - 1 - 0x4000000000) / 0x8000000 != p then some .range
    else if absentUnit s.cfg .tile p then some .absent
    else if (a - 0x4000000000) % 0x8000000 + n ≤ sliceBytes then none else some .range
  else if inBoard a then
    let k := btPort a
    let p := pg .btier k
    if 0x100000000000 + (k + 1) * 0x20000000000 < e then some .range
    else if absentPg s.cfg p then some .absent
    else
      let (d, o) := s.btDev a
      let here := if s.on p F.BTIER.BIFURCATED then min n (0x10000000000 - o) else n
      match s.devFail p d o here, s.devFail p (d + 1) 0 (n - here) with
      | none, x => x
      | some .isolated, some .range => some .range
      | x, _ => x
  else some .range

/-- Accesses to a range are held: a GMEM that is retrained in place holds those to its channels by back-pressure (R519). -/
def State.rangeHeld (s : State) (a n : Nat) : Bool :=
  let held (k : Nat) : Bool := s.stored (pg .gmem k) == .reset && s.rd (pg .gmem k) F.GMEM.RELOC_STATE == 0
  inGddr a && s.gmList.any held &&
    (List.range (min ((a + n - 1) / 1024 - a / 1024 + 1) (4 * s.gmList.length))).any fun i => held (s.gmemOf ((a / 1024 + i) * 1024))

/-- The place of a GDDR7 offset in the relocation target of its GMEM (R196). -/
def State.targetAddr (s : State) (a : Nat) : Nat :=
  let (ch, o) := s.gmemMap a
  (s.gm (ch / 4)).target + ch % 4 * s.chanCap + o
/-- RELOC_STATE of the GMEM that holds a GDDR7 offset. -/
def State.relocOf (s : State) (a : Nat) : Nat := s.rd (pg .gmem (s.gmemOf a)) F.GMEM.RELOC_STATE
/-- Where the bytes of a GDDR7 offset are kept: the device, or the relocation target (R196). -/
def State.homeAddr (s : State) (a : Nat) : Nat :=
  if inGddr a then (if 2 ≤ s.relocOf a then s.targetAddr a else a) else a

/-- The 256-byte sectors of a range. -/
def sectors (a n : Nat) : List Nat := if n = 0 then [] else (List.range ((a + n - 1) / 256 - a / 256 + 1)).map (a / 256 + ·)

/-- The accesses to the channels of a GMEM complete with POISON: it has failed since boot, or its relocation target has (R190, R204). -/
def State.deadGmem (s : State) (g : Nat) : Bool :=
  (s.gm g).dead || (s.stored (pg .gmem g) == .offline && s.rd (pg .gmem g) F.GMEM.RELOC_STATE < 2)
/-- A range has bytes in such channels. -/
def State.anyDead (s : State) (a n : Nat) : Bool := inGddr a && (sectors a n).any fun k => s.deadGmem (s.gmemOf (k * 256))

/-- Reading a range of memory completes with POISON (R110, R190, R192, R204). -/
def State.badRead (s : State) (a n : Nat) : Bool :=
  if inGddr a then (sectors a n).any fun k =>
    let g := s.gmemOf (k * 256)
    let x := s.gm g
    x.full || s.deadGmem g || x.table.contains k ||
      (decide (2 ≤ s.rd (pg .gmem g) F.GMEM.RELOC_STATE) && s.anyPoison (s.homeAddr (k * 256)) 256)
  else s.anyPoison a n

/-- The bytes of a memory range. -/
def State.memBytes (s : State) (a : Nat) : Nat → List Byte
  | 0 => []
  | n + 1 => s.byte (s.homeAddr a) :: s.memBytes (a + 1) n
/-- The little-endian number in a memory range. -/
def State.memLd (s : State) (a : Nat) : Nat → Nat
  | 0 => 0
  | n + 1 => (s.byte (s.homeAddr a)).toNat + 256 * s.memLd (a + 1) n
/-- Store bytes where a memory range is kept; while a relocation is COPYING or RETURNING, in both places (R196). -/
def State.memStore (s : State) (a : Nat) : List Byte → State
  | [] => s
  | b :: t =>
    let s := match if inGddr a then s.relocOf a else 0 with
      | 1 => (s.setByte a b).setByte (s.targetAddr a) b
      | 2 => s.setByte (s.targetAddr a) b
      | 3 => (s.setByte a b).setByte (s.targetAddr a) b
      | _ => s.setByte a b
    s.memStore (a + 1) t

/-- A poison-table entry of a GMEM is made (R192): POISON_FULL where there is no room. -/
def State.recordSector (s : State) (k : Nat) : State :=
  let g := s.gmemOf (k * 256)
  let x := s.gm g
  if x.table.contains k then s
  else if x.table.length < 256 then
    (s.setGm g { x with table := x.table ++ [k] }).wr (pg .gmem g) F.GMEM.POISON_USED (x.table.length + 1)
  else (s.setGm g { x with full := true }).setEvt (pg .gmem g) F.EVT.GMEM.POISON_FULL
/-- A write of a whole sector removes its entry (R192). -/
def State.clearSector (s : State) (k : Nat) : State :=
  let g := s.gmemOf (k * 256)
  let x := s.gm g
  let s := if s.rd (pg .gmem g) F.GMEM.RELOC_STATE != 0 then s.markRange (s.targetAddr (k * 256)) 256 false else s
  if x.table.contains k then
    (s.setGm g { x with table := x.table.filter (· != k), full := false }).wr (pg .gmem g) F.GMEM.POISON_USED (x.table.length - 1)
  else s

/-- Write a memory range: the bytes, and the marks of the words (R110) and sectors (R192) that it covers whole. -/
def State.memPut (s : State) (a : Nat) (bs : List Byte) : State :=
  if inGddr a then
    let s := s.memStore a bs
    forEach ((sectors a bs.length).filter fun k => decide (a ≤ k * 256) && decide (k * 256 + 256 ≤ a + bs.length))
      (fun k s => s.clearSector k) s
  else s.put a bs

/-- The I/O die half that is the home of an offset (R32). -/
def State.homeHalf (s : State) (a : Nat) : Nat :=
  if inGddr a then (if s.gmemOf a < 10 then 0 else 1) else if inBoard a then btPort a else (if (a - 0x4000000000) / 0x8000000 < 144 then 0 else 1)

/-- Mark a range poisoned where its home keeps such marks: the poison table for GDDR7, CXL poison for the board tier. -/
def State.poisonMem (s : State) (a n : Nat) : State :=
  if inGddr a then forEach (sectors a n) (fun k s => s.recordSector k) s else s.markRange a n true

/-- The key of a cache set in State.cache. -/
def cacheKey (half set : Nat) : Nat := half * 32768 + set

/-- A line takes its place in a set: it is moved to the front, or allocated into a permitted way, the victim being the least
recently used line of those ways (R198). -/
def cacheTouchSet (l : List CLine) (line mask : Nat) (write : Bool) : List CLine × Bool :=
  match l.find? fun c => c.line == line with
  | some c => ({ c with dirty := c.dirty || write } :: l.filter fun c => c.line != line, true)
  | none =>
    match (List.range 32).find? fun w => mask / 2 ^ w % 2 == 1 && !(l.any fun c => c.way == w) with
    | some w => (⟨line, w, write⟩ :: l, false)
    | none =>
      match (l.filter fun c => mask / 2 ^ c.way % 2 == 1).getLast? with
      | some v => (⟨line, v.way, write⟩ :: l.filter fun c => c.way != v.way, false)
      | none => (l, false)

/-- The access of a line by a request of an allocation class (R197, R198, R199); an isolated half is bypassed (R450). -/
def State.cacheLine (s : State) (line cls : Nat) (write : Bool) : State :=
  let half := s.homeHalf (line * 256)
  let p := pg .mcache half
  if s.on p F.COM.ISOLATED then s else
  let key := cacheKey half (Config.cacheSet line % 32768)
  let mask := s.rd p (F.MCACHE.MASK.el cls)
  let (l, hit) := cacheTouchSet (tblGet (fun _ => []) s.cache key) line mask write
  let s := { s with cache := tblSet (fun _ => []) s.cache key l }
  if hit then s.bump p F.MCACHE.HITS else s.bump p F.MCACHE.MISSES

/-- The reads of a range that the board tier answers with CXL poison are counted, one for each port (R205). -/
def State.cxlReads (s : State) (a n : Nat) : State :=
  let bad (j : Nat) (x m : Nat) : Bool := inBoard x && btPort x == j && s.anyPoison x m
  let hit (j : Nat) : Bool := if inBoard a then bad j a n else inGddr a && (sectors a n).any fun k => bad j (s.homeAddr (k * 256)) 256
  forEach ([0, 1].filter hit) (fun j s => (s.bumpSat (pg .btier j) F.BTIER.POISON_READS).setEvt (pg .btier j) F.EVT.BTIER.POISON) s

/-- A request of an allocation class touches the lines of a GDDR7 or board-tier range (R197); a read that meets CXL poison is counted
(R205). -/
def State.touch (s : State) (a n cls : Nat) (write : Bool) : State :=
  if !(inGddr a || inBoard a) then s else
  let s := forEach (sectors a n) (fun k s => s.cacheLine k cls write) s
  if write then s else s.cxlReads a n
/-- An engine reads ranges of memory one after another, until one that it cannot read (R197, R205). -/
def State.readAll (s : State) (cls : Nat) : List (Nat × Nat) → State
  | [] => s
  | (a, n) :: t =>
    if n = 0 then s.readAll cls t
    else if (s.rangeFail a n).isSome then s
    else
      let u := s.touch a n cls false
      if s.badRead a n then u else u.readAll cls t

/-- A cached line is dirty. -/
def State.lineDirty (s : State) (line : Nat) : Bool :=
  (tblGet (fun _ => []) s.cache (cacheKey (s.homeHalf (line * 256)) (Config.cacheSet line % 32768))).any fun c => c.line == line && c.dirty

/-- Drop the lines of a range from the cache (R200), or a whole range's dirt (write-back). -/
def State.dropLines (s : State) (half a n : Nat) : State :=
  { s with cache := s.cache.filterMap fun (k, l) =>
      let l' := if k / 32768 = half then l.filter fun c => !(decide (a ≤ c.line * 256) && decide (c.line * 256 < a + n)) else l
      if l' = [] then none else some (k, l') }

/-- Write back and drop every line of a half (R450, R545). -/
def State.emptyHalf (s : State) (half : Nat) : State := { s with cache := s.cache.filter fun x => x.1 / 32768 != half }
/-- Write back every dirty line of both halves (R196). -/
def State.cleanAll (s : State) : State :=
  { s with cache := s.cache.map fun (k, l) => (k, l.map fun c => { c with dirty := false }) }

/-- Dirty lines of a half. -/
def State.dirtyCount (s : State) (half : Nat) : Nat :=
  (s.cache.map fun (k, l) => if k / 32768 = half then (l.filter (·.dirty)).length else 0).sum

/-- Capture an error of a unit whose chapter gives no code or no location: the value is free (log entry 4). -/
def State.captureOpen (s : State) (p : Nat) (st : Status) (loc : Nat) : State :=
  let (c, s) := s.free
  s.capture p (c % 256) st loc

/-- A device reports an error on an access of a command (R192, R195, R199, R205). -/
def State.memErr (s : State) (write : Bool) (e : MemErr) : State :=
  match e with
  | .crc off n =>
    if !inGddr off then s else
    let p := pg .gmem (s.gmemOf off)
    let s := s.bumpSat p F.GMEM.CRC_RETRIES (min n 8)
    if n ≤ 8 then (if n = 0 then s else s.setEvt p F.EVT.COM.ERR_CORR)
    else if write then (s.recordSector (off / 256)).setEvt p F.EVT.GMEM.CRC_RETRY_LIMIT
    else
      let s := (s.bumpSat p F.GMEM.UNCORR).recordSector (off / 256)
      ((s.captureOpen p .poison off).setEvt p F.EVT.COM.ERR_UNCORR).dueTest p 0x201 off
  | .corrected off =>
    if !inGddr off then s else
    let p := pg .gmem (s.gmemOf off)
    (s.bumpSat p F.GMEM.ECC_CORR).setEvt p F.EVT.COM.ERR_CORR
  | .severe off =>
    if !inGddr off then s else
    let p := pg .gmem (s.gmemOf off)
    let s := (s.bumpSat p F.GMEM.UNCORR).recordSector (off / 256)
    (((s.captureOpen p .poison off).setEvt p F.EVT.COM.ERR_UNCORR).setEvt p F.EVT.GMEM.SEVERITY).dueTest p 0x201 off
  | .cacheCorr off =>
    if inGddr off || inBoard off then s.setEvt (pg .mcache (s.homeHalf off)) F.EVT.COM.ERR_CORR else s
  | .cacheDouble off =>
    if !(inGddr off || inBoard off) then s else
    let half := s.homeHalf off
    let p := pg .mcache half
    let dirty := s.lineDirty (off / 256)
    let s := s.dropLines half (off / 256 * 256) 256
    if dirty then
      let s := s.poisonMem (off / 256 * 256) 256
      (((s.captureOpen p .poison off).setEvt p F.EVT.MCACHE.DIRTY_UNCORR).setEvt p F.EVT.COM.ERR_UNCORR).dueTest p 0x201 off
    else s.setEvt p F.EVT.COM.ERR_CORR
  | .cxlPoison off =>
    if !inBoard off then s else
    if write then s else s.markRange off 1 true
  | .cxlRecovery off => if inBoard off then s.bumpSat (pg .btier (btPort off)) F.BTIER.LINK_RECOVERIES else s

/-- The errors that devices report on a command's accesses. -/
def State.memErrs (s : State) (write : Bool) (es : List MemErr) : State := forEach es (fun e s => s.memErr write e) s

/-- A read of memory by a request of an allocation class (R33, R190 to R199, R204): its status, its bytes where that is OK. -/
def State.memRead (s : State) (a n cls : Nat) (es : List MemErr := []) : Status × List Byte × State :=
  match s.rangeFail a n with
  | some st => (st, [], s)
  | none =>
    let s := s.memErrs false (es.filter fun e => match e with
      | .crc o _ | .corrected o | .severe o | .cacheCorr o | .cacheDouble o | .cxlPoison o | .cxlRecovery o => decide (a ≤ o) && decide (o < a + n))
    let s := s.touch a n cls false
    if s.badRead a n then (.poison, [], s) else (.ok, s.memBytes a n, s)

/-- A write of memory by a request of an allocation class. One to the channels of a GMEM that has failed completes with POISON (R190). -/
def State.memWrite (s : State) (a : Nat) (bs : List Byte) (cls : Nat) (es : List MemErr := []) : Status × State :=
  match s.rangeFail a bs.length with
  | some st => (st, s)
  | none =>
    let st : Status := if s.anyDead a bs.length then .poison else .ok
    let s := (s.memPut a bs).touch a bs.length cls true
    (st, s.memErrs true (es.filter fun e => match e with
      | .crc o _ | .corrected o | .severe o | .cacheCorr o | .cacheDouble o | .cxlPoison o | .cxlRecovery o =>
        decide (a ≤ o) && decide (o < a + bs.length)))

/-- A range touches the metadata of some POOL; with `rings` false the first 256 KiB, which hold the rings, are left out
(R207). -/
def State.inMeta (s : State) (a n : Nat) (rings : Bool) : Bool :=
  (List.range 8).any fun g =>
    let (b, z) := nth (0, 0) (s.pl g).ranges 3
    let lo := b * 0x200000 + (if rings then 0 else 0x40000)
    z != 0 && overlap a n lo ((b + z) * 0x200000 - lo)

/-- The allocation class of a tile page's own requests (R198); a page that serves no group counts under class 12, which the
spec leaves open, and so do the reads and writes that POOL, STEPSEQ, SQUALL and CONTRAIL make of their own rings, programs, plans and
images (log entry 9). -/
def State.clsOf (s : State) (p : Nat) : Nat := match s.groupOf p with | some g => g | none => 12

end Sys2Proof.Machine
end

