-- ==== Sys2Proof/Machine/Pool.lean ====
section
/-! DEFINITION. POOL (R206 to R218): units, blocks and sequences, APPLY, placement at a step open, eviction and moves, and the
request ring. -/

namespace Sys2Proof.Machine

/-- A unit is 256 KiB. -/
def unitBytes : Nat := 0x40000
/-- The units of a range given in 2 MiB units: first and count. -/
def unitsOf (r : Nat × Nat) : Nat × Nat := (r.1 * 8, r.2 * 8)
/-- A unit lies in a range. -/
def inUnits (r : Nat × Nat) (u : Nat) : Bool := decide (r.1 * 8 ≤ u) && decide (u < (r.1 + r.2) * 8)

/-- The GDDR7 range, the two board-tier ranges and the metadata range of a POOL. -/
def PoolSt.gmR (x : PoolSt) : Nat × Nat := nth (0, 0) x.ranges 0
def PoolSt.btR (x : PoolSt) (k : Nat) : Nat × Nat := nth (0, 0) x.ranges (1 + k)
def PoolSt.metaR (x : PoolSt) : Nat × Nat := nth (0, 0) x.ranges 3

/-- Every unit in use: blocks, the eight units of each claimed weight page, and the destinations of moves. -/
def PoolSt.used (x : PoolSt) : List Nat :=
  x.blocks.map (·.2.loc) ++ (x.pages.flatMap fun p => (List.range 8).map (p.1 * 8 + ·)) ++ x.moves.map (·.dst)
/-- Free units of a range. -/
def PoolSt.freeIn (x : PoolSt) (r : Nat × Nat) : Nat := r.2 * 8 - (x.used.filter (inUnits r)).length
/-- GMEM_FREE (R217). -/
def PoolSt.gmFree (x : PoolSt) : Nat := x.freeIn x.gmR
/-- Free units of a board-tier range whose device is up; a device that is down gives no unit (R204). -/
def State.btFreeOf (s : State) (g k : Nat) : Nat :=
  let x := s.pl g
  if (x.btR k).2 = 0 || s.rangeFail ((x.btR k).1 * 0x200000) 1 != none then 0 else x.freeIn (x.btR k)
/-- BTIER_FREE (R217). -/
def State.btFree (s : State) (g : Nat) : Nat := s.btFreeOf g 0 + s.btFreeOf g 1
/-- A free unit of a range (log entry 12). -/
def State.pickUnit (s : State) (g : Nat) (r : Nat × Nat) : Nat × State :=
  let u := (s.pl g).used
  s.pick 0 ((List.range (r.2 * 8)).filterMap fun i => if u.contains (r.1 * 8 + i) then none else some (r.1 * 8 + i))

/-- A block of the table. -/
def PoolSt.blk (x : PoolSt) (h : Nat) : Option Block := tblFind h x.blocks
/-- Replace a block. -/
def PoolSt.setBlk (x : PoolSt) (h : Nat) (b : Block) : PoolSt := { x with blocks := tblInsert h b (tblErase h x.blocks) }
/-- A block becomes FREE. -/
def PoolSt.freeBlk (x : PoolSt) (h : Nat) : PoolSt :=
  { x with blocks := tblErase h x.blocks, moves := x.moves.filter fun m => m.block != h,
           active := x.active.map fun r => { r with todo := r.todo.filter (· != h) } }
/-- A block loses one reference, and becomes FREE with its last (R212). -/
def PoolSt.unref (x : PoolSt) (h : Nat) : PoolSt :=
  match x.blk h with
  | none => x
  | some b => if b.refs ≤ 1 then x.freeBlk h else x.setBlk h { b with refs := b.refs - 1 }

/-- The local offset of a block. -/
def blockAddr (b : Block) : Nat := b.loc * unitBytes
/-- The slot of a sequence handle (R307). -/
def slotOf (h : Nat) : Nat := h / 2 ^ 19 % 2 ^ 13
/-- The sequence entry of a slot. -/
def PoolSt.sq (x : PoolSt) (slot : Nat) : Option PSeq := tblFind slot x.seqs
/-- Replace a sequence entry. -/
def PoolSt.setSq (x : PoolSt) (q : PSeq) : PoolSt := { x with seqs := tblInsert (slotOf q.handle) q (tblErase (slotOf q.handle) x.seqs) }
/-- The entry that a handle names, if it is open under this incarnation. -/
def PoolSt.find (x : PoolSt) (h : Nat) : Option PSeq := match x.sq (slotOf h) with | some q => if q.handle = h then some q else none | none => none
/-- The key of a map entry (R209). -/
def mapKey (x : PoolSt) (layer i : Nat) : Nat := layer * x.maxBlocks + i
/-- The block handles of a sequence, in map order. -/
def PSeq.handles (q : PSeq) : List Nat := q.map.map (·.2)

/-- What a handle of a request comes to (R216): RANGE, STALE_TAG, or the entry. -/
def PoolSt.judge (x : PoolSt) (h : Nat) : Status ⊕ PSeq :=
  match x.sq (slotOf h) with
  | none => .inl .range
  | some q => if q.handle = h then .inr q
              else if laterThan 19 (q.handle % 2 ^ 19) (h % 2 ^ 19) then .inl .staleTag else .inl .range

/-- The units that a customer's linked blocks occupy in GDDR7 and in all (R209). -/
def PoolSt.account (x : PoolSt) (cust : Nat) : Nat × Nat :=
  let bs := (x.blocks.map (·.2)).filter fun b => b.cust == cust && b.st != .fresh
  ((bs.filter fun b => inUnits x.gmR b.loc).length, bs.length)
/-- A customer's quotas. -/
def PoolSt.quota (x : PoolSt) (cust : Nat) : Nat × Nat := (tblFind cust x.quotas).getD (0xFFFFFFFF, 0xFFFFFFFF)
/-- Units reserved for a customer: its FRESH blocks (R210). -/
def PoolSt.reserved (x : PoolSt) (cust : Nat) : Nat := ((x.blocks.map (·.2)).filter fun b => b.cust == cust && b.st == .fresh).length

/-- The placements of the open step that hold: entry and placement. -/
def OpenStep.placed (o : OpenStep) : List (GEntry × Placed) := (o.grant.entries.zip o.places).filter fun x => x.2.st == .ok
/-- A sequence is placed in the open step. -/
def State.isPlaced (s : State) (g h : Nat) : Bool := match s.openOf g with | some o => o.placed.any fun x => x.1.handle == h | none => false

/-- Copy a range of package memory, with its poison marks, in 256-byte sectors (R214). -/
def State.copyMem (s : State) (src dst n : Nat) (cls : Nat) : State :=
  forEach (List.range ((n + 255) / 256)) (fun i s =>
    let a := src + i * 256
    let b := dst + i * 256
    let k := min 256 (n - i * 256)
    let s := (s.touch a k cls false).touch b k cls true
    if s.badRead a k then s.poisonMem b k else s.memPut b (s.memBytes a k)) s

/-! ### APPLY -/

/-- The staged ranges (R217). -/
def State.stagedRanges (s : State) (g : Nat) : List (Nat × Nat) :=
  (List.range 4).map fun k => let w := s.reg 0 (pg .pool g) (0x100 + 8 * k); (bits w 23 0, bits w 55 32)
/-- Two ranges in 2 MiB units overlap. -/
def rangesMeet (a b : Nat × Nat) : Bool := a.2 != 0 && b.2 != 0 && decide (a.1 < b.1 + b.2) && decide (b.1 < a.1 + a.2)
/-- The relocation targets in force, in 2 MiB units (R196). -/
def State.relocTargets (s : State) : List (Nat × Nat) :=
  (List.range 20).filterMap fun k => if s.rd (pg .gmem k) F.GMEM.RELOC_STATE = 0 then none
    else some ((s.gm k).target / 0x200000, (4 * s.chanCap + 0x1FFFFF) / 0x200000)

/-- The checks of APPLY (R207), in their order. -/
def State.poolCheck (s : State) (g : Nat) : Status :=
  let p := pg .pool g
  let rs := s.stagedRanges g
  let t := s.rd p F.POOL.TOKENS_PER_BLOCK
  let r := s.rd p F.POOL.RECORD_BYTES
  let layers := s.rd p F.POOL.LAYERS_M1 + 1
  let mb := s.rd p F.POOL.MAX_BLOCKS
  let rg (k : Nat) : Nat × Nat := nth (0, 0) rs k
  let fits (k : Nat) : Bool :=
    (rg k).2 = 0 ||
    (let a := (rg k).1 * 0x200000
     let n := (rg k).2 * 0x200000
     if k = 0 || k = 3 then inGddr a && decide (a + n ≤ s.gddrSize)
     else inBoard a && btPort a == k - 1 && (match s.rangeFail a n with | none | some .isolated => true | _ => false))
  let others := ((List.range 8).filter (· != g)).flatMap fun h => (s.pl h).ranges ++ ((s.pl h).next.map (·.1)).getD []
  let meets := (List.range 4).any fun i =>
    (List.range 4).any (fun j => i != j && rangesMeet (rg i) (rg j)) || (others ++ s.relocTargets).any (rangesMeet (rg i))
  let n := ((rg 0).2 + (rg 1).2 + (rg 2).2) * 8
  let need := (unitBytes + 16 * n + 768 * 1024 + 32768 * layers * mb + 0x1FFFFF) / 0x200000
  if [0, 1].any fun k => (rg (1 + k)).2 != 0 && absentPg s.cfg (pg .btier k) then .absent
  else if t < 1 || r < 64 || r % 64 != 0 || unitBytes < t * r || mb < 1 then .badArg
  else if !([0, 1, 2, 3].all fits) then .range
  else if meets then .range
  else if 2 ^ 24 - 1 < n then .range
  else if (rg 3).2 < need then .noSpace else .ok

/-- APPLY (R207): a POOL that is not IDLE, or holds a unit, refuses it before it starts; the checks are part of the action, whose first
failure ends it in APPLY_STATUS and APPLY_DONE, the write having completed OK (R546, log entry 33); then formatting runs. -/
def State.poolApply (s : State) (g : Nat) : State :=
  let p := pg .pool g
  let x := s.pl g
  if s.ust p != .idle || !x.blocks.isEmpty || !x.pages.isEmpty then
    (s.wr p F.POOL.APPLY_STATUS Status.illegalState.code).answer .illegalState
  else
    let st := s.poolCheck g
    let s := s.wr p F.POOL.APPLY_STATUS st.code
    if st != .ok then s.setEvt p F.EVT.POOL.APPLY_DONE
    else
      let s := s.setPl g { x with next := some (s.stagedRanges g, s.rd p F.POOL.TOKENS_PER_BLOCK, s.rd p F.POOL.RECORD_BYTES,
        s.rd p F.POOL.LAYERS_M1 + 1, s.rd p F.POOL.MAX_BLOCKS) }
      ((s.wr p F.POOL.APPLY_BUSY 1).enter p .running).answer .ok

/-- Formatting ends (R207): the configuration is active. -/
def State.poolApplyDone (s : State) (g : Nat) : State :=
  let p := pg .pool g
  match (s.pl g).next with
  | none => s
  | some (rs, t, r, l, m) =>
    let s := s.setPl g { PoolSt.init with ranges := rs, tok := t, recB := r, layers := l, maxBlocks := m }
    (((s.wr p F.POOL.APPLY_BUSY 0).runIff p false)).setEvt p F.EVT.POOL.APPLY_DONE

/-! ### The request ring -/

/-- The local offset of entry `i` of the request ring, and of its record (R215). -/
def PoolSt.reqAddr (x : PoolSt) (i : Nat) : Nat := x.metaR.1 * 0x200000 + i % 4096 * 32
def PoolSt.cplAddr (x : PoolSt) (i : Nat) : Nat := x.metaR.1 * 0x200000 + 0x20000 + i % 4096 * 32

/-- A write of REQ_TAIL (R90, R215). -/
def State.poolTail (s : State) (g v : Nat) : State :=
  let p := pg .pool g
  let d (a b : Nat) : Nat := (a + 65536 - b % 65536) % 65536
  let st := s.ust p
  let no (x : Status) : State := (s.setEvt p F.EVT.POOL.REQ_REFUSED).answer x
  if st != .idle && st != .running && st != .halted then no .illegalState
  else if 4096 < d v (s.rd p F.POOL.CPL_HEAD) || 4096 < d v (s.rd p F.POOL.REQ_TAIL) then no .range
  else s.wr p F.POOL.REQ_TAIL v

/-- A write of CPL_HEAD (R90, R215). -/
def State.poolCplHead (s : State) (g v : Nat) : State :=
  let p := pg .pool g
  let d (a b : Nat) : Nat := (a + 65536 - b % 65536) % 65536
  let old := s.rd p F.POOL.CPL_HEAD
  if s.ust p = .offline then (s.setEvt p F.EVT.POOL.REQ_REFUSED).answer .illegalState
  else if d (s.rd p F.POOL.CPL_TAIL) old < d v old then (s.setEvt p F.EVT.POOL.REQ_REFUSED).answer .range
  else s.wr p F.POOL.CPL_HEAD v

/-- CPL_TAIL passes the records written without a gap (R90). -/
def State.poolAdvance (s : State) (g : Nat) : Nat → State
  | 0 => s
  | n + 1 =>
    let p := pg .pool g
    let c := s.rd p F.POOL.CPL_TAIL
    let x := s.pl g
    if x.ahead.contains c then ((s.setPl g { x with ahead := x.ahead.filter (· != c) }).wr p F.POOL.CPL_TAIL (c + 1)).poolAdvance g n else s

/-- Write the completion record of a request (R215); the RESULT fields of a request that fails are free values (log entry 36). -/
def State.poolRecord (s : State) (g i : Nat) (st : Status) (r0 r1 : Nat) : State :=
  let x := s.pl g
  let a := x.reqAddr i
  let b := x.cplAddr i
  let (v, s) := if st = .ok then (0, s) else s.free
  let (r0, r1) := if st = .ok then (r0, r1) else (v % 2 ^ 32, v / 2 ^ 32)
  let s := (s.touch b 32 12 true).memPut b (leNat8 [(st.code, 1), (s.memLd a 1, 1), (s.memLd (a + 2) 2, 2), (s.memLd (a + 4) 4, 4),
    (r0, 4), (r1, 4), (s.now, 4), (0, 12)])
  let x := s.pl g
  (s.setPl g { x with ahead := x.ahead ++ [i], active := x.active.filter fun r => r.idx != i }).poolAdvance g 4097
where
  /-- Little-endian bytes of (value, width) pairs. -/
  leNat8 (l : List (Nat × Nat)) : List Byte := l.flatMap fun (v, n) => (List.range n).map fun k => BitVec.ofNat 8 (v / 256 ^ k)

/-- Requests from REQ_HEAD to REQ_TAIL. -/
def State.poolWaiting (s : State) (g : Nat) : List Nat :=
  let p := pg .pool g
  if !s.on p F.POOL.REQ_ENABLE then [] else
  (List.range ((s.rd p F.POOL.REQ_TAIL + 65536 - s.rd p F.POOL.REQ_HEAD) % 65536)).map fun k => (s.rd p F.POOL.REQ_HEAD + k) % 65536

/-- The operation, handle and arguments of a request. -/
def State.reqOp (s : State) (g i : Nat) : Nat := s.memLd ((s.pl g).reqAddr i) 1
def State.reqHandle (s : State) (g i : Nat) : Nat := s.memLd ((s.pl g).reqAddr i + 4) 4
def State.reqArg (s : State) (g i k : Nat) : Nat := s.memLd ((s.pl g).reqAddr i + 16 + 4 * k) 4
def State.reqCust (s : State) (g i : Nat) : Nat := s.memLd ((s.pl g).reqAddr i + 8) 2 % 4096
/-- The sequences that a request names (R215). -/
def State.reqNames (s : State) (g i : Nat) : List Nat :=
  let op := s.reqOp g i
  if op = 4 then [s.reqHandle g i, s.reqArg g i 0] else if op = 5 || op = 7 then [] else [s.reqHandle g i]
/-- RSV fields are zero (R216). -/
def State.reqRsvOk (s : State) (g i : Nat) : Bool :=
  let a := (s.pl g).reqAddr i
  s.memLd (a + 1) 1 == 0 && s.memLd (a + 8) 2 / 4096 == 0 && s.memLd (a + 10) 6 == 0 && s.memLd (a + 24) 8 == 0

/-- Requests not yet recorded, with the sequences they name. -/
def State.reqPending (s : State) (g : Nat) : List (Nat × List Nat) :=
  ((s.poolWaiting g).filter fun i => !(s.pl g).started.contains i).map fun i => (i, s.reqNames g i)

/-- A request may start (R215, R216): it waits in the ring, no earlier request names its sequences, and none of them is placed
in the open step. -/
def State.reqReady (s : State) (g i : Nat) : Bool :=
  let ns := s.reqNames g i
  let before := (s.reqPending g).takeWhile fun x => x.1 != i
  (s.reqPending g).any (fun x => x.1 == i)
  && !(before.any fun x => x.2.any ns.contains) && !((s.pl g).active.any fun r => r.names.any ns.contains)
  && !(ns.any (s.isPlaced g)) && (s.ust (pg .pool g) == .idle || s.ust (pg .pool g) == .running || s.ust (pg .pool g) == .draining)

/-- The ring comes into service anew (R217): requests of the old ring end without a record, and their moves run on. -/
def PoolSt.ringClear (x : PoolSt) : PoolSt :=
  { x with started := [], ahead := [], active := x.active.filter fun r => decide (65536 ≤ r.idx)
           moves := x.moves.map fun m => { m with req := m.req.filter fun i => decide (65536 ≤ i) } }
/-- REQ_HEAD passes the requests that have started. -/
def State.poolHead (s : State) (g : Nat) : Nat → State
  | 0 => s
  | n + 1 =>
    let p := pg .pool g
    let h := s.rd p F.POOL.REQ_HEAD
    let x := s.pl g
    if x.started.contains h then
      ((s.setPl g { x with started := x.started.filter (· != h) }).wr p F.POOL.REQ_HEAD (h + 1)).poolHead g n
    else s

/-- Run a request of an operation (R216): `f` does it and gives the state, for which it writes the record or lists the request
as active. An undefined operation, or a reserved bit that is set, ends it with BAD_ARG; a range that cannot be read, with the
status of the read. -/
def State.poolReq (s : State) (g i op : Nat) (f : State → State) : State :=
  if !s.reqReady g i then s else
  let o := s.reqOp g i
  if 1 ≤ o && o ≤ 7 && o != op then s else
  let a := (s.pl g).reqAddr i
  let x := s.pl g
  let s := (((s.setPl g { x with started := x.started ++ [i] }).poolHead g 4097).touch a 32 12 false)
  if s.badRead a 32 then s.poolRecord g i .poison 0 0
  else if o != op || !s.reqRsvOk g i then s.poolRecord g i .badArg 0 0
  else f s

/-! ### Moves -/

/-- Requests that are still owed units of a tier. -/
def PoolSt.owed (x : PoolSt) (up : Bool) : Nat := ((x.active.filter fun r => r.up == up).map (·.todo.length)).sum

/-- Begin a move (R213, R214). -/
def State.moveStart (s : State) (g h : Nat) (dst : Nat) (evict : Bool) (req : Option Nat) : State :=
  let x := s.pl g
  match x.blk h with
  | none => s
  | some b => s.setPl g { (x.setBlk h { b with st := .moving, prior := b.st }) with moves := x.moves ++ [⟨h, dst, evict, req⟩] }

/-- The board-tier port with more free units (R213). -/
def State.btTarget (s : State) (g : Nat) : Nat × State :=
  let a := s.btFreeOf g 0
  let b := s.btFreeOf g 1
  let (k, s) := if a = b then s.pick 0 [0, 1] else (if b < a then 0 else 1, s)
  s.pickUnit g ((s.pl g).btR k)

/-- Start the moves of active requests while moves, units and unpinned blocks allow (R214). -/
def State.poolKick (s : State) (g : Nat) : Nat → State
  | 0 => s
  | n + 1 =>
    let x := s.pl g
    if 64 ≤ x.moves.length || s.stored (pg .pool g) = .halted then s else
    let can (h : Nat) : Bool := match x.blk h with | some b => !b.pin && b.st != .moving && b.st != .lost | none => false
    match x.active.findSome? fun r =>
        if (if r.up then x.gmFree else s.btFree g) = 0 then none else (r.todo.find? can).map fun h => (r, h) with
    | none => s
    | some (r, h) =>
      let (dst, s) := if r.up then s.pickUnit g x.gmR else s.btTarget g
      let x := s.pl g
      let s := s.setPl g { x with active := x.active.map fun q => if q.idx = r.idx then { q with todo := q.todo.erase h } else q }
      (s.moveStart g h dst false (some r.idx)).poolKick g n

/-- A sequence that a request names has a LOST block. -/
def PoolSt.namesLost (x : PoolSt) (names : List Nat) : Bool :=
  names.any fun h => match x.find h with
    | some q => q.handles.any fun b => match x.blk b with | some b => b.st == .lost | none => false
    | none => false
/-- An active request whose blocks have all moved gets its record (R216); a PROMOTE of which a block was lost on the way ends with HOME_LOST
(log entry 195). -/
def State.poolSettle (s : State) (g : Nat) : State :=
  forEach ((s.pl g).active.filter fun r => r.todo.isEmpty && !((s.pl g).moves.any fun m => m.req == some r.idx))
    (fun r s => if r.idx < 65536 then s.poolRecord g r.idx (if r.up && (s.pl g).namesLost r.names then .homeLost else .ok) r.moved 0
                else s.setPl g { s.pl g with active := (s.pl g).active.filter fun q => q.idx != r.idx }) s

/-- The sequences named in grants that STEPSEQ holds. -/
def State.heldNames (s : State) (g : Nat) : List Nat :=
  match tblFind g s.steps with | some x => x.held.flatMap fun gr => gr.entries.map (·.handle) | none => []

/-- The next eviction candidate (R213): sequences in no held grant first, then the oldest LAST_STEP, then the lower handle. -/
def State.candidate (s : State) (g : Nat) : Option Nat :=
  let x := s.pl g
  let held := s.heldNames g
  let busy := (s.reqPending g).flatMap (·.2) ++ x.active.flatMap (·.names)
  let cs := x.blocks.filter fun (_, b) => b.st == .resident && !b.pin && !busy.contains b.owner && !s.isPlaced g b.owner
  if s.btFree g ≤ x.owed false then none
  else
    let better (a b : Nat × Block) : Bool :=
      let ha := held.contains a.2.owner
      let hb := held.contains b.2.owner
      if ha != hb then !ha
      else if a.2.last != b.2.last then laterThan 32 b.2.last a.2.last
      else decide (a.1 < b.1)
    match cs with
    | [] => none
    | c :: t => some (t.foldl (fun m y => if better y m then y else m) c).1

/-- A step open waits for room (R210). -/
def State.openWaits (s : State) (g : Nat) : Bool := match s.openOf g with | some o => o.waiting.isSome | none => false

/-- GMEM_FREE is below FREE_TARGET (R213). A pool without a GDDR7 range is never low (log entry 32). -/
def State.isLow (s : State) (g : Nat) : Bool :=
  decide (0 < (s.pl g).gmR.2) && decide ((s.pl g).gmFree < s.rd (pg .pool g) F.POOL.FREE_TARGET)
/-- EVICT_START (R213): the next candidate starts to move. -/
def State.evictStart (s : State) (g : Nat) : State :=
  let x := s.pl g
  let promote := x.active.any fun r => r.up && !r.todo.isEmpty && x.gmFree == 0
  if !s.on (pg .pool g) F.POOL.EVICT_EN || !s.takesWork (pg .pool g) || !(s.isLow g || s.openWaits g || promote) || 64 ≤ x.moves.length then s
  else match s.candidate g with
    | none => s
    | some h => let (dst, s) := s.btTarget g; s.moveStart g h dst true none
/-- The pool is low and no candidate remains (R213). -/
def State.lowNow (s : State) (g : Nat) : Bool := s.isLow g && (s.candidate g).isNone
/-- Something of a POOL goes on after a command: a request has moves to start or ends, or FREE_LOW is due. -/
def State.poolDue (s : State) (g : Nat) : Bool := !(s.pl g).active.isEmpty || s.lowNow g != (s.pl g).low
/-- Moves start that a commit, an abort, a DROP or a freed unit has made possible (R214, R216), and FREE_LOW is set when a pool comes to
be low with no candidate left (R213). -/
def State.poolPump (s : State) (g : Nat) : State :=
  if !s.poolDue g then s else
  let s := (s.poolKick g 64).poolSettle g
  let now := s.lowNow g
  let was := (s.pl g).low
  let s := s.setPl g { s.pl g with low := now }
  if now && !was then s.setEvt (pg .pool g) F.EVT.POOL.FREE_LOW else s

/-- What the end of a move does to its block (R214). `src` and `dst` say that the device of that side has failed. -/
def State.moveEnd (s : State) (g h : Nat) (src dst : Bool) : State :=
  let x := s.pl g
  match x.moves.find? fun m => m.block == h, x.blk h with
  | some m, some b =>
    let rest := x.moves.filter fun y => y.block != h
    if src then (s.setPl g { (x.setBlk h { b with st := .lost }) with moves := rest }).setEvt (pg .pool g) F.EVT.POOL.BLOCKS_LOST
    else if dst then s.setPl g { (x.setBlk h { b with st := b.prior }) with moves := rest }
    else
      let s := s.copyMem (b.loc * unitBytes) (m.dst * unitBytes) unitBytes 10
      let up := inUnits x.gmR m.dst
      let x := s.pl g
      let x := { (x.setBlk h { b with st := if b.prior = .releasing then .releasing else if up then .resident else .parked, loc := m.dst }) with
        moves := rest, active := x.active.map fun r => if m.req = some r.idx then { r with moved := r.moved + 1 } else r }
      let s := s.setPl g x
      if m.evict then s.bump (pg .pool g) F.POOL.EVICTED else s
  | _, _ => s
/-- A move ends (R214): others start in its place, and requests that it completes end. -/
def State.moveDone (s : State) (g h : Nat) (src dst : Bool) : State :=
  if (s.pl g).moves.any fun m => m.block == h then ((s.moveEnd g h src dst).poolKick g 64).poolSettle g else s
/-- A kill of a POOL (R59): formatting, active requests and moves stop, and a block stays where it was. -/
def State.poolKill (s : State) (g : Nat) : State :=
  let p := pg .pool g
  let s := forEach (s.pl g).moves (fun m s => s.moveEnd g m.block false true) s
  let s := forEach (s.pl g).active (fun r s => if r.idx < 65536 then s.poolRecord g r.idx .killed 0 0 else s) s
  let s := s.setPl g { s.pl g with active := [], next := none }
  if s.on p F.POOL.APPLY_BUSY then ((s.wr p F.POOL.APPLY_BUSY 0).wr p F.POOL.APPLY_STATUS Status.killed.code).setEvt p F.EVT.POOL.APPLY_DONE else s

/-- LAST_STEP of old blocks is brought to the current step − 2^30 (R208). -/
def State.poolAge (s : State) (g now : Nat) : State :=
  let x := s.pl g
  let lim := (now + 2 ^ 32 - 2 ^ 30) % 2 ^ 32
  s.setPl g { x with blocks := x.blocks.map fun (h, b) => (h, if laterThan 32 lim b.last then { b with last := lim } else b) }

/-! ### The operations of R216 -/

/-- PARK. -/
def State.reqPark (s : State) (g i : Nat) : State :=
  let x := s.pl g
  match x.judge (s.reqHandle g i) with
  | .inl st => s.poolRecord g i st 0 0
  | .inr q =>
    let todo := (q.handles.filter fun h => match x.blk h with | some b => b.st == .resident | none => false).eraseDups
    if (x.btR 0).2 + (x.btR 1).2 = 0 then s.poolRecord g i .absent 0 0
    else if s.btFree g < todo.length + x.owed false then s.poolRecord g i .noSpace 0 0
    else ((s.setPl g { x with active := x.active ++ [⟨i, s.reqNames g i, todo, 0, false⟩] }).poolKick g 64).poolSettle g

/-- Blocks that eviction could free for a promotion. -/
def State.evictable (s : State) (g : Nat) : Nat :=
  if !s.on (pg .pool g) F.POOL.EVICT_EN then 0 else
  let x := s.pl g
  let busy := (s.reqPending g).flatMap (·.2) ++ x.active.flatMap (·.names)
  min (s.btFree g - x.owed false)
    (x.blocks.filter fun (_, b) => b.st == .resident && !b.pin && !busy.contains b.owner && !s.isPlaced g b.owner).length

/-- Bring a sequence's parked blocks to GDDR7 as request `i` (65,536 and more: POOL's own, R210). -/
def State.promote (s : State) (g i : Nat) (q : PSeq) (names : List Nat) : Status × State :=
  let x := s.pl g
  let st (h : Nat) : Option BState := (x.blk h).map (·.st)
  let todo := (q.handles.filter fun h => st h == some .parked).eraseDups
  if q.handles.any fun h => st h == some .lost then (.homeLost, s)
  else
    let s1 := s.setPl g { x with active := x.active ++ [⟨i, names, todo, 0, true⟩] }
    if x.gmFree + s1.evictable g < todo.length + x.owed true then (.noSpace, s)
    else (.ok, (s1.poolKick g 64).poolSettle g)

/-- PROMOTE. -/
def State.reqPromote (s : State) (g i : Nat) : State :=
  match (s.pl g).judge (s.reqHandle g i) with
  | .inl st => s.poolRecord g i st 0 0
  | .inr q => match s.promote g i q (s.reqNames g i) with
    | (.ok, s) => s
    | (st, s) => s.poolRecord g i st 0 0

/-- Release every block of a sequence and set its length to 0. -/
def PoolSt.dropSeq (x : PoolSt) (q : PSeq) : PoolSt :=
  (q.handles.foldl (fun x h => x.unref h) x).setSq { q with map := [], len := 0 }

/-- DROP. -/
def State.reqDrop (s : State) (g i : Nat) : State :=
  let x := s.pl g
  match x.judge (s.reqHandle g i) with
  | .inl st => s.poolRecord g i st 0 0
  | .inr q =>
    let y := x.dropSeq q
    (s.setPl g y).poolRecord g i .ok (x.blocks.length - y.blocks.length) 0

/-- A new block in GDDR7 (R208): its handle and location are left to the implementation (log entry 12). -/
def State.newBlock (s : State) (g : Nat) (st : BState) (owner cust : Nat) : Nat × State :=
  let x := s.pl g
  let n := x.blocks.length + 1
  let (h, s) := s.pick 0 ((List.range n).filter fun k => (x.blk k).isNone)
  let (u, s) := s.pickUnit g x.gmR
  (h, s.setPl g ((s.pl g).setBlk h ⟨st, st, u, owner, cust, 1, false, 0⟩))

/-- FORK. -/
def State.reqFork (s : State) (g i : Nat) : State :=
  let x := s.pl g
  match x.judge (s.reqHandle g i), x.judge (s.reqArg g i 0) with
  | .inl st, _ => s.poolRecord g i st 0 0
  | _, .inl st => s.poolRecord g i st 0 0
  | .inr t, .inr src =>
    let l := s.reqArg g i 1
    let full := l / x.tok
    let tails := if l % x.tok = 0 then [] else
      (List.range x.layers).filterMap fun ly => (tblFind (mapKey x ly full) src.map).map fun h => (mapKey x ly full, h)
    if t.len != 0 then s.poolRecord g i .illegalState 0 0
    else if src.len < l then s.poolRecord g i .range 0 0
    else if tails.any fun (_, h) => match x.blk h with | some b => b.st == .lost | none => false then s.poolRecord g i .homeLost 0 0
    else if x.gmFree < tails.length + x.owed true then s.poolRecord g i .noSpace 0 0
    else
      let shared := src.map.filter fun (k, _) => k % x.maxBlocks < full
      let x := shared.foldl (fun x (_, h) => match x.blk h with | some b => x.setBlk h { b with refs := b.refs + 1 } | none => x) x
      let (m, s) := tails.foldl (fun (acc : List (Nat × Nat) × State) (k, h) =>
        let (n, s) := acc.2.newBlock g .resident t.handle t.cust
        let y := s.pl g
        let s := match y.blk h, y.blk n with
          | some a, some b => s.copyMem (blockAddr a) (blockAddr b) (l % x.tok * x.recB) 10
          | _, _ => s
        (tblInsert k n acc.1, s)) (shared, s.setPl g x)
      let x := (s.pl g).setSq { t with len := l, map := m }
      (s.setPl g x).poolRecord g i .ok shared.length tails.length

/-- SET_QUOTA. -/
def State.reqQuota (s : State) (g i : Nat) : State :=
  let x := s.pl g
  let c := s.reqCust g i
  (s.setPl g { x with quotas := tblInsert c (s.reqArg g i 0, s.reqArg g i 1) (tblErase c x.quotas) }).poolRecord g i .ok 0 0

/-- QUERY_SEQ. -/
def State.reqQuerySeq (s : State) (g i : Nat) : State :=
  let x := s.pl g
  match x.judge (s.reqHandle g i) with
  | .inl st => s.poolRecord g i st 0 0
  | .inr q =>
    let bs := q.handles.eraseDups.filterMap x.blk
    let gm := (bs.filter fun b => inUnits x.gmR b.loc).length
    let away := bs.any fun b => b.st == .parked || b.st == .moving || b.st == .lost
    s.poolRecord g i .ok (gm + (if away then 2 ^ 24 else 0)) q.len

/-- QUERY_CUST. -/
def State.reqQueryCust (s : State) (g i : Nat) : State :=
  let (a, b) := (s.pl g).account (s.reqCust g i)
  s.poolRecord g i .ok a b

/-! ### Steps -/

/-- What placing a sequence comes to (R210). -/
inductive Place where
  | done (p : Placed)
  | wait
  deriving DecidableEq, Repr

/-- Blocks per layer that cover a length. -/
def ceilDiv (a b : Nat) : Nat := if b = 0 then 0 else (a + b - 1) / b

/-- POOL places one sequence (R210): `wait` asks for room, and `more` says that the limit of EVICT_WAIT has not passed. What a sequence
that is left out counts is said once the placement of the step stands (`poolLeft`). -/
def State.placeSeq (s : State) (g : Nat) (q : PSeq) (new : Nat) (more : Bool) : Place × State :=
  let p := pg .pool g
  let x := s.pl g
  let st (h : Nat) : Option BState := (x.blk h).map (·.st)
  let away (h : Nat) : Bool := st h == some .parked || st h == some .moving || st h == some .lost
  let lost := q.handles.any fun h => st h == some .lost
  let n1 := ceilDiv (q.len + new) x.tok
  let n0 := ceilDiv q.len x.tok
  let need := x.layers * (n1 - n0)
  let leave (reason : Nat) (s : State) : Place × State := (.done ⟨.deferred, reason, q.len, []⟩, s)
  if x.maxBlocks < n1 then (.done ⟨.range, 0, q.len, []⟩, s)
  else if q.handles.any away then
    let s := if s.on p F.POOL.AUTO_PROMOTE && !lost && !(x.active.any fun r => r.names.contains q.handle)
      then (s.promote g (65536 + slotOf q.handle) q [q.handle]).2 else s
    leave 1 s
  else
    let (gb, tb) := x.account q.cust
    let (gq, tq) := x.quota q.cust
    if gq < gb + x.reserved q.cust + need || tq < tb + x.reserved q.cust + need then leave 2 s
    else if x.gmFree < need then
      if s.on p F.POOL.EVICT_EN && (s.candidate g).isSome && more then (.wait, s) else leave 0 s
    else
      let x := q.handles.foldl (fun x h => match x.blk h with | some b => x.setBlk h { b with pin := true } | none => x) x
      let (fresh, s) := (List.range need).foldl (fun (acc : List Nat × State) _ =>
        let (h, s) := acc.2.newBlock g .fresh q.handle q.cust; (acc.1 ++ [h], s)) ([], s.setPl g x)
      (.done ⟨.ok, 0, q.len, fresh⟩, s)

/-- A sequence has been left out under R210, for the reason code of R263: DEFERRALS counts it, DEFERRED is set where it was deferred, and
QUOTA where its quota held it back (R217, R218, log entry 77). -/
def State.poolLeft (s : State) (g reason : Nat) : State :=
  let p := pg .pool g
  let due : List Nat := [0x01, 0x02, 0x03, 0x07]
  if !(due.contains reason || reason == 0x0A) then s else
  let s := s.bump p F.POOL.DEFERRALS
  let s := if due.contains reason then s.setEvt p F.EVT.POOL.DEFERRED else s
  if reason = 0x02 then s.setEvt p F.EVT.POOL.QUOTA else s
/-- The blocks of a sequence that closes in the step become RELEASING (R208). -/
def State.releaseSeq (s : State) (g : Nat) (q : PSeq) : State :=
  let x := s.pl g
  s.setPl g (q.handles.foldl (fun x h => match x.blk h with
    | some b => if b.refs ≤ 1 && b.st != .releasing then x.setBlk h { b with st := .releasing, prior := b.st } else x
    | none => x) x)

/-- The writable ranges of the open step (R211). -/
def State.writable (s : State) (g : Nat) : List (Nat × Nat) :=
  let x := s.pl g
  match s.openOf g with
  | none => []
  | some o =>
    (x.blocks.filterMap fun (_, b) => if b.st = .fresh then some (blockAddr b, unitBytes) else none) ++
    o.placed.flatMap fun (e, pl) =>
      if pl.ctx % x.tok = 0 then [] else
      match x.find e.handle with
      | none => []
      | some q => (List.range x.layers).filterMap fun ly =>
          ((tblFind (mapKey x ly (pl.ctx / x.tok)) q.map).bind x.blk).bind fun b =>
            if b.refs ≤ 1 then some (blockAddr b + pl.ctx % x.tok * x.recB, (x.tok - pl.ctx % x.tok) * x.recB) else none

/-- POOL's part of a commit for one placed sequence with its new length (R212): fresh blocks below it are linked, the rest
become FREE, pins end, LAST_STEP is the step. -/
def State.commitSeq (s : State) (g : Nat) (q : PSeq) (pl : Placed) (len' step : Nat) : State :=
  let x := s.pl g
  let n0 := ceilDiv pl.ctx x.tok
  let per := if x.layers = 0 then 0 else pl.fresh.length / x.layers
  let n1 := ceilDiv len' x.tok
  let pos (k : Nat) : Nat × Nat := (k / (max per 1), n0 + k % (max per 1))
  let x := q.handles.foldl (fun x h => match x.blk h with | some b => x.setBlk h { b with pin := false, last := step } | none => x) x
  let (x, m) := pl.fresh.zipIdx.foldl (fun (acc : PoolSt × List (Nat × Nat)) (h, k) =>
    let (ly, i) := pos k
    if i < n1 then
      match acc.1.blk h with
      | some b => (acc.1.setBlk h { b with st := .resident, last := step }, tblInsert (mapKey x ly i) h acc.2)
      | none => acc
    else (acc.1.freeBlk h, acc.2)) (x, q.map)
  s.setPl g (x.setSq { q with len := len', map := m })

/-- A sequence that closed in the step leaves POOL (R212). -/
def State.closeSeq (s : State) (g : Nat) (q : PSeq) : State :=
  let x := s.pl g
  let x := q.handles.foldl (fun x h =>
    let x := match x.blk h with | some b => if b.st = BState.releasing then x.setBlk h { b with st := b.prior } else x | none => x
    x.unref h) x
  s.setPl g { x with seqs := tblErase (slotOf q.handle) x.seqs }

/-- POOL's part of an abort (R212). -/
def State.poolAbort (s : State) (g : Nat) : State :=
  let x := s.pl g
  let x := (x.blocks.filter fun (_, b) => b.st == .fresh).foldl (fun x (h, _) => x.freeBlk h) x
  s.setPl g { x with blocks := x.blocks.map fun (h, b) => (h, { b with pin := false, st := if b.st = .releasing then b.prior else b.st }) }

end Sys2Proof.Machine
end

