-- ==== Sys2Proof/Machine/Attn.lean ====
section
/-! DEFINITION. ATTN (R125, R126, R171, R206) and VEC TOPK (R283 to R286). A result with a bound is picked inside it (log entry
2). -/

namespace Sys2Proof.Machine

/-- The arguments of an ATTN. -/
structure AttnArg where
  qk : Fmt
  pv : Fmt
  heads : Nat
  kvh : Nat
  dim : Nat
  recB : Nat
  deriving DecidableEq, Repr

/-- Bytes of an element of an attention format. -/
def attnEsz (f : Fmt) : Nat := if f = .bf16 then 2 else 1
/-- R of a record that POOL does not give: the least (R206, log entry 15). -/
def leastRec (f g : Fmt) (h d : Nat) : Nat :=
  let sc (f : Fmt) : Nat := if f = .bf16 then 0 else h * d / 32
  p64 (h * d * attnEsz f + h * d * attnEsz g + sc f + sc g)

/-- The arguments of an ATTN command of page `p`. -/
def State.attnArg (s : State) (p d : Nat) : AttnArg :=
  let qk := (fmtOf (dfld d 16 0 4)).getD .bf16
  let pv := (fmtOf (dfld d 16 4 4)).getD .bf16
  let kvh := dfld d 21 0 8
  let dim := dfld d 22 0 8 * 32
  ⟨qk, pv, dfld d 20 0 8, kvh, dim, match s.groupOf p with | some g => (s.pl g).recB | none => leastRec qk pv kvh dim⟩

/-- A block of 32 elements of a record (R206): `val` false for keys, true for values; head, block within the head. -/
def State.recBlk (s : State) (g : AttnArg) (a : Nat) (val : Bool) (h b : Nat) : List Fv :=
  let f := if val then g.pv else g.qk
  let base := if val then g.kvh * g.dim * attnEsz g.qk else 0
  let sc0 := g.kvh * g.dim * (attnEsz g.qk + attnEsz g.pv)
  let sc := sc0 + (if val && g.qk != .bf16 then g.kvh * g.dim / 32 else 0)
  let e0 := h * g.dim + 32 * b
  if f = .bf16 then (List.range 32).map fun i => bf16 (s.ld (a + base + 2 * (e0 + i)) 2)
  else dequantBlock f ⟨some (s.byte (a + sc + e0 / 32)).toNat, (List.range 32).map fun i => (s.byte (a + base + e0 + i)).toNat⟩

/-- A block of values brought to a format and back, AMAX and nearest even (R171). -/
def throughFmt (f : Fmt) (xs : List Fv) : List Fv :=
  if f = .bf16 then xs.map fun x => bf16 (toBf16 x)
  else match quantBlock f 0 0 0 0 0 ⟨1, 1⟩ 1 (xs ++ List.replicate (32 - xs.length) .zero) with
    | .blk sc cs _ => (dequantBlock f ⟨some sc, cs⟩).take xs.length
    | .zeroBlk => xs.map fun _ => .zero
    | _ => xs.map fun _ => .nan

/-- The blocks of 32 of a list. -/
def chunks32 {α : Type} (l : List α) : List (List α) := (List.range ((l.length + 31) / 32)).map fun b => (l.drop (32 * b)).take 32

/-- The exact sum of products of two rows, with the sum of the magnitudes of its terms t_b, one for each block of 32 (R169). -/
def dotAbs (xs ys : List Fv) : Fv × Q :=
  let ts := (chunks32 ((xs.zip ys).map fun (x, y) => x.mul y)).map fvSum
  (fvSum ts, qSum ((ts.filter Fv.isFin).map fun t => t.num.abs))

/-- A sum of products within the bound of R169 with D blocks. -/
def pickDot (op : Nat) (key : List Nat) (d : Nat) (xs ys : List Fv) : Nat :=
  let (v, m) := dotAbs xs ys
  pickFv op key v fun _ => Q.mul (gammaQ d) m

/-- The probabilities of a row of logits (R171): FP32 codes. -/
def attnProbs (key : List Nat) (zs : List Fv) : List Nat := softRow 0x111 key zs fun _ z => z

/-- One output row of one head (R125, R171): `kv` gives the record address of a position, `n` positions are attended. -/
def State.attnHead (s : State) (g : AttnArg) (scale : Nat) (q : List Fv) (kvHead : Nat) (kv : Nat → Nat) (n : Nat) : List Nat :=
  let nb := g.dim / 32
  let qh := (chunks32 q).flatMap (throughFmt g.qk)
  let key := q.map toFp32
  let zs := (List.range n).map fun j =>
    let k := (List.range nb).flatMap fun b => s.recBlk g (kv j) false kvHead b
    let l := pickDot 0x110 (key ++ k.map toFp32) nb qh k
    fp32 (toFp32 ((fp32 l).mul (fp32 scale)))
  let ps := ((chunks32 ((attnProbs (zs.map toFp32) zs).map fp32)).flatMap (throughFmt g.pv))
  (List.range g.dim).map fun e =>
    let vs := (List.range n).map fun j => nth .zero (s.recBlk g (kv j) true kvHead (e / 32)) (e % 32)
    pickDot 0x112 (ps.map toFp32 ++ vs.map toFp32) ((n + 31) / 32) ps vs

/-- A row-table entry: CTX_LEN, NEW, Q_ROW, KV_OFF, and the reserved bytes. -/
def State.rowTab (s : State) (pos d i : Nat) : Nat × Nat × Nat × Nat × Nat :=
  let a := scr pos (dfld d 28 0 32 + 16 * i)
  (s.ld a 4, s.ld (a + 4) 2, s.ld (a + 6) 2, s.ld (a + 8) 4, s.ld (a + 12) 4)

/-- Bytes of a query or output row of an ATTN. -/
def AttnArg.rowB (g : AttnArg) : Nat := g.heads * g.dim * 4
/-- The status that a row-table entry ends an ATTN with, if any (R114, R117, R125). -/
def State.attnFail (s : State) (p d pos i : Nat) : Option Status :=
  let g := s.attnArg p d
  let regs := (s.tl (s.lead p)).regions
  let (ctx, new, qr, kv, rsv) := s.rowTab pos d i
  if rsv != 0 || 64 < new || 2 ^ 27 ≤ kv || kv % 64 != 0 then some .badArg
  else if new = 0 then none
  else if !(inRegion regs [1, 2, 3] (dfld d 24 0 32 + qr * g.rowB) (new * g.rowB)) || !(inRegion regs [2] kv ((ctx + new) * g.recB))
    || !(inRegion regs [2, 3] (dfld d 36 0 32 + qr * g.rowB) (new * g.rowB))
    || (dfld d 17 1 1 = 1 && !(inRegion regs [1, 2, 3] (dfld d 32 0 32 + qr * g.recB) (new * g.recB))) then some .range
  else none
/-- The output ranges of a sequence of an ATTN: the output rows, and with APPEND the new records of KV (R125, R126). -/
def State.attnOuts (s : State) (p d : Nat) : List ORange :=
  let g := s.attnArg p d
  (s.rowsAt p (dfld d 18 0 16)).flatMap fun (pos, i) =>
    let (ctx, new, qr, kv, _) := s.rowTab pos d i
    if new = 0 || (s.attnFail p d pos i).isSome then [] else
    (pos, dfld d 36 0 32 + qr * g.rowB, new * g.rowB) :: (if dfld d 17 1 1 = 1 then [(pos, kv + ctx * g.recB, new * g.recB)] else [])
/-- What a sequence of an ATTN reads in its leaf. -/
def State.attnReads (s : State) (p d pos i : Nat) : List ORange :=
  let g := s.attnArg p d
  let (ctx, new, qr, kv, _) := s.rowTab pos d i
  if new = 0 then [] else
  [(pos, dfld d 24 0 32 + qr * g.rowB, new * g.rowB)] ++
    (if dfld d 17 1 1 = 1 then [(pos, kv, ctx * g.recB), (pos, dfld d 32 0 32 + qr * g.recB, new * g.recB)] else [(pos, kv, (ctx + new) * g.recB)])

/-- The status that a sequence ends its leaf's share of an ATTN with, if any (R110, R117). -/
def State.attnStop (s : State) (p d pos i : Nat) : Option Status :=
  if s.poisonIn [(pos, dfld d 28 0 32 + 16 * i, 16)] then some .poison
  else match s.attnFail p d pos i with
    | some st => some st
    | none => if s.poisonIn (s.attnReads p d pos i) then some .poison else none

/-- The array loads of a sequence of an ATTN (R79, R125): their number, and the bytes of each, the keys or the values of one head in a block of
128 positions by 128 elements of the head. Their order is the model's choice (log entry 37). -/
def State.attnLoads (s : State) (g : AttnArg) (pos kv len : Nat) : Nat × (Nat → List Byte) :=
  let np := (len + 127) / 128
  let nd := (g.dim + 127) / 128
  (2 * g.kvh * np * nd, fun i =>
    let h := i / 2 % g.kvh
    let b := i / 2 / g.kvh % np
    let c := i / 2 / g.kvh / np
    let f := if i % 2 = 0 then g.qk else g.pv
    let base := (if i % 2 = 0 then 0 else g.kvh * g.dim * attnEsz g.qk) + (h * g.dim + 128 * c) * attnEsz f
    (List.range (min 128 (len - 128 * b))).flatMap fun j =>
      s.ldBytes (scr pos (kv + (128 * b + j) * g.recB + base)) (min 128 (g.dim - 128 * c) * attnEsz f))
/-- The array steps of a sequence of an ATTN: half of its loads are in QK_MODE and half in PV_MODE (R125). -/
def AttnArg.steps (g : AttnArg) (ctx new : Nat) : Nat :=
  let l := (ctx + new + 127) / 128 * ((g.dim + 127) / 128)
  let m := new * (g.heads / max g.kvh 1)
  g.kvh * (arraySteps g.qk l m + arraySteps g.pv l m)

/-- What stops an ATTN, if anything: the first sequence in member order says it (R96). -/
def State.attnStops (s : State) (p d : Nat) : Option Status := (s.rowsAt p (dfld d 18 0 16)).findSome? fun x => s.attnStop p d x.1 x.2
/-- The outputs of an ATTN (R125, R126). -/
def State.attnMade (s0 : State) (p d : Nat) : Made :=
  let g := s0.attnArg p d
  let causal := dfld d 17 0 1 == 1
  let append := dfld d 17 1 1 == 1
  let live := (s0.rowsAt p (dfld d 18 0 16)).filter fun (pos, i) => (s0.rowTab pos d i).2.1 != 0
  let s1 := if append then forEach live (fun (pos, i) s =>
      let (ctx, new, qr, kv, _) := s0.rowTab pos d i
      s.put (scr pos (kv + ctx * g.recB)) (s0.ldBytes (scr pos (dfld d 32 0 32 + qr * g.recB)) (new * g.recB))) s0 else s0
  let (s, pz, segs, n) := live.foldl (fun (acc : State × Bool × List Seg × Nat) (pos, i) =>
    let (ctx, new, qr, kv, _) := s1.rowTab pos d i
    (List.range new).foldl (fun (acc : State × Bool × List Seg × Nat) j =>
      let len := if causal then ctx + j + 1 else ctx + new
      let qa := scr pos (dfld d 24 0 32 + (qr + j) * g.rowB)
      let out := (List.range g.heads).flatMap fun h =>
        let q := (List.range g.dim).map fun e => fp32 (s1.ld (qa + (h * g.dim + e) * 4) 4)
        (s1.attnHead g (dfld d 40 0 32) q (h / max (g.heads / max g.kvh 1) 1) (fun k => scr pos (kv + k * g.recB)) len).flatMap (leBytes 4)
      let off := dfld d 36 0 32 + (qr + j) * g.rowB
      let (s, b) := acc.1.putOut (scr pos off) out
      (s, acc.2.1 || b, acc.2.2.1 ++ [(pos, off, g.heads * g.dim, 5)], acc.2.2.2 + 1)) acc) (s1, false, [], 0)
  let loads := live.map fun (pos, i) => let (ctx, new, _, kv, _) := s1.rowTab pos d i; (pos, s1.attnLoads g pos kv (ctx + new))
  let steps := live.foldl (fun l (pos, i) => let (ctx, new, _) := s1.rowTab pos d i; tally l pos (g.steps ctx new)) []
  { s := s.loadBufs p loads, bad := pz, r0 := n, r1 := if append then (live.map fun (pos, i) => (s1.rowTab pos d i).2.1).sum else 0
    segs := segs, steps := (steps.map (·.2)).foldl max 0 }
/-- ATTN (R125, R126). -/
def State.attnWork (s : State) (p : Nat) (r : Run) : State :=
  match s.attnStops p r.d with
  | some .poison => s.finishPoison p r (s.attnOuts p r.d)
  | some st => s.finishFail p r st (s.attnOuts p r.d)
  | none => (s.attnMade p r.d).finish p r

/-! ### TOPK -/

/-- A logit ranks above another (R285): the larger value, NaN below −Inf; equal values leave the order to the index. -/
def rankAbove (a b : Fv) : Bool :=
  match a, b with
  | .nan, _ => false
  | _, .nan => true
  | .inf na, .inf nb => nb && !na
  | .inf na, .fin _ _ => !na
  | .fin _ _, .inf nb => nb
  | .fin _ x, .fin _ y => Q.lt y x

/-- The K best of a row, best first, each with its index. -/
def topK : Nat → List (Fv × Nat) → List (Fv × Nat)
  | 0, _ => []
  | _, [] => []
  | k + 1, x :: t =>
    let best := t.foldl (fun m y => if rankAbove y.1 m.1 then y else m) x
    best :: topK k ((x :: t).filter fun y => y.2 != best.2)

/-- The selection of a row: experts and gates (R285). -/
def State.topkRow (s : State) (pos d row : Nat) : List (Nat × Nat) :=
  let ty := dfld d 16 0 4
  let a := scr pos (dfld d 24 0 32 + row * dfld d 40 0 32 * esz ty)
  let sel := topK (dfld d 52 0 8) ((List.range (dfld d 20 0 32)).map fun e => (s.elem ty a e, e))
  let imm := dfld d 44 0 32
  let gates := if (fp32 imm).isZero then sel.map fun x => s.elem32 ty a x.2 else scaledSoft 0x12 (sel.map (·.1)) (fp32 imm)
  (sel.map (·.2)).zip gates

/-- The writes of a router block at `dst` (R284, R286): M, K, E, CAP, the first row and the count of the share, and the share's
rows with their experts and gates. `grp` and `fet` make the GROUPS and FETCHES sections from the counts and the sums of the
counts below. -/
def routerPuts (dst m k e cap lo n : Nat) (rows : List (Nat × List (Nat × Nat))) (grp fet : (Nat → Nat) → (Nat → Nat) → List Byte) :
    List (Nat × List Byte) :=
  let cs := topkOffs e k cap
  let c (i : Nat) : Nat := dst + nth 0 cs (i - 1)
  let asn := (List.range e).flatMap fun x => rows.flatMap fun (row, sel) => sel.zipIdx.filterMap fun ((ex, gt), rk) =>
    if ex = x then some (row, rk, x, gt) else none
  let count (x : Nat) : Nat := (asn.filter fun a => a.2.2.1 == x).length
  let below (x : Nat) : Nat := (asn.filter fun a => decide (a.2.2.1 < x)).length
  let header := leBytes 2 m ++ leBytes 1 k ++ leBytes 1 0 ++ leBytes 2 e ++ leBytes 2 cap ++ leBytes 4 asn.length ++ leBytes 4 lo ++ leBytes 4 n
    ++ (cs.take 7).flatMap (leBytes 4) ++ leBytes 16 0
  [(dst, header), (dst + 64, (List.range e).flatMap fun x => leBytes 2 (count x)), (c 1, grp count below), (c 2, fet count below)]
  ++ rows.map (fun (row, sel) => (c 3 + 128 * row,
      (sel.flatMap fun (x, g) => leBytes 2 x ++ leBytes 2 0 ++ leBytes 4 g) ++ ((List.range (16 - sel.length)).flatMap fun _ => leBytes 2 0xFFFF ++ leBytes 6 0)))
  ++ [(c 4, asn.flatMap fun a => leBytes 2 a.1), (c 5, asn.flatMap fun a => leBytes 4 a.2.2.2)]
  ++ asn.zipIdx.map (fun (a, i) => (c 6 + 2 * cap * a.2.1 + 2 * a.1, leBytes 2 i))
  ++ asn.zipIdx.map (fun (a, i) => (c 7 + 256 * i, leBytes 2 (toBf16 (fp32 a.2.2.2)) ++ leBytes 254 0))

/-- What a leaf's share of a TOPK reads. -/
def topkReads (d lo n : Nat) : List (Nat × Nat) :=
  let e := dfld d 20 0 32
  let es := esz (dfld d 16 0 4)
  ((List.range n).map fun i => (dfld d 24 0 32 + (lo + i) * dfld d 40 0 32 * es, e * es))
  ++ (if dfld d 28 0 32 = 0 then [] else [(dfld d 28 0 32, 64 * e)]) ++ (if dfld d 32 0 32 = 0 then [] else [(dfld d 32 0 32, 16 * e)])
/-- The output range of a TOPK: the router block of each leaf (R284). -/
def State.topkOuts (s : State) (p d : Nat) : List ORange :=
  (s.leaves p).map fun pos => (pos, dfld d 36 0 32, nth 0 (topkOffs (dfld d 20 0 32) (dfld d 52 0 8) (topkCap d)) 7)

/-- The ranges that the shares of a TOPK read. -/
def State.topkInputs (s : State) (p d : Nat) : List ORange :=
  (s.rowShares 16 p 0 (dfld d 18 0 16)).flatMap fun (pos, lo, n) => (topkReads d lo n).map fun x => (pos, x.1, x.2)
/-- The outputs of a TOPK (R283 to R286): the router block of each leaf's share. A watched TOPK passes the statistics of its FP32 gates, the one
part of its output that holds numbers: the model's choice (log entry 179). -/
def State.topkMade (s0 : State) (p d : Nat) : Made :=
  let m := dfld d 18 0 16
  let e := dfld d 20 0 32
  let (s, bad, nans, segs) := (s0.rowShares 16 p 0 m).foldl (fun (acc : State × Bool × Nat × List Seg) (pos, lo, n) =>
    let rows := (List.range n).map fun i => (lo + i, s0.topkRow pos d (lo + i))
    let grp (count below : Nat → Nat) : List Byte := if dfld d 28 0 32 = 0 then leBytes (64 * e) 0 else
      (List.range (4 * e)).flatMap fun j =>
        leBytes 2 (below (j % e)) ++ leBytes 2 (count (j % e)) ++ s0.ldBytes (scr pos (dfld d 28 0 32 + 16 * j + 4)) 12
    let fet (count _ : Nat → Nat) : List Byte := if dfld d 32 0 32 = 0 then leBytes (16 * e) 0 else
      (List.range e).flatMap fun x =>
        s0.ldBytes (scr pos (dfld d 32 0 32 + 16 * x)) 12 ++ (if count x = 0 then leBytes 4 0 else s0.ldBytes (scr pos (dfld d 32 0 32 + 16 * x + 12)) 4)
    let puts := routerPuts (dfld d 36 0 32) m (dfld d 52 0 8) e (topkCap d) lo n rows grp fet
    let (s, b) := puts.foldl (fun (u : State × Bool) x => let (s, b) := u.1.putOut (scr pos x.1) x.2; (s, u.2 || b)) (acc.1, acc.2.1)
    let gates := dfld d 36 0 32 + nth 0 (topkOffs e (dfld d 52 0 8) (topkCap d)) 4
    (s, b, acc.2.2.1 + (rows.flatMap fun x => x.2.filter fun y => (fp32 y.2).isNan).length,
     acc.2.2.2 ++ [(pos, gates, (rows.map fun x => x.2.length).sum, 5)])) (s0, false, 0, [])
  { s := s, bad := bad, r0 := m, r1 := nans, segs := segs }
/-- TOPK (R283 to R286). -/
def State.topkWork (s : State) (p : Nat) (r : Run) : State :=
  if s.poisonIn (s.topkInputs p r.d) then s.finishPoison p r (s.topkOuts p r.d) else (s.topkMade p r.d).finish p r

end Sys2Proof.Machine
end

