-- ==== Sys2Proof/Machine/Wire.lean ====
section
/-! DEFINITION. What links and sessions put on the wire, as bytes and bits (R13, R337 to R345, R418): cyclic redundancy codes (R231, R342), the bytes of a link packet
(R344, R366), the message of a frame with its flits and its tag (R341 to R343), the code and the share of each lane (R341), training blocks
(R338), and the GCT header (R418). -/

namespace Sys2Proof.Machine

/-! ### Cyclic redundancy codes -/

/-- Bit-reverse the low `n` bits. -/
def reflect : Nat → Nat → Nat
  | 0, _ => 0
  | n + 1, x => x % 2 * 2 ^ n + reflect n (x / 2)
/-- Shift the register by one bit. -/
def crcBit (w poly r b : Nat) : Nat :=
  let r2 := r * 2 % 2 ^ w
  if (r / 2 ^ (w - 1) + b) % 2 = 1 then Nat.xor r2 poly else r2
/-- Shift a byte in, most significant bit first. `n` bits are left. -/
def crcBits (w poly : Nat) : Nat → Nat → Nat → Nat
  | 0, _, r => r
  | n + 1, x, r => crcBits w poly n x (crcBit w poly r (x / 2 ^ n % 2))
/-- Shift bytes in. -/
def crcBytes (w poly : Nat) (refin : Bool) : List Byte → Nat → Nat
  | [], r => r
  | b :: t, r => crcBytes w poly refin t (crcBits w poly 8 (if refin then reflect 8 b.toNat else b.toNat) r)
/-- A CRC under the parameter model of R231. -/
def crcOf (w poly init : Nat) (refin refout : Bool) (xorout : Nat) (bs : List Byte) : Nat :=
  let r := crcBytes w (poly % 2 ^ w) refin bs (init % 2 ^ w)
  Nat.xor (if refout then reflect w r else r) (xorout % 2 ^ w)
/-- CRC-32C (R231). -/
def crc32c (bs : List Byte) : Nat := crcOf 32 0x1EDC6F41 0xFFFFFFFF true true 0xFFFFFFFF bs

/-! ### Link packets -/

/-- A number as `n` bytes, most significant byte first (R13). -/
def beBytes (n v : Nat) : List Byte := (leBytes n v).reverse
/-- A field of `n` bytes in a list of field bytes, most significant byte first. -/
def beF (b : List Nat) (o n : Nat) : Nat := ((b.drop o).take n).foldl (fun a x => a * 256 + x % 256) 0
/-- Byte `o` of a packet body, with `n` bytes, most significant first (R366). -/
def hdr (b : List Byte) (o n : Nat) : Nat := beF (b.map BitVec.toNat) o n
/-- The 48-byte header of a transaction (R366): RSV fields are zero. -/
def pktHeader (p : Pkt) : List Byte :=
  let bit (b : Bool) : Nat := if b then 1 else 0
  beBytes 1 p.op ++ beBytes 1 (bit p.tagged * 128 + bit p.combined * 64 + p.srcDom % 8 * 8 + p.dstDom % 8) ++ beBytes 1 (p.dstPkg % 128)
  ++ beBytes 1 (p.srcPkg % 128) ++ beBytes 2 p.job ++ beBytes 1 (p.part % 64) ++ beBytes 1 p.status ++ beBytes 4 p.step ++ beBytes 2 p.gen
  ++ beBytes 1 (p.run % 16 * 8 + p.srcTg % 8) ++ beBytes 1 (p.dstTg % 8) ++ beBytes 2 (p.unit % 4096) ++ beBytes 2 p.tag ++ beBytes 2 p.cmd
  ++ beBytes 2 p.count ++ beBytes 8 p.addr ++ beBytes 4 p.index ++ beBytes 2 (p.len % 8192) ++ beBytes 10 p.ext
/-- The 16-byte units of the link packet of a transaction (R344, R368). -/
def pktUnits (p : Pkt) : Nat := (52 + p.pay.length + 15) / 16
/-- A link packet (R344): its header with START, VC and LEN, the transaction, and zero bytes up to LEN units. -/
def pktBytes (vc : Nat) (p : Pkt) : List Byte :=
  let b := beBytes 1 (128 + vc % 8) ++ beBytes 2 (pktUnits p) ++ beBytes 1 0 ++ pktHeader p ++ p.pay
  b ++ List.replicate (16 * pktUnits p - b.length) 0

/-! ### Frames -/

/-- A flit (R343): KIND, the credits it returns, and its payload, zero bytes after it. -/
def flit (kind crVc crCount : Nat) (pay : List Byte) : List Byte :=
  let b := beBytes 1 (kind % 4 * 64 + crVc % 8 * 8 + crCount % 8) ++ pay.take 255
  b ++ List.replicate (256 - b.length) 0
/-- Payload bytes of a frame (R342). -/
def framePayload : Nat := 1275
/-- The numbered frames that a link packet takes: the model starts each packet in a frame of its own (log entry 10). -/
def LPkt.frames (x : LPkt) : Nat := if x.vc < 8 then (16 * pktUnits x.pkt + framePayload - 1) / framePayload else 1
/-- The DATA flits of part `x.part` of a link packet. -/
def LPkt.dataFlits (x : LPkt) : Nat :=
  if x.vc < 8 then (min framePayload (16 * pktUnits x.pkt - framePayload * x.part) + 254) / 255 else 0
/-- The flits of a numbered frame before it is filled up with IDLE (R343, R347): a control message has its type in `op` and its field bytes as
the payload; a credit return has its VC in `op` and its blocks in `count`, at most 7 in each flit; a packet gives the bytes of its part. -/
def LPkt.flits (x : LPkt) : List (List Byte) :=
  if x.vc = 8 then [flit 2 7 0 (beBytes 1 x.pkt.op ++ x.pkt.pay)]
  else if x.vc = 9 then (List.range ((x.pkt.count + 6) / 7)).map fun i => flit 0 x.pkt.op (min 7 (x.pkt.count - 7 * i)) []
  else
    let b := (pktBytes x.vc x.pkt).drop (framePayload * x.part)
    (List.range x.dataFlits).map fun i => flit 1 7 0 (b.drop (255 * i))
/-- PARITY of a frame (R342): CRC-20 over message bits 0 to 10,259. -/
def framePar (m : List Byte) : Nat := crcBits 20 0x8359D 4 (hdr m 1282 1 / 16) (crcBytes 20 0x8359D false (m.take 1282) 0xFFFFF)
/-- The message of a frame (R341, R342): five flits, IDLE where there are fewer, and the tag with FSEQ, ACK and PARITY. -/
def frameMsg (fseq ack : Nat) (flits : List (List Byte)) : List Byte :=
  let body := (flits ++ List.replicate (5 - flits.length) (flit 0 7 0 [])).flatten
  let tag := fseq % 1024 * 2 ^ 30 + ack % 1024 * 2 ^ 20
  body ++ beBytes 5 (tag + framePar (body ++ beBytes 5 tag))

/-! ### The code and the lanes -/

/-- Multiplication in the field of the code: GF(2^10) modulo x^10 + x^3 + 1 (PRESUMED, log entry 190: R341 takes it from IEEE 802.3). -/
def gfMul (a b : Nat) : Nat :=
  ((List.range 10).foldl (fun (acc : Nat × Nat) i =>
    let r := if b / 2 ^ i % 2 = 1 then Nat.xor acc.1 acc.2 else acc.1
    (r, if 512 ≤ acc.2 then Nat.xor (acc.2 * 2 % 1024) 9 else acc.2 * 2)) (0, a)).1
/-- The generator polynomial: the product of (x − α^i), i = 0 to 29, highest power first, its leading 1 left out (PRESUMED, log entry 190). -/
def rsGen : List Nat :=
  ((List.range 30).foldl (fun (acc : List Nat × Nat) _ =>
    let (g, a) := acc
    (((g ++ [0]).zip (0 :: g.map (gfMul a))).map fun (x, y) => Nat.xor x y, gfMul a 2)) ([1], 1)).1.drop 1
/-- The 30 parity symbols of 514 message symbols: the remainder of the division by the generator polynomial. -/
def rsParity (m : List Nat) : List Nat :=
  m.foldl (fun r x =>
    let f := Nat.xor x (r.headD 0)
    ((r.drop 1 ++ [0]).zip rsGen).map fun (a, g) => Nat.xor a (gfMul f g)) (List.replicate 30 0)
/-- The symbols of a frame's message: 1,028 of 10 bits, in order (R341). -/
def frameSymbols (m : List Byte) : List Nat :=
  (List.range 1028).map fun j => let o := 10 * j; beF ((m.drop (o / 8) ++ [0, 0]).map BitVec.toNat) 0 3 / 2 ^ (14 - o % 8) % 1024
/-- The symbols of a frame on each logical lane, of `w` (R341): symbol t goes on lane t mod w and belongs to codeword g mod 2, at place
(g div 2) × w + t mod w, where g = t div w. -/
def laneShares (w : Nat) (m : List Byte) : List (List Nat) :=
  let sy := frameSymbols m
  let msg (c : Nat) : List Nat := (List.range 514).map fun i => (sy[2 * i + c]?).getD 0
  let cw (c : Nat) : List Nat := msg c ++ rsParity (msg c)
  let c0 := cw 0
  let c1 := cw 1
  (List.range w).map fun k => (List.range (1088 / max w 1)).map fun g => ((if g % 2 = 0 then c0 else c1)[g / 2 * w + k]?).getD 0

/-! ### Training blocks -/

/-- The lane word (R338). -/
def laneWord (phys state preset req : Nat) (ready : Bool) (laneOk count : Nat) : Nat :=
  phys % 16 * 2 ^ 36 + state % 8 * 2 ^ 33 + preset % 16 * 2 ^ 29 + req % 16 * 2 ^ 25 + (if ready then 2 ^ 24 else 0) + laneOk % 512 * 2 ^ 11
  + count % 256
/-- `n` bits of the PRBS31 sequence x^31 + x^28 + 1 from a register on, as a number, first bit first. -/
def prbs31 : Nat → Nat → Nat → Nat
  | 0, _, acc => acc
  | n + 1, r, acc =>
    let b := (r / 2 ^ 30 + r / 2 ^ 27) % 2
    prbs31 n (r * 2 % 2 ^ 31 + b) (acc * 2 + b)
/-- A training block (R338): the marker, the lane word, and 1,280 bits of the lane's PRBS31 sequence. -/
def trainBlock (word seed : Nat) : List Byte := beBytes 5 0x9AF0536CA5 ++ beBytes 5 word ++ beBytes 160 (prbs31 1280 (seed % 2 ^ 31) 0)

/-! ### The GCT header -/

/-- The 40-byte header of a datagram (R418): `plain` and `retx` are the bits PLAIN and RETX. -/
def gctHeader (typ : Nat) (plain retx : Bool) (status session epoch seq ack sack id idx cnt len window count : Nat) : List Byte :=
  beBytes 1 0x10 ++ beBytes 1 typ ++ beBytes 1 ((if plain then 1 else 0) + (if retx then 2 else 0)) ++ beBytes 1 status
  ++ beBytes 2 (session % 4096) ++ beBytes 2 epoch ++ beBytes 4 seq ++ beBytes 4 ack ++ beBytes 4 sack ++ beBytes 4 id
  ++ beBytes 2 (idx % 1024) ++ beBytes 2 ((cnt - 1) % 1024) ++ beBytes 2 (len % 16384) ++ beBytes 2 (window % 512) ++ beBytes 8 count

end Sys2Proof.Machine

namespace Sys2Proof

/-- VERSION and MSG_ID of a setup datagram, and the session that a FINISH names (R418). -/
def Setup.version (d : Setup) : Nat := Machine.hdr d.header 0 1 / 16
def Setup.id (d : Setup) : Nat := Machine.hdr d.header 20 4
def Setup.session (d : Setup) : Nat := Machine.hdr d.header 4 2 % 4096
def Setup.epoch (d : Setup) : Nat := Machine.hdr d.header 6 2
/-- The header of a setup message is whole (R418): 40 bytes, the type `typ`, PLAIN = 1, the upper RSV bits of bytes 24 to 31 zero, and BODY_LEN
that of the body (log entry 191). -/
def Setup.whole (typ : Nat) (d : Setup) : Bool :=
  d.header.length == 40 && Machine.hdr d.header 1 1 == typ && Machine.hdr d.header 2 1 % 2 == 1 && Machine.hdr d.header 24 2 < 1024
  && Machine.hdr d.header 26 2 < 1024 && Machine.hdr d.header 28 2 == d.body.length && Machine.hdr d.header 30 2 < 512
/-- The bytes of the frame that brings a datagram, from destination address to FCS (R415, R416): Ethernet, IP and UDP, the GCT header, the body
and the tag, and 32 bytes of MACsec (PRESUMED, log entry 131). -/
def Via.bytes (v : Via) (body tag : Nat) : Nat :=
  18 + (match v.form with | .ip6 _ => 48 | .ip4 _ => 28 | .raw => 0) + 40 + body + tag + (if v.guard.isSome then 32 else 0)
/-- The fields of a datagram's header (R418). -/
def Dgram.version (d : Dgram) : Nat := Machine.hdr d.header 0 1 / 16
def Dgram.typ (d : Dgram) : Nat := Machine.hdr d.header 1 1
def Dgram.status (d : Dgram) : Nat := Machine.hdr d.header 3 1
def Dgram.session (d : Dgram) : Nat := Machine.hdr d.header 4 2 % 4096
def Dgram.epoch (d : Dgram) : Nat := Machine.hdr d.header 6 2
def Dgram.seq (d : Dgram) : Nat := Machine.hdr d.header 8 4
def Dgram.ack (d : Dgram) : Nat := Machine.hdr d.header 12 4
def Dgram.sack (d : Dgram) : Nat := Machine.hdr d.header 16 4
def Dgram.id (d : Dgram) : Nat := Machine.hdr d.header 20 4
def Dgram.idx (d : Dgram) : Nat := Machine.hdr d.header 24 2 % 1024
def Dgram.cnt (d : Dgram) : Nat := Machine.hdr d.header 26 2 % 1024 + 1
def Dgram.window (d : Dgram) : Nat := Machine.hdr d.header 30 2 % 512
def Dgram.count (d : Dgram) : Nat := Machine.hdr d.header 32 8
/-- The header of a session's datagram is whole (R418): 40 bytes, not PLAIN, the upper RSV bits of bytes 24 to 31 zero, and BODY_LEN that of the
body. What is not is discarded and counted like a datagram whose tag fails (DESIGN CHOICE, log entry 191). -/
def Dgram.whole (d : Dgram) : Bool :=
  d.header.length == 40 && Machine.hdr d.header 2 1 % 2 == 0 && Machine.hdr d.header 24 2 < 1024 && Machine.hdr d.header 26 2 < 1024
  && Machine.hdr d.header 28 2 == d.body.length && d.body.length ≤ 8256 && Machine.hdr d.header 30 2 < 512

end Sys2Proof
end

