-- ==== Sys2Proof/Machine/Link.lean ====
section
/-! DEFINITION. The link layer of a FLINK: sending packets and control messages in frames (R341 to R347, R352, R353), training blocks
(R338), verdicts (R349, R350), and the state of the link (R339, R359, R362). A control message takes one numbered frame, and a packet as
many as it fills (log entry 10). -/

namespace Sys2Proof.Machine

/-- A FLINK that has not trained. -/
def FlinkSt.init : FlinkSt := ⟨0, 0, false, [], [], [0, 0, 0, 0, 0], [0, 0, 0, 0, 0], [], 0, 0, none, none, none, none, [], [], 0, [0, 0, 0, 0, 0],
  [], none, none, List.replicate 9 0, 0, 0, 0, 0, [], false, 0, 0, [], 0x3FF, [0, 0, 0, 0], 3, []⟩
/-- The link layer of a FLINK. -/
def State.fl (s : State) (l : Nat) : FlinkSt := tblGet (fun _ => FlinkSt.init) s.links l
/-- Replace it. -/
def State.setFl (s : State) (l : Nat) (x : FlinkSt) : State := { s with links := tblSet (fun _ => FlinkSt.init) s.links l x }

/-- The states of R339, as LINK_STATE numbers them (R360). -/
inductive LState where
  | down | detect | equalize | align | param | active | quarantined
  deriving DecidableEq, Repr
/-- The code of a link state. -/
def LState.code : LState → Nat
  | .down => 0 | .detect => 1 | .equalize => 2 | .align => 3 | .param => 4 | .active => 5 | .quarantined => 6
/-- The link state of a FLINK. -/
def State.lst (s : State) (l : Nat) : LState :=
  match s.rd (pg .flink l) F.FLINK.LINK_STATE with
  | 1 => .detect | 2 => .equalize | 3 => .align | 4 => .param | 5 => .active | 6 => .quarantined | _ => .down

/-- The unit state that follows from the link state (R362); entering QUARANTINED or OFFLINE sets STATE (R61). -/
def State.flUnit (s : State) (l : Nat) : State :=
  let p := pg .flink l
  if s.stored p = .reset || s.stored p = .test then s
  else if !s.on p F.FLINK.ENABLE then s.enter p .offline
  else match s.lst l with
    | .active => s.enter p .running
    | .quarantined => s.enter p .quarantined
    | _ => s.enter p .idle

/-- Enter a link state. -/
def State.flEnter (s : State) (l : Nat) (x : LState) : State :=
  ((s.wr (pg .flink l) F.FLINK.LINK_STATE x.code).setFl l { s.fl l with stateAt := s.now }).flUnit l

/-! ### Sending frames -/

/-- A frame goes out (R341, R345): every frame carries the current ACK. Each lane of the map takes its share, and a mirrored lane's share goes
on the spare as well (R356). `v3` counts its VC3 bytes. -/
def State.flEmit (s : State) (l fseq : Nat) (flits : List (List Byte)) (v3 : Nat) : State :=
  let f := s.fl l
  let ack := (f.expect + 1023) % 1024
  let m := frameMsg fseq ack flits
  let sh := laneShares f.txMap.length m
  let twin := match f.txMirror, f.txSpare with
    | some k, some sp => (sh[k]?).toList.map fun x => (sp, x)
    | _, _ => []
  (s.setFl l { f with ackSent := ack, hist := (v3 :: f.hist).take 52 }).emit (.frame l m (f.txMap.zip sh ++ twin))
/-- A numbered frame goes out, the first time or again. -/
def State.flOut (s : State) (l fseq : Nat) (x : LPkt) : State :=
  (s.bump (pg .flink l) F.FLINK.DATA_FLITS_TX x.dataFlits).flEmit l fseq x.flits
    (if x.vc = 3 then min framePayload (16 * pktUnits x.pkt - framePayload * x.part) else 0)
/-- A filler frame (R345): IDLE, with the FSEQ of the last numbered frame, 0x3FF before the first. Fillers that would repeat the last frame's
ACK and FSEQ are not shown (DESIGN CHOICE, log entry 187). -/
def State.flFiller (s : State) (l : Nat) : State := s.flEmit l (((s.fl l).txNext + 1023) % 1024) [] 0
/-- What waits for a numbered frame goes while fewer than 511 await acknowledgement (R345). -/
def State.flDrain (s : State) (l : Nat) : Nat → State
  | 0 => s
  | n + 1 =>
    let f := s.fl l
    match f.ready with
    | [] => s
    | x :: rest =>
      if 511 ≤ f.sent.length then s
      else
        let s := s.setFl l { f with ready := rest, txNext := (f.txNext + 1) % 1024, sent := f.sent ++ [(f.txNext, 1, x)],
                                    ackAt := if f.sent.isEmpty then s.now else f.ackAt }
        (s.flOut l f.txNext x).flDrain l n
/-- A packet, a control message or a credit return takes the next numbered frames (R345). -/
def State.flFrame (s : State) (l : Nat) (x : LPkt) : State :=
  let f := s.fl l
  let q := f.ready ++ (List.range x.frames).map fun i => { x with part := i }
  (s.setFl l { f with ready := q }).flDrain l q.length

/-- Send a LINK_CTRL message (R347). -/
def State.flCtrl (s : State) (l typ : Nat) (bytes : List Nat) : State :=
  s.flFrame l { vc := 8, inl := none, pkt := { op := typ, pay := bytes.map (BitVec.ofNat 8 ·) } }

/-- The VC3 bytes among the last 65,536 payload bytes (R353): 51 frames and the last 511 bytes of the one before, of which VC3 has the first. -/
def recentVc3 (hist : List Nat) : Nat := (hist.take 51).sum + (nth 0 hist 51 - (framePayload - (65536 - 51 * framePayload)))
/-- Deficit round robin over VC0 to VC3 (R353): `head` gives the bytes of the packet that a VC may start, `has` whether it holds one, `quantum`
what its deficit gains in a round. The chosen VC, with the deficits and the turn that follow. -/
def drrPick (head : Nat → Option Nat) (has : Nat → Bool) (quantum : Nat → Nat) : Nat → List Nat → Nat → Option (Nat × List Nat × Nat)
  | 0, _, _ => none
  | n + 1, d, t =>
    let go := match head t with | some z => decide (z ≤ nth 0 d t) | none => false
    if go then some (t, setNth (nth 0 d t - (head t).getD 0) d t, t)
    else
      let u := (t + 1) % 4
      let d := if !has u then setNth 0 d u else if (head u).isSome then setNth (nth 0 d u + quantum u) d u else d
      drrPick head has quantum n d u
/-- What a VC's deficit gains in a round: 1,024 bytes for each unit of its weight (DESIGN CHOICE, log entry 189); VC3 has the weight of VC1. -/
def State.vcQuantum (s : State) (l vc : Nat) : Nat :=
  let p := pg .flink l
  1024 * (if vc = 0 then s.rd p F.FLINK.W_VC0 else if vc = 2 then s.rd p F.FLINK.W_VC2 else s.rd p F.FLINK.W_VC1)
/-- Start every packet that credits, weights and the replay window allow (R345, R352, R353). Where only VC3's cap holds a packet back, IDLE
frames pass until it allows it. `n` bounds the frames. -/
def State.flPump (s : State) (l : Nat) : Nat → State
  | 0 => s
  | n + 1 =>
    let f := s.fl l
    if (s.lst l != .active && s.lst l != .quarantined) || 511 ≤ f.sent.length || !f.ready.isEmpty then s else
    let first (vc : Nat) : Option LPkt := f.unsent.find? fun x => x.vc == vc
    let fits (x : LPkt) : Bool := decide (pktUnits x.pkt ≤ nth 0 f.credits x.vc)
    let share := s.rd (pg .flink l) F.FLINK.TRANSIT_SHARE * 1024
    let cap := decide (recentVc3 f.hist < share)
    let head (vc : Nat) : Option Nat := match first vc with
      | some x => if fits x && (vc != 3 || cap) then some (16 * pktUnits x.pkt) else none
      | none => none
    let start (x : LPkt) (f : FlinkSt) : State :=
      s.setFl l { f with unsent := f.unsent.erase x, credits := setNth (nth 0 f.credits x.vc - pktUnits x.pkt) f.credits x.vc }
    match (first 4).filter fits with
    | some x => ((start x f).flFrame l x).flPump l n
    | none =>
      if s.lst l != .active then s else
      match drrPick head (fun v => (first v).isSome) (s.vcQuantum l) 32 f.deficit f.turn with
      | some (vc, d, t) =>
        match first vc with
        | some x => ((start x { f with deficit := d, turn := t }).flFrame l x).flPump l n
        | none => s
      | none =>
        if !cap && share != 0 && ((first 3).any fits) then (s.flFiller l).flPump l n else s
/-- IDLE frames have gone out since the last frame shown, and count as sent under VC3's cap (R353): how many is time, a free value (log entry
189). -/
def State.flIdled (s : State) (l : Nat) : State :=
  if !((s.fl l).unsent.any fun x => x.vc == 3) || (s.fl l).hist.all (· == 0) then s
  else
    let (n, s) := s.free
    s.setFl l { s.fl l with hist := (List.replicate (n % 53) 0 ++ (s.fl l).hist).take 52 }
/-- Start what may start now. -/
def State.flGo (s : State) (l : Nat) : State :=
  let s := s.flIdled l
  s.flPump l (53 * ((s.fl l).unsent.length + 1))

/-- Queue a packet on a link; `inl` is the link on which it came. -/
def State.flSend (s : State) (l vc : Nat) (inl : Option Nat) (p : Pkt) : State :=
  let f := s.fl l
  (s.setFl l { f with unsent := f.unsent ++ [{ vc := vc, inl := inl, pkt := p }] }).flGo l

/-- A frame is acknowledged: the frames up to FSEQ `a` leave the replay buffer (R342, R346). -/
def State.flAck (s : State) (l a : Nat) : State :=
  let f := s.fl l
  let keep := f.sent.filter fun x => !(decide ((a + 1024 - x.1) % 1024 ≤ 511))
  ((s.setFl l { f with sent := keep, ackAt := if keep.length < f.sent.length then s.now else f.ackAt }).flDrain l f.ready.length).flGo l

/-- A link that a command names is present. -/
def State.flHas (s : State) (l : Nat) : Bool := decide (l < 24) && !absentUnit s.cfg .flink l
/-- Frames are decoded in both directions (R341). -/
def State.flFramed (s : State) (l : Nat) : Bool := s.lst l == .param || s.lst l == .active || s.lst l == .quarantined
/-- The receiver frees the buffer space of a packet; credits go back in blocks of 16 units (R352), at most 7 in a flit, so that a frame takes
35 (R343). -/
def State.flFree (s : State) (l vc : Nat) : State :=
  let f := s.fl l
  let n := nth 0 f.rxUsed vc
  if n < 16 then s
  else
    let blocks := n / 16
    forEach (List.range ((blocks + 34) / 35)) (fun i s =>
      s.flFrame l { vc := 9, inl := none, pkt := { op := vc, count := min 35 (blocks - 35 * i) } })
      (s.setFl l { f with rxUsed := setNth (n % 16) f.rxUsed vc })

/-- Training blocks go out on lanes (R338), one on each for every change of what they say; how many pass is time (DESIGN CHOICE, log entry
187). `state` is STATE, `ready` RX_READY; `ask` says that the receiver asks for presets. BLOCK_COUNT, where it is not given, the presets asked
for and the place in the PRBS31 sequence are free (log entry 4). -/
def State.flBlocks (s : State) (l : Nat) (lanes : List Nat) (state : Nat) (ready ask : Bool) (count : Option Nat := none) : State :=
  let (c, s) := s.free
  forEach lanes (fun k s =>
    let (r, s) := s.free
    let (seed, s) := s.free
    let f := s.fl l
    s.emit (.train l k (trainBlock (laneWord k state (nth 0 f.txPreset k) (if ask then r % 16 else 15) ready f.laneOk (count.getD c)) seed))) s

/-- TRUNK, WIDTH4_EN and PROTO_CAP as the last training took them (R361). -/
def State.trunk (s : State) (l : Nat) : Bool := (s.fl l).cfg / 2 % 2 == 1
def State.width4 (s : State) (l : Nat) : Bool := (s.fl l).cfg / 8 % 2 == 1
def State.protoCap (s : State) (l : Nat) : Nat := (s.fl l).cfg / 256 % 16
/-- The receive buffer of a VC, in 16 KiB units, as the last training took it (R352, R361). -/
def State.rxBuf (s : State) (l vc : Nat) : Nat := (s.fl l).alloc / 256 ^ vc % 256

/-- Two ends with these announced revisions are compatible (R350). -/
def revOk (a b : Nat) : Bool := decide (a - b ≤ 1) && decide (b - a ≤ 1)
/-- Byte 3 of IDENT_ACK (R347): the negotiated revision; where there is none the spec gives the byte no value, and it is free (log entry 188). -/
def State.ackRev (s : State) (l rev : Nat) : Nat × State :=
  if revOk (s.protoCap l) rev then (min rev (s.protoCap l), s) else let (v, s) := s.free; (v % 256, s)
/-- The verdict on an IDENT (R349, R350): revision, expectation, identity, trunk. `rev`, `appl`, `link` and `trunk` are the
received values. -/
def State.verdict (s : State) (l rev appl link trunk : Nat) : Nat :=
  let p := pg .flink l
  let a := s.protoCap l
  if !revOk a rev then 3
  else if !s.on p F.FLINK.EXP_VALID then 2
  else if appl != s.rd p F.FLINK.EXP_APPL_PKG || link != s.rd p F.FLINK.EXP_LINK then 1
  else if trunk != (if s.trunk l then 1 else 0) then 4 else 0

/-- The shared registers of the FROUTERs are kept on page 0 (R386, R412). -/
def frp : Nat := pg .frouter 0
/-- The package index of this package (R412). -/
def State.pkgIdx (s : State) : Nat := s.rd frp F.FROUTER.PKG_INDEX
/-- The memory domain of this package. -/
def State.ownDom (s : State) : Nat := s.rd frp F.FROUTER.OWN_DOMAIN
/-- The appliance package number of this package. -/
def State.applNum (s : State) : Nat := s.rd frp F.FROUTER.APPL_PKG_NUMBER

/-- Send the IDENT of this end (R348). -/
def State.sendIdent (s : State) (l : Nat) : State :=
  let p := pg .flink l
  let a := s.protoCap l
  let be (n : Nat) : List Nat := [n / 256, n % 256]
  s.flCtrl l 0x01 ([a + 16 * (a - 1), (s.fl l).cfg / 2 % 2 + 2 * ((s.fl l).cfg / 8 % 2)] ++ be s.applNum
    ++ [s.pkgIdx, l] ++ be (s.rd p F.FLINK.EXP_APPL_PKG) ++ [s.rd p F.FLINK.EXP_LINK + 128 * s.rd p F.FLINK.EXP_VALID]
    ++ (List.range 5).map (s.rxBuf l) ++ be 511)

/-- The link leaves PARAM or QUARANTINED by its two verdicts (R349, R351). -/
def State.flJudge (s : State) (l : Nat) : State :=
  let p := pg .flink l
  let f := s.fl l
  match f.own, f.far with
  | some o, some r =>
    if o = 0 && r = 0 then
      if s.lst l = .active then s
      else ((s.wr p F.FLINK.QUAR_CAUSE 0).flEnter l .active |>.setEvt p F.EVT.FLINK.LINK_UP).flGo l
    else
      let cause := if o = 0 then 5 else o
      let was := s.lst l
      let s := (s.wr p F.FLINK.QUAR_CAUSE cause).flEnter l .quarantined
      if was = .quarantined then s else s.setEvt p F.EVT.FLINK.QUARANTINE
  | _, _ => s

/-- A new verdict on the last IDENT is reached and sent (R351). -/
def State.reJudge (s : State) (l : Nat) : State :=
  let p := pg .flink l
  let v := s.verdict l (s.rd p F.FLINK.ACT_REV) (s.rd p F.FLINK.ACT_APPL_PKG) (s.rd p F.FLINK.ACT_LINK) (s.rd p F.FLINK.ACT_TRUNK)
  let (r, s) := (s.setFl l { s.fl l with own := some v }).ackRev l (s.rd p F.FLINK.ACT_REV)
  (s.flCtrl l 0x02 [v, r]).flJudge l

end Sys2Proof.Machine
end

