-- ==== Sys2Proof/Machine/Route.lean ====
section
/-! DEFINITION. Routing (R391 to R400, R403 to R405), partition membership (R409) and the fields of the transaction header
that a router reads or writes (R365 to R368). -/

namespace Sys2Proof.Machine

/-- The virtual channel of an opcode (R365); none for an opcode that is not in the table. -/
def vcOf (op : Nat) : Option Nat :=
  if 1 ≤ op && op ≤ 7 then some 0
  else if op = 0x21 || op = 0x22 || op = 0x23 || op = 0x26 || op = 0x27 then some 1
  else if 0x40 ≤ op && op ≤ 0x43 then some 2
  else if 0x60 ≤ op && op ≤ 0x64 then some 4 else none

/-- The opcode is a request of VC0 or a message of VC2 that is answered (R365, R403). -/
def isRequest (op : Nat) : Bool := decide (1 ≤ op) && decide (op ≤ 6) || decide (0x40 ≤ op) && decide (op ≤ 0x42)

/-- The opcode of the answer to a request (R365). -/
def answerOp (op : Nat) : Nat :=
  match op with
  | 0x01 => 0x21 | 0x06 => 0x26 | 0x07 => 0x27 | 0x40 | 0x41 | 0x42 => 0x43 | 0x62 | 0x63 => 0x64
  | _ => 0x22

/-- The answer to a request (R366): the fields copied, the domains and packages exchanged. -/
def answerTo (p : Pkt) (st : Status) (pay : List Byte := []) : Pkt :=
  { p with op := answerOp p.op, srcDom := p.dstDom, dstDom := p.srcDom, srcPkg := p.dstPkg, dstPkg := p.srcPkg,
           status := st.code, len := pay.length, pay := pay, ext := 0, rsv := 0 }

/-- A package is a member of a partition on this package (R409): the partition is not OFFLINE and the MEMBERS bit is 1. -/
def State.isMember (s : State) (part pkg : Nat) : Bool :=
  let p := pg .partition part
  s.ust p != .offline && s.ust p != .absent &&
    (if pkg < 64 then s.rd p F.PARTITION.MEMBERS0 else s.rd p F.PARTITION.MEMBERS1) / 2 ^ (pkg % 64) % 2 == 1

/-- LINK_OWNER of a link (R396, R412): partition, and PRIVATE. -/
def State.owner (s : State) (l : Nat) : Nat × Bool :=
  let b := s.rd frp (F.FROUTER.LINK_OWNER.el (l / 8)) / 256 ^ (l % 8) % 256
  (b % 64, b / 128 == 1)

/-- A packet that PRIVATE does not bar (R392): of VC4, or of VC2 from or to another memory domain. -/
def State.crosses (s : State) (p : Pkt) : Bool :=
  vcOf p.op == some 4 || (vcOf p.op == some 2 && (p.srcDom != s.ownDom || p.dstDom != s.ownDom))

/-- The port of a link is usable for a packet that travels on a VC (R392). -/
def State.portUsable (s : State) (p : Pkt) (vc l : Nat) : Bool :=
  decide (l < 24) && !absentUnit s.cfg .flink l
  && (s.lst l == .active || (s.lst l == .quarantined && vc == 4))
  && (!s.trunk l || vc == 2 || vc == 4)
  && (let (o, pr) := s.owner l
      !pr || o == p.part || s.crosses p)

/-- Ports of an entry in the layout of R391: port, and whether its TRANSIT bit is 1. -/
def entryPorts (w : Nat) : List (Nat × Bool) :=
  (List.range 4).map fun k => (w / 256 ^ k % 32, w / 2 ^ (32 + k) % 2 == 1)

/-- The route entry of a set for a destination (R391): its ports where it is VALID. -/
def State.rtPorts (s : State) (set dst : Nat) : List (Nat × Bool) :=
  let w := (s.reg (set * 128 + dst) frp 0x188).toNat
  if w / 2 ^ 40 % 2 = 1 then entryPorts w else []

/-- The set that a partition's PSET entry names, if it is local (R393, R412). -/
def State.psetOf (s : State) (part : Nat) : Option Nat :=
  let k := s.rd frp (F.FROUTER.PSET.el (part / 16)) / 16 ^ (part % 16) % 16
  if k ≤ 8 then some k else none

/-- What the router decides about a packet (R393 to R403): send it on a port and VC, under a grant or not; no table; closed; no
usable port; and PERM at the source for another domain. -/
inductive Route where
  | port (l vc : Nat) (grant : Bool)
  | refused
  | closed
  | noRoute
  | domain
  deriving DecidableEq, Repr

/-- The first usable port of a list; a port with TRANSIT is judged for VC3, on which the packet would travel (R394, log entry 192). -/
def State.firstPort (s : State) (p : Pkt) (vc : Nat) (ps : List (Nat × Bool)) : Option (Nat × Bool) :=
  ps.find? fun x => s.portUsable p (if x.2 then 3 else vc) x.1

/-- The first usable port that keeps the partition closed (R396); the Bool says that a usable port was passed over. -/
def State.closedPort (s : State) (p : Pkt) (vc : Nat) : List (Nat × Bool) → Bool → Option (Nat × Bool) × Bool
  | [], c => (none, c)
  | x :: t, c =>
    if !s.portUsable p (if x.2 then 3 else vc) x.1 then s.closedPort p vc t c
    else if x.2 || s.isMember p.part (s.rd (pg .flink x.1) F.FLINK.ACT_PKG_INDEX) then (some x, c)
    else s.closedPort p vc t true

/-- The transit grants that match a packet that came in on a link (R398): its ports. An answer that the router itself makes to a
packet of link `l` came in on no link; it goes by `l + 32`, and is held to no IN_LINKS. -/
def State.grantPorts (s : State) (p : Pkt) (inl : Nat) : Option (List (Nat × Bool)) :=
  (List.range 64).findSome? fun k =>
    let r (f : Fld) : Nat := s.rdB k frp f
    if r F.FROUTER.TG_VALID = 1 && r F.FROUTER.TG_PARTITION == p.part && decide (r F.FROUTER.DST_FIRST ≤ p.dstPkg)
        && decide (p.dstPkg ≤ r F.FROUTER.DST_LAST) && (32 ≤ inl || r F.FROUTER.IN_LINKS / 2 ^ inl % 2 == 1)
    then some [(r F.FROUTER.TG_PORT0, true), (r F.FROUTER.TG_PORT1, true)] else none

/-- A route by set 8 or the domain table, without closure. -/
def State.openRoute (s : State) (p : Pkt) (vc : Nat) (ps : List (Nat × Bool)) : Route :=
  match s.firstPort p vc ps with
  | some (l, t) => .port l (if t then 3 else vc) false
  | none => .noRoute

/-- The route of a packet (R393): `inl` is the link it came on, none where this package issues it. -/
def State.route (s : State) (p : Pkt) (inl : Option Nat) : Route :=
  match vcOf p.op with
  | none => .refused
  | some vc =>
    if p.dstDom != s.ownDom then
      if vc = 2 || vc = 4 then
        let w := (s.reg 0 frp (0x1B0 + 8 * p.dstDom)).toNat
        if w / 2 ^ 48 % 2 = 0 then .noRoute
        else match s.firstPort p vc ((entryPorts w).map fun x => (x.1, false)) with
          | some (l, t) => .port l (if t then 3 else vc) false
          | none => if w / 2 ^ 40 % 2 = 1 then s.openRoute p vc (s.rtPorts 8 (w / 2 ^ 32 % 128)) else .noRoute
      else .domain
    else if vc = 4 || (vc = 2 && p.srcDom != s.ownDom) then s.openRoute p vc (s.rtPorts 8 p.dstPkg)
    else match s.psetOf p.part with
      | some set =>
          match s.closedPort p vc (s.rtPorts set p.dstPkg) false with
          | (some (l, t), _) => .port l (if t then 3 else vc) false
          | (none, true) => .closed
          | (none, false) => .noRoute
      | none =>
          match inl with
          | none => .refused
          | some l0 =>
            match s.grantPorts p l0 with
            | none => .refused
            | some ps => match ps.find? fun x => s.portUsable p 3 x.1 with
              | some (l, _) => .port l 3 true
              | none => .noRoute

/-- The LOST bit of a package index (R404). -/
def State.isLost (s : State) (x : Nat) : Bool :=
  (if x < 64 then s.rd frp F.FROUTER.LOST0 else s.rd frp F.FROUTER.LOST1) / 2 ^ (x % 64) % 2 == 1

/-- The FROUTER that handles what a unit issues or receives: that of its I/O die, and of compute die 0 or 1 for a tile (log
entry 11). -/
def routerOf (p : Nat) : Nat :=
  match unitOf p with
  | some (.tile, k) => k / 144
  | some (t, k) => (dieOf t k) % 2
  | none => 0
/-- The FROUTER page of a link. -/
def linkRouter (l : Nat) : Nat := pg .frouter (if l % 32 < 12 then 0 else 1)

/-- A step tag in a header. -/
def pktTag (p : Pkt) : Nat × Nat := (p.step, p.gen)

/-- A field of EXT: `n` bytes from byte `b` of the header (R367). -/
def extF (p : Pkt) (b n : Nat) : Nat := p.ext / 256 ^ (48 - b - n) % 256 ^ n
/-- The EXT field with a value in `n` bytes from byte `b`. -/
def extOf (b n v : Nat) : Nat := v % 256 ^ n * 256 ^ (48 - b - n)

/-- RSV and unused fields are zero (R366, R367) and the lengths and alignments of R368 hold. -/
def pktOk (p : Pkt) : Bool :=
  let untagged := p.tagged || (p.step == 0 && p.gen == 0 && p.srcTg == 0 && p.run == 0)
  let req := p.status == 0
  let msg := p.op ≥ 0x40
  let dtg := msg || p.dstTg == 0
  let a := p.addr
  p.rsv == 0 && untagged && req && dtg && (!p.combined || p.op == 0x03 || p.op == 0x04) && (p.combined || p.count == 1) &&
  match p.op with
  | 0x01 => p.ext == 0 && a < 2 ^ 52 && p.len % 64 == 0 && 64 ≤ p.len && p.len ≤ 4096 && a % 64 == 0 && a % 4096 + p.len ≤ 4096
  | 0x02 => p.ext == 0 && a < 2 ^ 52 && 1 ≤ p.len && p.len ≤ 4096 && a % 4096 + p.len ≤ 4096
  | 0x03 | 0x05 => p.ext == 0 && a < 2 ^ 52 && p.len % 4 == 0 && p.len != 0 && a % 4 == 0 && a % 256 + p.len ≤ 256
  | 0x04 => p.ext == 0 && a < 2 ^ 52 && p.len % 8 == 0 && p.len != 0 && a % 8 == 0 && a % 256 + p.len ≤ 256
  | 0x06 => p.ext == 0 && a == 0 && p.len == 0
  | 0x07 => a == 0 && p.len == 0 && (extF p 38 1 == 1 || extF p 38 1 == 2) && p.ext == extOf 38 1 (extF p 38 1)
  | 0x40 => p.ext == 0 && a % 2 ^ 32 < 2 ^ 27 && a < 2 ^ 41 && p.len % 64 == 0 && 64 ≤ p.len && p.len ≤ 4096
  | 0x41 => a % 2 ^ 32 < 2 ^ 27 && a < 2 ^ 41 && p.len == 0 && p.index == 0 && p.ext == extOf 38 1 (extF p 38 1 % 64)
  | 0x42 => a == 0 && p.len % 64 == 0 && 64 ≤ p.len && p.len ≤ 4096 && extF p 45 1 < 4
  | 0x60 => a == 0 && p.len == 0 && p.index == 0 && p.ext == extOf 42 2 (extF p 42 2)
  | 0x61 => a == 0 && p.len == 0 && p.index == 0 && p.ext == 0
  | 0x62 => a < 2 ^ 32 && p.len == 0 && p.index == 0 && p.ext == 0
  | 0x63 => a < 2 ^ 32 && p.len == 8 && p.index == 0 && p.ext == 0
  | _ => true
/-- RSV and unused fields of an answer are zero (R366, R367): STEP_NUMBER, GENERATION, SRC_TGROUP and RUN without a tag, DST_TGROUP but in
messages and management, EXT, COMBINED but in a STAGED_ACK, COUNT, which is then 1, and LENGTH but where the answer has a payload (R365, R368). -/
def answerOk (p : Pkt) : Bool :=
  p.rsv == 0 && p.ext == 0 && (!p.combined || p.op == 0x22) && (p.combined || p.count == 1) && p.status < 16 && (p.tagged || (p.step == 0 && p.gen == 0 && p.srcTg == 0 && p.run == 0))
  && (0x40 ≤ p.op || p.dstTg == 0)
  && (p.len == 0 || (p.status == 0 && ((p.op == 0x21 && p.len % 64 == 0 && p.len ≤ 4096) || (p.op == 0x64 && p.len == 8))))

end Sys2Proof.Machine
end

