-- ==== Sys2Proof/Machine/Home.lean ====
section
/-! DEFINITION. The receiver of fabric transactions: the checks of R371 to R373, the commit buffer (R375 to R380), held
requests (R373, R378, R374), hot lines (R381) and messages to tiles (R383, R384). -/

namespace Sys2Proof.Machine

/-- The Updraft instances of a group, in rank order (R219). -/
def State.uds_ (s : State) (g : Nat) : List Nat :=
  (List.range 8).filter fun u => s.on (pg .updraft u) F.UPDRAFT.GROUP_VALID && s.rd (pg .updraft u) F.UPDRAFT.TGROUP == g
/-- The page of the lead Updraft instance of a group, if it has one (R219). -/
def State.leadUd (s : State) (g : Nat) : Option Nat := ((s.uds_ g).head?).map (pg .updraft)

/-- An import entry admits the request (R372): its class of operation, job, partition and range. -/
def State.admits (s : State) (p : Pkt) : Bool :=
  let a := p.addr % 2 ^ 45
  (List.range 256).any fun k =>
    let r (f : Fld) : Nat := s.rdB k frp f
    r F.FROUTER.IMP_VALID == 1 && r F.FROUTER.IMP_JOB == p.job && r F.FROUTER.IMP_PARTITION == p.part
    && decide (r F.FROUTER.IMP_BASE * 4096 ≤ a) && decide (a + p.len ≤ (r F.FROUTER.IMP_BASE + r F.FROUTER.IMP_SIZE) * 4096)
    && r (if p.op = 1 then F.FROUTER.IMP_RD else if p.op = 2 then F.FROUTER.IMP_WR else F.FROUTER.IMP_ATOMIC) == 1

/-- Checks 1 to 6 of R371. -/
def State.homeFail (s : State) (p : Pkt) : Option Status :=
  let a := p.addr % 2 ^ 45
  if !pktOk p || (decide (2 ≤ p.op) && decide (p.op ≤ 5) && !p.tagged) then some .badArg
  else if 6 ≤ p.op then none
  else if !(s.isMember p.part s.pkgIdx && s.isMember p.part p.srcPkg) then some .perm
  else match s.rangeFail a p.len with
    | some st => some st
    | none =>
      if inScratch a && s.on (pg .tile ((a - 0x4000000000) / 0x8000000)) F.COM.ISOLATED then some .isolated
      else if inScratch a || s.inMeta a p.len true then some .perm else if s.admits p then none else some .perm

/-- The stage group of a request (R375). -/
def pktGrp (p : Pkt) : SGroup := ⟨p.srcPkg, p.srcTg, p.step, p.run⟩

/-- The tombstones that a home keeps for a source's tile group (R377). -/
def State.tombsOf (s : State) (src tg : Nat) : List (Nat × Nat) :=
  ((s.fab.tombs.find? fun t => t.1 == (src, tg)).map (·.2)).getD []

/-- Check 7 of R371: a tombstone, a step earlier than all four, or a lower run (R376, R377). -/
def State.stagedStale (s : State) (p : Pkt) : Bool :=
  let ts := s.tombsOf p.srcPkg p.srcTg
  ts.contains (p.step, p.run)
  || (decide (4 ≤ ts.length) && ts.all fun t => laterThan 32 t.1 p.step || unordered 32 t.1 p.step)
  || s.fab.runs.any fun g => g.src == p.srcPkg && g.tg == p.srcTg && g.step == p.step && decide (p.run < g.run)

/-- The weight pages of a range with the group of their POOL and the generation each holds (R239). -/
def State.pageLabels (s : State) (a n : Nat) : List (Nat × Nat) :=
  (List.range 8).flatMap fun g => (s.pl g).pages.filterMap fun (k, l) =>
    match l with
    | some x => if overlap a n (k * 0x200000) 0x200000 then some (g, x) else none
    | none => none

/-- What a check of generations says (R239, R373). -/
inductive GenJudge where
  | serve | hold | stale
  deriving DecidableEq, Repr

/-- A read of weight pages under a generation (R239, R373): judged on the earliest label of the range. -/
def State.genJudge (s : State) (a n gen : Nat) : GenJudge :=
  match s.pageLabels a n with
  | [] => .serve
  | x :: xs =>
    let (g, l) := xs.foldl (fun m y => if laterThan 16 m.2 y.2 then y else m) x
    if l = gen then .serve
    else if laterThan 16 gen l then
      match s.leadUd g with
      | some u =>
          let st := s.rd u F.UPDRAFT.SWAP_STATE
          if 1 ≤ st && st ≤ 4 && s.rd u F.UPDRAFT.NEW_GEN == gen then .hold else .stale
      | none => .stale
    else .stale

/-- Commit-buffer entries in use on a die (R380). -/
def State.cbCount (s : State) (half : Nat) : Nat := (s.fab.cb.filter fun e => e.half == half).length
/-- CB_USED and CB_PEAK follow the buffer. -/
def State.cbStats (s : State) : State := forEach [0, 1] (fun h s =>
  let p := pg .frouter h
  let s := s.wr p F.FROUTER.CB_USED (s.cbCount h)
  s.wr p F.FROUTER.CB_PEAK (max (s.rd p F.FROUTER.CB_PEAK) (s.cbCount h))) s

/-- A little-endian list of bytes as a number. -/
def leNat : List Byte → Nat
  | [] => 0
  | b :: t => b.toNat + 256 * leNat t

/-- The element width of a class of staged effect. -/
def elemW (op : Nat) : Nat := if op = 0x04 then 8 else if op = 0x02 then 1 else 4
/-- How a class combines an element with a value (R375, R377). -/
def elemF (op a b : Nat) : Nat :=
  match op with
  | 0x03 => fadd32 a b | 0x04 => (a + b) % 2 ^ 64 | 0x05 => fmax32 a b | _ => b

/-- Merge bytes at a place of an entry's line (R375): an element with no value yet takes the request's. -/
def mergeBytes (op : Nat) (data : List (Nat × Byte)) (place : Nat) (bs : List Byte) : List (Nat × Byte) :=
  let w := elemW op
  (List.range (bs.length / w)).foldl (fun d e =>
    let o := place + e * w
    let x := (bs.drop (e * w)).take w
    let y := if (tblFind o d).isSome then
        leBytes w (elemF op (leNat ((List.range w).map fun i => ((tblFind (o + i) d).getD 0))) (leNat x)) else x
    y.zipIdx.foldl (fun d (b, i) => tblInsert (o + i) b (tblErase (o + i) d)) d) data

/-- The lines of a range with the place in the line and the part of the payload for each. -/
def linesOf (a : Nat) (bs : List Byte) : List (Nat × Nat × List Byte) :=
  (sectors a bs.length).map fun l =>
    let lo := max a (l * 256)
    (l, lo - l * 256, (bs.drop (lo - a)).take (min (l * 256 + 256) (a + bs.length) - lo))

/-- The entries of other runs of a step that a higher run discards (R376). -/
def lowerRun (p : Pkt) (e : CbEnt) : Bool :=
  e.grp.src == p.srcPkg && e.grp.tg == p.srcTg && e.grp.step == p.step && decide (e.grp.run < p.run)

/-- Merge a staged request into the commit buffer (R375, R376, R380); NO_SPACE stages nothing. -/
def State.stage (s : State) (p : Pkt) : Status × State :=
  let ls := linesOf (p.addr % 2 ^ 45) p.pay
  let cb := s.fab.cb.filter fun e => !(lowerRun p e)
  let has (l : Nat) : Bool := cb.any fun e => e.grp == pktGrp p && e.op == p.op && e.line == l
  let fresh := ls.filter fun x => !(has x.1)
  let room (h : Nat) : Bool :=
    decide ((cb.filter fun e => e.half == h).length + (fresh.filter fun x => s.homeHalf (x.1 * 256) == h).length ≤ 65536)
  if !(room 0 && room 1) then
    let h := if room 0 then 1 else 0
    (.noSpace, s.setEvt (pg .frouter h) F.EVT.FROUTER.CB_FULL)
  else
    let cb := ls.foldl (fun cb x =>
      if cb.any fun e => e.grp == pktGrp p && e.op == p.op && e.line == x.1 then
        cb.map fun e => if e.grp == pktGrp p && e.op == p.op && e.line == x.1
          then { e with data := mergeBytes p.op e.data x.2.1 x.2.2 } else e
      else cb ++ [⟨s.homeHalf (x.1 * 256), pktGrp p, p.op, x.1, mergeBytes p.op [] x.2.1 x.2.2⟩]) cb
    let runs := s.fab.runs.filter fun g => !(g.src == p.srcPkg && g.tg == p.srcTg && g.step == p.step)
    let at_ := (s.fab.stagedAt.filter fun x => x.1 != pktGrp p) ++ [(pktGrp p, s.now)]
    (.ok, ({ s with fab := { s.fab with cb := cb, runs := runs ++ [pktGrp p], stagedAt := at_ } }).cbStats)

/-- The contiguous runs of an entry's bytes. -/
def byteRuns : List (Nat × Byte) → List (Nat × List Byte)
  | [] => []
  | (o, b) :: t => match byteRuns t with
    | (o', bs) :: r => if o + 1 = o' then (o, b :: bs) :: r else (o, [b]) :: (o', bs) :: r
    | [] => [(o, [b])]

/-- Apply an entry to memory (R377). -/
def State.applyEnt (s : State) (e : CbEnt) : State :=
  let w := elemW e.op
  let s := s.touch (e.line * 256) 256 11 true
  forEach (byteRuns e.data) (fun (o, bs) s =>
    if e.op = 0x02 then s.memPut (e.line * 256 + o) bs
    else
      let a := e.line * 256 + o
      let new := (List.range (bs.length / w)).flatMap fun k =>
        leBytes w (elemF e.op (s.memLd (a + k * w) w) (leNat ((bs.drop (k * w)).take w)))
      s.memPut a new) s

/-- Free the entries of a stage group. -/
def State.cbFree (s : State) (g : SGroup) : State :=
  ({ s with fab := { s.fab with cb := s.fab.cb.filter (fun e => e.grp != g), stagedAt := s.fab.stagedAt.filter fun x => x.1 != g } }).cbStats

/-- Record a tombstone (R377): the last four of each source and tile group are kept. -/
def State.tombstone (s : State) (g : SGroup) : State :=
  let ts := s.tombsOf g.src g.tg
  let ts := if ts.contains (g.step, g.run) then ts else ts ++ [(g.step, g.run)]
  let ts := ts.drop (ts.length - 4)
  { s with fab := { s.fab with tombs := (s.fab.tombs.filter fun t => t.1 != (g.src, g.tg)) ++ [((g.src, g.tg), ts)] } }

/-- Act on a NOTICE (R377): one line at a time, WRITE, ADD_F32, ADD_I64, MAX_F32. -/
def State.notice (s : State) (g : SGroup) (commit : Bool) : State :=
  let es := s.fab.cb.filter fun e => e.grp == g
  let lines := (es.map (·.line)).eraseDups
  let s := if commit then
      forEach (lines.flatMap fun l => [2, 3, 4, 5].flatMap fun op => es.filter fun e => e.line == l && e.op == op) (fun e s => s.applyEnt e) s
    else s
  (s.cbFree g).tombstone g

/-- A stage group is discarded (R379, R405). -/
def State.cbDiscard (s : State) (g : SGroup) : State :=
  let halves := [0, 1].filter fun h => s.fab.cb.any fun e => e.grp == g && e.half == h
  let s := forEach (if halves.isEmpty then [0] else halves) (fun h s =>
    (s.bump (pg .frouter h) F.FROUTER.CB_DISCARDED).setEvt (pg .frouter h) F.EVT.FROUTER.CB_DISCARD) s
  (s.cbFree g).tombstone g

/-- What becomes of a request at its home. -/
inductive Served where
  | ans (st : Status) (data : List Byte)
  | hold (gen : Bool)
  deriving DecidableEq, Repr

/-- A request waits under R378, or its order against held effects is open (R22). -/
def State.orderWait (s : State) (p : Pkt) : Option Served :=
  let es := s.fab.cb.filter fun e => e.grp.src == p.srcPkg
  if p.tagged then
    if es.any fun e => e.grp.tg == p.srcTg && laterThan 32 p.step e.grp.step then some (.hold false)
    else if es.any fun e => e.grp.tg == p.srcTg && unordered 32 p.step e.grp.step then some (.ans .staleTag []) else none
  else if es.isEmpty then none else some (.hold false)

/-- A request held earlier reaches a line of this one: the home serves the requests to one line in arrival order (R374 rule 2). -/
def State.lineWait (s : State) (p : Pkt) : Bool :=
  let lines (q : Pkt) : Nat × Nat := (q.addr % 2 ^ 45 / 256, (q.addr % 2 ^ 45 + q.len - 1) / 256)
  s.fab.held.any fun h => decide (h.pkt.op ≤ 5) && decide ((lines h.pkt).1 ≤ (lines p).2) && decide ((lines p).1 ≤ (lines h.pkt).2)

/-- Checks 7 to 9 of R371 and the service of a request that passed checks 1 to 6. `cls` is its allocation class. -/
def State.homeServe (s : State) (p : Pkt) (cls : Nat) (es : List MemErr) : Served × State :=
  let a := p.addr % 2 ^ 45
  if p.op = 0x07 then (.ans (if s.fab.bad.contains (pktGrp p) then .poison else .ok) [], s.notice (pktGrp p) (extF p 38 1 == 1))
  else if p.op = 0x06 then
    if s.fab.held.any fun h => h.pkt.srcPkg == p.srcPkg && h.pkt.unit == p.unit && h.pkt.op != 0x06 then (.hold false, s) else (.ans .ok [], s)
  else if 2 ≤ p.op && s.stagedStale p then (.ans .staleTag [], s)
  else match if p.op = 1 && p.tagged then s.genJudge a p.len p.gen else .serve with
    | .stale => (.ans .staleTag [], s)
    | .hold => (.hold true, s)
    | .serve =>
      match s.orderWait p with
      | some w => (w, s)
      | none =>
        if s.lineWait p || s.rangeHeld a p.len then (.hold false, s) else
        if p.op = 1 then let (st, bs, s) := s.memRead a p.len cls es; (.ans st bs, s)
        else let (st, s) := s.stage p; (.ans st [], s)

/-- A refused request or message is counted (R386, R388). -/
def State.checkFail (s : State) (r : Nat) : State := (s.bump r F.FROUTER.CHECK_FAILS).setEvt r F.EVT.FROUTER.CHECK_FAIL

/-- The FROUTER page at which a request reaches this package. -/
def inRouter (inl : Option Nat) (p : Pkt) : Nat :=
  match inl with | some l => linkRouter l | none => pg .frouter (routerOf p.unit)

/-- What counters a status leaves at the receiver. -/
def State.countAns (s : State) (r : Nat) (p : Pkt) (st : Status) : State :=
  if st = .ok || st = .poison then s
  else
    let s := s.checkFail r
    if st = .staleTag && decide (2 ≤ p.op) && decide (p.op ≤ 5) then
      (s.bump r F.FROUTER.STALE_STAGED).setEvt r F.EVT.FROUTER.STALE_STAGED
    else s

/-- Reads that an I/O die holds for a weight page (R373). -/
def State.genHolds (s : State) (r : Nat) : Nat := (s.fab.held.filter fun h => h.gen && inRouter h.inl h.pkt == r).length
/-- A request reaches its home: it is answered, or held and answered later (R371, R373, R378). -/
def State.homeRecv (s : State) (inl : Option Nat) (p : Pkt) (cls : Nat) (es : List MemErr) : Served × State :=
  let r := inRouter inl p
  match s.homeFail p with
  | some st => (.ans st [], s.countAns r p st)
  | none =>
    match s.homeServe p cls es with
    | (.ans st bs, s) => (.ans st bs, s.countAns r p st)
    | (.hold g, s) =>
      let n := s.genHolds r
      let s := { s with fab := { s.fab with held := s.fab.held ++ [⟨inl, p, g, s.now⟩] } }
      let s := if g then s.bump r F.FROUTER.GEN_HOLDS else s
      (.hold g, if g && 4095 ≤ n then s.setEvt r F.EVT.FROUTER.GEN_HOLD_FULL else s)

/-- HOT_OVERFLOW (R381): the link that carries the request has its VC0 credits withheld. -/
def State.hotFull (s : State) (r l line : Nat) : State :=
  let st := if s.fab.stalled.contains (l, line) then s.fab.stalled else s.fab.stalled ++ [(l, line)]
  ({ s with fab := { s.fab with stalled := st } }).setEvt r F.EVT.FROUTER.HOT_OVERFLOW
/-- A line is hot (R381): more than 32 requests wait for it. HOT_TOP_SRC follows the line that HOT_LINE_ADDR names. `waiting` and `top` say how many, and which source has most. -/
def State.hotLine (s : State) (l a waiting top : Nat) : State :=
  let s := if waiting ≤ 512 then { s with fab := { s.fab with stalled := s.fab.stalled.filter fun x => x.2 != a / 256 } } else s
  let h := s.homeHalf a
  let r := pg .frouter h
  let n := (s.fab.hot.filter fun x => x.1 == h).length
  if waiting ≤ 32 then s
  else if s.fab.hot.contains (h, a / 256) then
    let s := if s.rd r F.FROUTER.HOT_LINE_ADDR = a / 256 then s.wr r F.FROUTER.HOT_TOP_SRC top else s
    if 512 < waiting then s.hotFull r l (a / 256) else s
  else if 64 ≤ n then s.hotFull r l (a / 256)
  else
    let s := { s with fab := { s.fab with hot := s.fab.hot ++ [(h, a / 256)] } }
    let s := ((s.wr r F.FROUTER.HOT_LINE_ADDR (a / 256)).wr r F.FROUTER.HOT_TOP_SRC top).wr r F.FROUTER.HOT_QUEUES (n + 1)
    s.setEvt r F.EVT.FROUTER.HOT_LINE

/-- An arrival with this tag is admitted by a tile (R86). -/
def State.tagOpen (s : State) (pos step gen : Nat) : Bool :=
  let p := pg .tile pos
  s.on p F.TILE.STEP_OPEN && s.rd p F.TILE.STEP_NUMBER == step && s.rd p F.TILE.GENERATION == gen

/-- An arrival at a tile is discarded as stale (R86). -/
def State.tileStale (s : State) (pos : Nat) : State :=
  (s.bump (pg .tile pos) F.TILE.STALE_ARRIVALS).setEvt (pg .tile pos) F.EVT.TILE.STALE_ARRIVAL

/-- A range lies in the active WORK region of a position. -/
def State.inWork (s : State) (pos off len : Nat) : Bool := inRegion (s.tl pos).regions [3] off len

/-- The job of a tile group: STEPSEQ SS_CFG.JOB_ID. -/
def State.jobOf (s : State) (g : Nat) : Nat := s.rd (pg .stepseq g) F.STEPSEQ.JOB_ID

/-- The checks of R383 on a MSG_TILE or MSG_MARK that covers `n` bytes. -/
def State.msgFail (s : State) (p : Pkt) (n : Nat) : Option Status :=
  let pos := p.addr / 2 ^ 32
  if !pktOk p || p.dstDom != s.ownDom || p.dstPkg != s.pkgIdx || !p.tagged then some .badArg
  else if 288 ≤ pos || s.ust (pg .tile pos) = .absent then some .absent
  else if s.on (pg .tile pos) F.COM.ISOLATED then some .isolated
  else if s.groupOf (pg .tile pos) != some p.dstTg || s.jobOf p.dstTg != p.job then some .perm
  else if !s.inWork pos (p.addr % 2 ^ 27) n then some .range
  else if !s.tagOpen pos p.step p.gen then some .staleTag else none

/-- A MSG_TILE or MSG_MARK reaches this package (R383, R384): its status. R384 lists no check for poison: the bit is set in a mark word that is
poisoned too, the answer is OK, and the word stays poisoned, as the mark words of Squall do: the model's choice (DESIGN CHOICE, log entry
206). -/
def State.msgTile (s : State) (inl : Option Nat) (p : Pkt) : Status × State :=
  let pos := p.addr / 2 ^ 32
  let off := p.addr % 2 ^ 27
  match s.msgFail p (if p.op = 0x40 then p.len else 8) with
  | some st =>
    let s := s.checkFail (inRouter inl p)
    (st, if st = .staleTag then s.tileStale pos else s)
  | none =>
    if p.op = 0x40 then (.ok, s.put (scr pos off) p.pay)
    else (.ok, s.st (scr pos off) 8 (s.ld (scr pos off) 8 ||| 2 ^ extF p 38 1))

end Sys2Proof.Machine
end

