-- ==== Sys2Proof/Machine/Request.lean ====
section
/-! DEFINITION. The requesters of fabric transactions (R364, R366, R369, R370): tag slots, the way of a packet out of the
package (R382, R393 to R397, R403 to R405), answers and time limits. -/

namespace Sys2Proof.Machine

/-- The class of an engine's requests that are served without the fabric (R198). -/
def State.ownCls (s : State) (unit : Nat) : Nat :=
  match typeOf unit with
  | .tile | .gang => s.clsOf unit
  | .updraft => 8 | .gct | .dport | .cproc => 12 | _ => 9

/-- A late or unmatched answer is counted at the engine (R94, R369). -/
def State.staleArr (s : State) (unit : Nat) : State :=
  match typeOf unit with
  | .tile | .gang => (s.bump unit F.TILE.STALE_ARRIVALS).setEvt unit F.EVT.TILE.STALE_ARRIVAL
  | .squall => (s.bump unit F.SQUALL.STALE_ARRIVALS).setEvt unit F.EVT.SQUALL.STALE_ARRIVAL
  | _ => s

/-- The group a request acts for, with the fields the hardware inserts: JOB_ID, PARTITION, SRC_TGROUP and RUN (R366). -/
def State.stampGrp (s : State) (g : Nat) (p : Pkt) : Pkt :=
  { p with job := s.jobOf g, part := s.rd (pg .tgroup g) F.TGROUP.PARTITION, srcTg := if p.tagged then g else 0,
           run := if p.tagged then s.rd (pg .stepseq g) F.STEPSEQ.RERUNS else 0 }

/-- The packet of a combined request answered or refused as a whole: an own or a passing request? -/
def State.isOwn (s : State) (p : Pkt) : Bool := p.srcPkg == s.pkgIdx && p.srcDom == s.ownDom

/-- Count a packet that has no route (R403). -/
def State.noteNoRoute (s : State) (r : Nat) (answered : Bool) : State :=
  let s := if answered then s.bump r F.FROUTER.HOME_LOST_ANSWERS else s
  s.setEvt r F.EVT.FROUTER.NO_ROUTE
/-- Count a packet that is refused (R396, R397). -/
def State.noteRefused (s : State) (r : Nat) (closed transit : Bool) : State :=
  let s := s.bump r F.FROUTER.ROUTE_REFUSED
  let s := if closed then s.setEvt r F.EVT.FROUTER.CLOSURE else s
  if transit || !closed then s.setEvt r F.EVT.FROUTER.TRANSIT_REFUSED else s

/-- A packet that is not sent because its destination is lost (R405): one of this package's own, or any of VC4. -/
def State.lostTo (s : State) (inl : Option Nat) (p : Pkt) : Bool :=
  p.dstDom == s.ownDom && s.isLost p.dstPkg && (inl.isNone || vcOf p.op == some 4)
/-- Send a packet on its way (R392 to R397, R403, R405): none where it has left, or the status it meets at this router. The router whose next hop
runs at revision 0x2 answers VERSION to what that revision lacks (R385; DESIGN CHOICE, log entry 193). -/
def State.launch (s : State) (inl : Option Nat) (p : Pkt) : Option Status × State :=
  let r := inRouter inl p
  if s.lostTo inl p then (some .homeLost, s) else
  match s.route p inl with
  | .port l vc gr =>
    if (p.op = 0x05 || p.op = 0x62 || p.op = 0x63) && s.rd (pg .flink l) F.FLINK.NEG_REV = 2 then (some .version, s)
    else
      let s := if gr then s.bump r F.FROUTER.TRANSIT_FWD else s
      (none, s.flSend l vc inl p)
  | .domain => (some .perm, s)
  | .refused => (some .perm, s.noteRefused r false inl.isSome)
  | .closed => (some .perm, s.noteRefused r true inl.isSome)
  | .noRoute => (some .homeLost, s.noteNoRoute r (isRequest p.op))

/-- The key of a combining window (R382). -/
def sameWindow (a b : Pkt) : Bool :=
  a.op == b.op && a.srcPkg == b.srcPkg && pktGrp a == pktGrp b && a.addr == b.addr && a.len == b.len && a.dstPkg == b.dstPkg

/-- The payload of two combined requests (R382). -/
def sumPay (op : Nat) (a b : List Byte) : List Byte :=
  let w := elemW op
  (List.range (a.length / w)).flatMap fun k => leBytes w (elemF op (leNat ((a.drop (k * w)).take w)) (leNat ((b.drop (k * w)).take w)))

/-- The next hop of a packet runs at revision 0x2 (R382, R385). -/
def State.nextOld (s : State) (inl : Option Nat) (p : Pkt) : Bool :=
  match s.route p inl with | .port l _ _ => s.rd (pg .flink l) F.FLINK.NEG_REV == 2 | _ => false

/-- A request leaves through its FROUTER, which may hold it in a combining window (R382). COMBINED_REQS counts every constituent, the first of
a window with the second. -/
def State.launchReq (s : State) (inl : Option Nat) (p : Pkt) : Option Status × State :=
  let r := inRouter inl p
  let ws := s.fab.windows
  if (p.op = 0x03 || p.op = 0x04) && s.on frp F.FROUTER.COMBINE_EN && !s.nextOld inl p then
    if ws.any fun w => w.router == r && !w.sent && sameWindow w.pkt p then
      let first := ((ws.filter fun w => w.router == r && !w.sent && sameWindow w.pkt p && !w.pkt.combined).map fun w => w.pkt.count).sum
      let s := s.bump r F.FROUTER.COMBINED_REQS (p.count + first)
      (none, { s with fab := { s.fab with windows := ws.map fun w =>
        if w.router == r && !w.sent && sameWindow w.pkt p then
          { w with pkt := { w.pkt with combined := true, count := w.pkt.count + p.count, pay := sumPay p.op w.pkt.pay p.pay },
                   parts := w.parts ++ [{ p with pay := [] }] }
        else w } })
    else if (ws.filter fun w => w.router == r && !w.sent).length < 256 then
      (none, { s with fab := { s.fab with windows := ws ++ [⟨r, inl, p, [{ p with pay := [] }], false⟩] } })
    else s.launch inl p
  else s.launch inl p

/-- The slot of a request is free. -/
def State.freeReq (s : State) (r : Req) : State :=
  { s with fab := { s.fab with reqs := s.fab.reqs.filter fun x => !(x.unit == r.unit && x.slot == r.slot) } }
/-- A request is complete: its slot is free and its answer goes to the engine; an answer to a retired tag is counted (R94, R449). -/
def State.completeReq (s : State) (r : Req) (st : Status) (data : List Byte) : State :=
  let s := s.freeReq r
  if r.wrapped then s.bump (pg .boot 0) F.BOOT.ISO_DISCARDS
  else if r.retired then s.staleArr r.unit
  else
    let staged := decide (2 ≤ r.pkt.op) && decide (r.pkt.op ≤ 5)
    let k := (r.pkt.srcTg, r.pkt.dstPkg)
    let s := if staged && st = .ok then
        { s with fab := { s.fab with acked := (s.fab.acked.filter fun x => x.1 != k) ++
            [(k, ((s.fab.acked.find? fun x => x.1 == k).map (·.2)).getD 0 + 1)] } }
      else s
    { s with fab := { s.fab with done := s.fab.done ++ [⟨r, st, data⟩] } }

/-- The outstanding request that an answer names (R369). -/
def State.findReq (s : State) (unit tag : Nat) : Option Req :=
  s.fab.reqs.find? fun r => r.unit == unit && r.slot == tag % 512 && r.inc == tag / 512

/-- An answer for this package reaches its requester; the constituents of a combined request get theirs (R369, R382). -/
def State.ownAnswer (s : State) (unit tag : Nat) (st : Status) (data : List Byte) : State :=
  match s.findReq unit tag with
  | some r => s.completeReq r st data
  | none => s.staleArr unit

/-- Send an answer to the source of a request, or deliver it here. -/
def State.sendAnswer (s : State) (inl : Option Nat) (p : Pkt) (st : Status) (data : List Byte := []) : State :=
  if s.isOwn p then s.ownAnswer p.unit p.tag st data
  else (s.launch (inl.map (· % 32 + 32)) (answerTo p st data)).2

/-- Answer every constituent of a combined request (R382). -/
def State.answerParts (s : State) (inl : Option Nat) (ps : List Pkt) (st : Status) : State :=
  forEach ps (fun p s => s.sendAnswer inl p st) s

/-- A request of this package goes out: to its own home, into the fabric, or back with the status of the source router
(R364, R371, R403, R405). -/
def State.transmit (s : State) (r : Req) : State :=
  let p := r.pkt
  if p.dstDom = s.ownDom && p.dstPkg = s.pkgIdx then
    if p.op ≤ 7 then
      match s.homeRecv none p (s.ownCls r.unit) [] with
      | (.ans st bs, s) => s.completeReq r st bs
      | (.hold _, s) => s
    else let (st, s) := s.msgTile none p; s.completeReq r st []
  else if p.dstDom != s.ownDom && p.op ≤ 7 then s.completeReq r .perm []
  else if p.dstDom = s.ownDom && s.isLost p.dstPkg then s.completeReq r .homeLost []
  else match s.launchReq none p with
    | (some st, s) => if p.op = 0x07 || 0x60 ≤ p.op && st = .homeLost then s else s.completeReq r st []
    | (none, s) => s

/-- The engine and the package have a free slot (R369). -/
def State.reqRoom (s : State) (r : Req) : Bool :=
  decide ((s.fab.reqs.filter fun x => x.unit == r.unit).length < 512) && decide (s.fab.reqs.length < 16384)
/-- A FENCE of an engine to a home. -/
def fenceTo (unit home : Nat) (x : Req) : Bool := x.unit == unit && x.pkt.op == 0x06 && x.pkt.dstPkg == home
/-- A request may be issued now (R369): a slot is free, and no FENCE to its home is awaited or still to be sent (R374 rule 3). -/
def State.mayIssue (s : State) (r : Req) : Bool :=
  s.reqRoom r && (r.pkt.op == 0x06 ||
    !(s.fab.reqs.any (fenceTo r.unit r.pkt.dstPkg) || s.fab.wait.any (fenceTo r.unit r.pkt.dstPkg)))

/-- Issue a request (R369): it takes a free slot of the engine, which one is open, and the slot's incarnation advances (log entry 164). -/
def State.issueNow (s : State) (r : Req) : State :=
  let used := (s.fab.reqs.filter fun x => x.unit == r.unit).map (·.slot)
  let (slot, s) := s.pick 0 ((List.range 512).filter fun k => !used.contains k)
  let key := r.unit * 512 + slot
  let inc := (tblGet (fun _ => 0) s.fab.incs key + 1) % 128
  let p := { r.pkt with srcDom := s.ownDom, srcPkg := s.pkgIdx, unit := r.unit, tag := slot + inc * 512 }
  let r := { r with slot := slot, inc := inc, pkt := p, t0 := s.now }
  ({ s with fab := { s.fab with reqs := s.fab.reqs ++ [r], incs := tblSet (fun _ => 0) s.fab.incs key inc } }).transmit r

/-- Issue a request, or let it wait for a slot (R369). -/
def State.issue (s : State) (r : Req) : State :=
  if s.mayIssue r && !(s.fab.wait.any fun x => x.unit == r.unit) then s.issueNow r
  else { s with fab := { s.fab with wait := s.fab.wait ++ [r] } }

/-- Issue waiting requests while slots are free. -/
def State.pumpWait (s : State) : Nat → State
  | 0 => s
  | n + 1 =>
    match s.fab.wait.find? fun r => s.mayIssue r with
    | none => s
    | some r => (({ s with fab := { s.fab with wait := s.fab.wait.erase r } }).issueNow r).pumpWait n

/-- A request of an engine, for `issue`. -/
def mkReq (unit : Nat) (p : Pkt) (kind a b c : Nat) (entry : Nat := 0) (pos : Nat := 0) (off : Nat := 0) : Req :=
  ⟨unit, 0, 0, p, kind, a, b, c, entry, pos, off, 0, false, false⟩

/-- The requests of an engine for which a predicate holds are retired: they keep their slots until answered (R94); those
that still wait are dropped. -/
def State.retireReqs (s : State) (f : Req → Bool) : State :=
  { s with fab := { s.fab with reqs := s.fab.reqs.map fun r => if f r then { r with retired := true } else r,
                               wait := s.fab.wait.filter fun r => !(f r),
                               done := s.fab.done.filter fun d => !(f d.req) } }

/-- VC0 credits of a link are withheld (R373, R381): its home holds as many reads as it may, or a hot line of this link's stands full. -/
def State.vc0Kept (s : State) (l : Nat) : Bool :=
  s.fab.stalled.any (fun x => x.1 == l)
  || decide (4096 ≤ s.genHolds (linkRouter l))
/-- A packet's space on a link is free: its credits go back (R352), VC0's unless they are withheld. -/
def State.creditBack (s : State) (l vc : Nat) : State := if vc = 0 && s.vc0Kept l then s else s.flFree l vc
/-- Links whose VC0 credits are withheld no longer return them. -/
def State.creditsBack (s : State) : State :=
  forEach (List.range 24) (fun l s => if s.flFramed l then s.creditBack l 0 else s) s
/-- Serve every held request that can be served now (R373, R374, R378). -/
def State.homePump (s : State) : State :=
  if s.fab.held.isEmpty then s else
  let held := s.fab.held
  let s := { s with fab := { s.fab with held := [] } }
  let s := forEach held (fun h s =>
    let cls := if h.inl.isNone then s.ownCls h.pkt.unit else 9
    match s.homeServe h.pkt cls [] with
    | (.ans st bs, s) => (s.countAns (inRouter h.inl h.pkt) h.pkt st).sendAnswer h.inl h.pkt st bs
    | (.hold g, s) => { s with fab := { s.fab with held := s.fab.held ++ [{ h with gen := g }] } }) s
  if s.fab.held.length < held.length then s.creditsBack else s

/-- A request from a link reaches this package (R371). -/
def State.ftHome (s : State) (l : Nat) (p : Pkt) (es : List MemErr) : State :=
  match s.homeRecv (some l) p 9 es with
  | (.ans st bs, s) => s.sendAnswer (some l) p st bs
  | (.hold _, s) => s

/-- The packets that a FT command may take: they come on a present link, name this package, and carry an opcode of the list. -/
def State.ftOk (s : State) (l : Nat) (p : Pkt) (ops : List Nat) : Bool :=
  decide (l < 24) && !absentUnit s.cfg .flink l && ops.contains p.op && p.dstDom == s.ownDom && p.dstPkg == s.pkgIdx

/-- A LOST bit is set (R404, R405). -/
def State.setLost (s : State) (x : Nat) : State :=
  if s.isLost x then s else
  let f := if x < 64 then F.FROUTER.LOST0 else F.FROUTER.LOST1
  let s := (s.wr frp f (s.rd frp f ||| 2 ^ (x % 64))).wr frp F.FROUTER.LAST_LOST x
  let s := s.setEvt frp F.EVT.FROUTER.PKG_LOST
  let s := forEach (s.fab.reqs.filter fun r => r.pkt.dstPkg == x && r.pkt.dstDom == s.ownDom && x != s.pkgIdx)
    (fun r s => if r.pkt.op = 0x07 then s.freeReq r else s.completeReq r .homeLost []) s
  let s := { s with fab := { s.fab with windows := s.fab.windows.filter fun w => !(w.pkt.dstPkg == x && s.isOwn w.pkt) } }
  let s := forEach ((s.fab.cb.filter fun e => e.grp.src == x).map (·.grp)).eraseDups (fun g s => s.cbDiscard g) s
  { s with fab := { s.fab with notices := s.fab.notices.filter fun n => n.home != x,
                               held := s.fab.held.filter (fun h => h.pkt.srcPkg != x)
                               wait := s.fab.wait.filter fun r => !(r.pkt.op == 0x07 && r.pkt.dstPkg == x) } }

/-- A tag is that of the group's current step (R41); an untagged transaction carries none. -/
def State.tagNow (s : State) (p : Pkt) : Bool :=
  !p.tagged || (match s.openOf p.srcTg with | some o => o.grant.step == p.step && o.grant.gen == p.gen | none => false)
/-- An answer is that of a request (R366): it comes from the request's destination, is of its kind and carries its tag. -/
def answers (q p : Pkt) : Bool :=
  q.dstPkg == p.srcPkg && q.dstDom == p.srcDom && answerOp q.op == p.op && q.tagged == p.tagged
  && q.step == p.step && q.gen == p.gen && q.srcTg == p.srcTg && q.run == p.run

/-- The status of an answer (R19, R366). -/
def pktStatus (p : Pkt) : Status :=
  match p.status with
  | 0 => Status.ok | 1 => .killed | 2 => .illegalState | 3 => .badArg | 4 => .absent | 5 => .noSpace | 6 => .deferred | 7 => .staleTag
  | 8 => .perm | 9 => .range | 10 => .poison | 11 => .homeLost | 12 => .isolated | 13 => .timeout | 14 => .checkFail | _ => .version
/-- The combined request that this package's router made and a combined answer answers (R382). -/
def State.splitOf (s : State) (p : Pkt) : Option Window :=
  if p.combined then s.fab.windows.find? fun w => w.sent && w.pkt.unit == p.unit && w.pkt.tag == p.tag && answers w.pkt p else none
/-- Its constituents get their answers, whether this package issued them or they passed through it. -/
def State.splitAnswer (s : State) (w : Window) (st : Status) : State :=
  ({ s with fab := { s.fab with windows := s.fab.windows.erase w } }).answerParts w.inl w.parts st
/-- An answer of a kind arrives on a link (R369, R382, R404): it completes its request, is split, or is passed on. One whose tag is not that of
the group's current step is discarded before it reaches the engine (R41); one to a retired tag is counted and frees its slot (R94). -/
def State.ftAnswer (s : State) (l : Nat) (p : Pkt) : State :=
  let st := pktStatus p
  let s := match s.splitOf p with
    | some w => s.splitAnswer w st
    | none =>
      match s.findReq p.unit p.tag with
      | none => s.staleArr p.unit
      | some r => if answers r.pkt p && (r.retired || r.wrapped || s.tagNow p) then s.completeReq r st p.pay else s.staleArr p.unit
  if st = .homeLost && p.srcDom = s.ownDom && l < 24 then s.setLost p.srcPkg else s

/-- The time limit of a request starts again. -/
def State.restartReq (s : State) (r : Req) : State :=
  { s with fab := { s.fab with reqs := s.fab.reqs.map fun (x : Req) => if x.unit == r.unit && x.slot == r.slot then { x with t0 := s.now } else x } }
/-- A HOLD arrives (R370): the request's time limit starts again. -/
def State.ftHold (s : State) (p : Pkt) : State :=
  match s.findReq p.unit p.tag with
  | none => s.staleArr p.unit
  | some r => s.restartReq r

/-- The instant at which a request has had no answer for REQ_TIMEOUT (R370). -/
def State.dueAt (s : State) (r : Req) : Nat := r.t0 + s.rd frp F.FROUTER.REQ_TIMEOUT * 1000
/-- A NOTICE is sent again (R377), as the request that it is. -/
def State.renotice (s : State) (r : Req) : State :=
  (((s.reach (s.dueAt r)).restartReq r).launch none r.pkt).2
/-- A request has had no answer within REQ_TIMEOUT of its issue or of the last HOLD (R370): a NOTICE goes out again (R377), any other completes
with TIMEOUT. -/
def State.reqTimeout (s : State) (unit slot : Nat) : State :=
  match s.fab.reqs.find? fun r => r.unit == unit && r.slot == slot with
  | none => s
  | some r =>
    if r.pkt.op = 0x07 then s.renotice r else
    let s := s.reach (s.dueAt r)
    let s := s.bumpSat (pg .frouter (routerOf unit)) F.FROUTER.REQ_TIMEOUTS
    if r.retired then { s with fab := { s.fab with reqs := s.fab.reqs.filter fun x => !(x.unit == unit && x.slot == slot) } }
    else s.completeReq r .timeout []

/-- A combining window closes (R382): its request goes on, or meets a status that every constituent gets. -/
def State.windowClose (s : State) (k : Nat) : State :=
  match (s.fab.windows.filter fun w => !w.sent).drop k with
  | [] => s
  | w :: _ =>
    let rest := s.fab.windows.erase w
    let keep := if w.pkt.combined then rest ++ [{ w with sent := true, pkt := { w.pkt with pay := [] } }] else rest
    match ({ s with fab := { s.fab with windows := keep } }).launch w.inl w.pkt with
    | (none, s) => s
    | (some st, s) =>
      let s := if st = .homeLost then forEach (w.parts.drop 1) (fun _ s => s.bump (inRouter w.inl w.pkt) F.FROUTER.HOME_LOST_ANSWERS) s else s
      ({ s with fab := { s.fab with windows := rest } }).answerParts w.inl w.parts st

end Sys2Proof.Machine
end

