-- ==== Sys2Proof/Machine/Mover.lean ====
section
/-! DEFINITION. The mover's commands: MOV (R132, R133, R547), FETCH (R134) and EXCH (R135, R136). -/

namespace Sys2Proof.Machine

/-- The label of what a command writes to WINDOW (R124): its generation, or none for an untagged command. -/
def writeLabel (d : Nat) : Option Nat := if dTagged d then some (dTag d).2 else none

/-- A mover command writes a row into scratch. -/
def State.putRow (s : State) (pos off : Nat) (bs : List Byte) (label : Option Nat) : State :=
  (s.put (scr pos off) bs).granWrite pos off bs.length label

/-- The result of a MOV (R121): bytes and rows moved. -/
def movRes (d rows : Nat) : Res := { st := .ok, r0 := dfld d 32 0 32 * rows, r1 := rows }

/-- Offset of row `i` of the destination and of the source of a MOV in scratch. -/
def movDst (d i : Nat) : Nat := dfld d 24 0 27 + i * dfld d 44 0 32
/-- Offset of a source row. -/
def movSrc (d i : Nat) : Nat := dfld d 16 0 27 + i * dfld d 40 0 32
/-- The rows of a MOV by leaf (R116, R132): BCAST on a gang, and FILL, give every leaf every row. -/
def State.movRows (s : State) (p d : Nat) : List (Nat × Nat) :=
  let n := dfld d 36 0 16
  if dOp d = 5 || (dOp d = 4 && typeOf p = .gang) then (s.leaves p).flatMap fun pos => (List.range n).map fun i => (pos, i)
  else s.rowsAt p n
/-- The output ranges of a MOV in the scratch of its own leaves. -/
def State.movOuts (s : State) (p d : Nat) : List ORange :=
  if dOp d = 2 || dOp d = 3 then [] else (s.movRows p d).map fun (pos, i) => (pos, movDst d i, dfld d 32 0 32)
/-- A row of a MOV would be written to a granule in use: the command waits (R124). -/
def State.movWaits (s : State) (p d : Nat) : Bool := (s.movOuts p d).any fun o => s.writeWaits o.1 o.2.1 o.2.2

/-- MOV finishes with a status: where data read while it ran ended it, its outputs are undefined (R117). -/
def State.movEnd (s : State) (p : Nat) (r : Run) (st : Status) (rows reason : Nat) : State :=
  if st = .ok then s.finish p r (movRes r.d rows)
  else if st = .poison then s.finishPoison p r (s.movOuts p r.d)
  else s.finishFail p r st (s.movOuts p r.d) reason

/-- Move rows one after another, until one fails: the status and the rows moved. -/
def moveRows (f : Nat × Nat → State → Status × State) : List (Nat × Nat) → Nat → State → Status × Nat × State
  | [], n, s => (.ok, n, s)
  | x :: t, n, s => match f x s with
    | (.ok, s) => moveRows f t (n + 1) s
    | (st, s) => (st, n, s)

/-- One source row of the leaf that `src` names is copied to the destination row of a leaf, over the mesh where they are not one leaf. -/
def State.copyRow (s : State) (d : Nat) (src : Nat → Nat) (pos i : Nat) : State :=
  (if src pos = pos then s else s.hopsDone (src pos) pos).putRow pos (movDst d i) (s.ldBytes (scr (src pos) (movSrc d i)) (dfld d 32 0 32))
    (writeLabel d)
/-- Copy source rows of the leaf that `src` names for each leaf to the destination rows (R132). -/
def State.copyRows (s : State) (p : Nat) (r : Run) (src : Nat → Nat) : State :=
  let d := r.d
  let len := dfld d 32 0 32
  if s.movWaits p d then s else
  let (st, n, s) := moveRows (fun (pos, i) s =>
    if s.anyPoison (scr (src pos) (movSrc d i)) len then (.poison, s) else (.ok, s.copyRow d src pos i)) (s.movRows p d) 0 s
  s.movEnd p r st n 0x00
/-- COPY (R132). -/
def State.copyWork (s : State) (p : Nat) (r : Run) : State := s.copyRows p r id
/-- BCAST (R132): on a gang every leaf receives the lead tile's source, over the mesh; on a tile it is a COPY. -/
def State.bcastWork (s : State) (p : Nat) (r : Run) : State := s.copyRows p r fun _ => s.lead p

/-- `n` bytes of the FILL pattern. -/
def fillBytes (v n : Nat) : List Byte := (List.range n).map fun i => BitVec.ofNat 8 (v / 256 ^ (i % 8))

/-- One row of a FILL. -/
def State.fillRow (s : State) (d pos i : Nat) : State := s.putRow pos (movDst d i) (fillBytes (dfld d 48 0 64) (dfld d 32 0 32)) (writeLabel d)
/-- FILL (R132): every member fills the whole destination. -/
def State.fillWork (s : State) (p : Nat) (r : Run) : State :=
  let d := r.d
  if s.movWaits p d then s else
  let (st, n, s) := moveRows (fun (pos, i) s => (.ok, s.fillRow d pos i)) (s.movRows p d) 0 s
  s.movEnd p r st n 0x00

/-- A row that could not be read is marked poisoned in scratch, and the WINDOW granules it touches stay not VALID, for the transfer did not
pass its check (R110, R124, R132). -/
def State.poisonRow (s : State) (pos off len : Nat) : State :=
  let (w, n) := s.windowPart pos off len
  ((s.granBegin pos w n).granAbort pos w n).markRange (scr pos off) len true

/-- The rows of a LOAD one after another (R132): a row that could not be read is marked and the others go on; another failure stops the
command. The first status that is not OK, whether a failure stopped it, and the rows moved. -/
def loadRows (f : Nat × Nat → State → Status × State) : List (Nat × Nat) → Option Status → Nat → State → Option Status × Bool × Nat × State
  | [], st, n, s => (st, false, n, s)
  | x :: t, st, n, s => match f x s with
    | (.ok, s) => loadRows f t st (n + 1) s
    | (.poison, s) => loadRows f t (some (st.getD .poison)) n s
    | (e, s) => (some (st.getD e), true, n, s)
/-- The memory address of row `i` of a LOAD. -/
def loadSrc (d i : Nat) : Nat := dfld d 16 0 45 + i * dfld d 40 0 32
/-- LOAD of one row of a leaf (R132); `cls` is the allocation class. -/
def State.loadRow (d cls : Nat) (es : List MemErr) (x : Nat × Nat) (s : State) : Status × State :=
  let len := dfld d 32 0 32
  if inScratch (loadSrc d x.2) then (.range, s) else
  match s.memRead (loadSrc d x.2) len cls es with
  | (.poison, _, s) => (.poison, s.poisonRow x.1 (movDst d x.2) len)
  | (.ok, bs, s) => (.ok, s.putRow x.1 (movDst d x.2) bs (writeLabel d))
  | (st, _, s) => (st, s)
/-- A LOAD waits: a granule that it writes is in use, or memory that it reads is held (R124, R193). -/
def State.loadWaits (s : State) (p d : Nat) : Bool :=
  s.movWaits p d || (s.movRows p d).any fun x => s.rangeHeld (loadSrc d x.2) (dfld d 32 0 32)
/-- LOAD (R132): `es` are the errors that devices report. A poisoned row is marked poisoned in scratch, and the command
completes with POISON after every other row. -/
def State.loadWork (s : State) (p : Nat) (es : List MemErr) (r : Run) : State :=
  if s.loadWaits p r.d then s else
  let (st, stopped, n, s) := loadRows (State.loadRow r.d (s.clsOf p) es) (s.movRows p r.d) none 0 s
  if st = some .poison && !stopped then s.finishPoison p r [] else s.movEnd p r (st.getD .ok) n 0x00

/-- Every byte of a row lies in a writable range of the group's open step (R133, R211). -/
def rowWritable (ws : List (Nat × Nat)) (a n : Nat) : Bool :=
  (List.range (n / 64)).all fun k => ws.any fun w => decide (w.1 ≤ a + 64 * k) && decide (a + 64 * k + 64 ≤ w.1 + w.2)

/-- STORE of one row of a leaf (R133). -/
def State.storeRow (p d : Nat) (es : List MemErr) (x : Nat × Nat) (s : State) : Status × State :=
  let len := dfld d 32 0 32
  let a := scr x.1 (movSrc d x.2)
  let dst := dfld d 24 0 45 + x.2 * dfld d 44 0 32
  let ws := match s.groupOf p with | some g => s.writable g | none => []
  if s.anyPoison a len then (.poison, s)
  else if !rowWritable ws dst len then (.perm, s)
  else s.memWrite dst (s.ldBytes a len) (s.clsOf p) es
/-- A STORE waits: memory that it writes is held (R193). -/
def State.storeWaits (s : State) (p d : Nat) : Bool :=
  (s.movRows p d).any fun x => s.rangeHeld (dfld d 24 0 45 + x.2 * dfld d 44 0 32) (dfld d 32 0 32)
/-- STORE (R133). -/
def State.storeWork (s : State) (p : Nat) (es : List MemErr) (r : Run) : State :=
  if s.storeWaits p r.d then s else
  let (st, n, s) := moveRows (State.storeRow p r.d es) (s.movRows p r.d) 0 s
  s.movEnd p r st n (if st = .perm then 0x09 else 0x00)

/-- The checks of R547 at the peer of a mesh write from page `p` by a command of descriptor `d`. -/
def State.meshFail (s : State) (p d peer off n : Nat) : Option Status :=
  if 288 ≤ peer then some .range
  else if s.ust (pg .tile peer) = .absent then some .absent
  else if s.on (pg .tile peer) F.COM.ISOLATED then some .isolated
  else if s.groupOf (pg .tile peer) != s.groupOf p || (s.groupOf p).isNone then some .perm
  else if !s.inWork peer off n then some .range
  else if !s.tagOpen peer (dTag d).1 (dTag d).2 then some .staleTag else none

/-- A mesh write of a command of page `p`, sent by a leaf, arrives at a peer (R547): its status. -/
def State.meshWrite (s : State) (p d pos peer off : Nat) (bs : List Byte) : Status × State :=
  let s := s.hopsDone pos peer
  match s.meshFail p d peer off bs.length with
  | some st => (st, if st = .staleTag then s.tileStale peer else s)
  | none => (.ok, s.put (scr peer off) bs)

/-- MESH_PUT of one row of a leaf (R132, R547). -/
def State.meshRow (p d : Nat) (x : Nat × Nat) (s : State) : Status × State :=
  let len := dfld d 32 0 32
  let a := scr x.1 (movSrc d x.2)
  if s.anyPoison a len then (.poison, s) else s.meshWrite p d x.1 (dfld d 38 0 9) (movDst d x.2) (s.ldBytes a len)
/-- MESH_PUT (R132, R547). -/
def State.meshPutWork (s : State) (p : Nat) (r : Run) : State :=
  let (st, n, s) := moveRows (State.meshRow p r.d) (s.movRows p r.d) 0 s
  s.movEnd p r st n 0x00

/-! ### Commands that send requests -/

/-- The parts of a range that stay inside blocks of `blk` bytes: address offset and length, at most `n`. -/
def splitAt (blk : Nat) : Nat → Nat → Nat → List (Nat × Nat)
  | 0, _, _ => []
  | k + 1, a, n => if n = 0 then [] else let c := min n (blk - a % blk); (a, c) :: splitAt blk k (a + c) (n - c)
/-- The parts of a range at boundaries of `blk`. -/
def splitRange (blk a n : Nat) : List (Nat × Nat) := splitAt blk (n / blk + 2) a n

/-- What a FETCH or EXCH moves: leaf, entry, remote address, scratch offset, length. -/
structure Xfer where
  pos : Nat
  entry : Nat
  addr : Nat
  off : Nat
  len : Nat
  deriving DecidableEq, Repr

/-- The transfers of a list command, in entry order (R134, R135): `none` marks a list word that is poisoned. -/
def State.listXfers (s : State) (p d : Nat) : Option (List Xfer) :=
  let sh := s.rowsAt p (dfld d 36 0 16)
  let a (pos i : Nat) : Nat := scr pos (dfld d 32 0 27 + 16 * i)
  if sh.any fun (pos, i) => s.anyPoison (a pos i) 16 then none
  else some (sh.map fun (pos, i) => ⟨pos, i, s.ld (a pos i) 8, s.ld (a pos i + 8) 4, s.ld (a pos i + 12) 4⟩)

/-- The transfers of a single command: each leaf's 64-byte units, or elements of `u` bytes (R116). Each is the one entry of its leaf, whose
results the gang's record sums (R120). -/
def State.singleXfers (s : State) (p addr off len u : Nat) : List Xfer :=
  (s.rowShares 16 p 0 ((len + u - 1) / u)).zipIdx.filterMap fun ((pos, lo, c), i) =>
    if c = 0 then none else some ⟨pos, i, addr + lo * u, off + lo * u, min (c * u) (len - lo * u)⟩

/-- The run-time checks of the transfers of a list (R114, R117, R368): the status of the first that fails. `al` is the alignment of the remote
address, `ks` the regions of the scratch side. -/
def State.xferFail (s : State) (p al : Nat) (ks : List Nat) (xs : List Xfer) : Option Status :=
  let rs := (s.tl (s.lead p)).regions
  xs.findSome? fun x =>
    if x.len = 0 then none
    else if 2 ^ 52 ≤ x.addr || 2 ^ 27 ≤ x.off then some .badArg
    else if x.addr % al != 0 || x.off % 64 != 0 || x.len % 64 != 0 then some .badArg
    else if sliceBytes < x.off + x.len || !(inRegion rs ks x.off x.len) then some .range else none

/-- A packet that a running command sends, with its entry, leaf and scratch offset. -/
abbrev Sending := Pkt × Nat × Nat × Nat
/-- How many packets each entry sends. -/
def entriesLeft (ps : List Sending) : List (Nat × Nat) :=
  (ps.map fun x => x.2.1).foldl (fun l e => tblInsert e ((tblFind e l).getD 0 + 1) (tblErase e l)) []
/-- Send the requests of a running command. With none to send, the command is complete. -/
def State.sendAll (s : State) (p : Nat) (r : Run) (ps : List Sending) (fin : Res) : State :=
  if ps.isEmpty then s.finish p r fin
  else forEach ps (fun (k, e, pos, off) s => s.issue (mkReq (pg .tile pos) k 0 p r.q r.idx e pos off))
    (s.setRun p { r with waiting := ps.length, left := entriesLeft ps, issued := true })

/-- The packet that a tile command sends, before its address and payload. -/
def State.cmdPkt (s : State) (p d op : Nat) : Pkt :=
  let k : Pkt := { op := op, dstDom := s.ownDom, tagged := dTagged d, step := (dTag d).1, gen := (dTag d).2, cmd := dCmdId d }
  match s.groupOf p with | some g => s.stampGrp g k | none => k

/-- The RDs of a FETCH (R134, R368): each within 4 KiB. -/
def State.fetchPkts (s : State) (p d : Nat) (xs : List Xfer) : List Sending :=
  let k := s.cmdPkt p d 0x01
  let ps := xs.flatMap fun x => (splitRange 4096 x.addr x.len).map fun (a, n) => (x, a, n)
  ps.zipIdx.map fun ((x, a, n), i) =>
    ({ k with dstPkg := a / 2 ^ 45, addr := a, len := n, index := i }, x.entry, x.pos, x.off + (a - x.addr))
/-- FETCH of its transfers (R134). -/
def State.fetchXfers (s : State) (p : Nat) (r : Run) (xs : List Xfer) : State := s.sendAll p r (s.fetchPkts p r.d xs) { st := .ok }

/-- The transfer of a SINGLE FETCH, PUT or atomic, as its leaves share it. -/
def State.oneXfers (s : State) (p d : Nat) : List Xfer := s.singleXfers p (dfld d 16 0 52) (dfld d 24 0 27) (dfld d 28 0 32) 64
/-- The output ranges of a FETCH: those of the entries that pass their checks. -/
def State.fetchOuts (s : State) (p d : Nat) : List ORange :=
  let xs := if dOp d = 0 then s.oneXfers p d else (((s.listXfers p d).getD []).filter fun x => (s.xferFail p 64 [1, 2, 3] [x]).isNone)
  xs.map fun x => (x.pos, x.off, x.len)
/-- FETCH SINGLE. -/
def State.fetchSingle (s : State) (p : Nat) (r : Run) : State :=
  if r.issued then s else s.fetchXfers p r (s.oneXfers p r.d)

/-- FETCH LIST. The whole list is read and checked before the first request goes out, so a bad entry stops those before it too: the model's
choice (DESIGN CHOICE, log entry 203). -/
def State.fetchList (s : State) (p : Nat) (r : Run) : State :=
  if r.issued then s else
  match s.listXfers p r.d with
  | none => s.finishPoison p r []
  | some xs =>
    match s.xferFail p 64 [1, 2, 3] xs with
    | some st => s.finishFail p r st (s.fetchOuts p r.d)
    | none => s.fetchXfers p r (xs.filter fun x => x.len != 0)

/-- The packets of a PUT or an atomic (R368): pieces within 4 KiB, or within one 256-byte line. -/
def State.exchPkts (s : State) (p d op : Nat) (xs : List Xfer) : List Sending :=
  let k := s.cmdPkt p d op
  let ps := xs.flatMap fun x => (splitRange (if op = 0x02 then 4096 else 256) x.addr x.len).map fun (a, n) => (x, a, n)
  ps.zipIdx.map fun ((x, a, n), i) =>
    ({ k with dstPkg := a / 2 ^ 45, addr := a, len := n, index := i, pay := s.ldBytes (scr x.pos (x.off + (a - x.addr))) n }, x.entry, x.pos, 0)
/-- The scratch side of some transfer is poisoned. -/
def State.xferPoison (s : State) (xs : List Xfer) : Bool := xs.any fun x => s.anyPoison (scr x.pos x.off) x.len
/-- PUT or an atomic of its transfers (R135). -/
def State.exchXfers (s : State) (p : Nat) (r : Run) (op : Nat) (xs : List Xfer) : State :=
  if s.xferPoison xs then s.finishPoison p r [] else s.sendAll p r (s.exchPkts p r.d op xs) { st := .ok }

/-- PUT and the atomics (R135). `w` is the alignment of a remote address (R114, R368). A tile-scratch DST of a SINGLE command fails at its start;
that of a list entry is met here, and its list is checked whole first (log entry 203). -/
def State.exchWork (s : State) (p op w : Nat) (r : Run) : State :=
  if r.issued then s else
  let d := r.d
  let home (xs : List Xfer) : State :=
    match xs.find? fun x => x.len != 0 && inScratch (x.addr % 2 ^ 45) with
    | some _ => s.finishFail p r .perm []
    | none => s.exchXfers p r op (xs.filter fun x => x.len != 0)
  if dfld d 38 0 1 = 1 then
    match s.listXfers p d with
    | none => s.finishPoison p r []
    | some xs => match s.xferFail p w [1, 2, 3] xs with
      | some st => s.finishFail p r st []
      | none => home xs
  else home (s.oneXfers p d)

/-- The fields of the DST of a SEND (R135): WORK reference, tile position, tile group, domain, package. -/
structure SendDst where
  ref : Nat
  pos : Nat
  tg : Nat
  dom : Nat
  pkg : Nat
  deriving DecidableEq, Repr
/-- The DST of a SEND. -/
def sendDst (a : Nat) : SendDst := ⟨a % 2 ^ 27, a / 2 ^ 32 % 2 ^ 9, a / 2 ^ 41 % 8, a / 2 ^ 44 % 8, a / 2 ^ 48 % 128⟩

/-- The packet of a message to a tile. -/
def msgPkt (k : Pkt) (op : Nat) (x : SendDst) (ref : Nat) : Pkt :=
  { k with op := op, dstDom := x.dom, dstPkg := x.pkg, dstTg := x.tg, addr := ref + x.pos * 2 ^ 32 }

/-- The MSG_TILEs of a SEND (R135, R383): those of each transfer, of at most 4 KiB, with their offset within the SEND (R367), the transfers of a
gang's leaves and of a list one after another. -/
def State.sendPkts (s : State) (p d : Nat) (xs : List Xfer) : List Sending :=
  let k := s.cmdPkt p d 0x40
  let ps := xs.zipIdx.flatMap fun (x, i) => (splitRange 4096 0 x.len).map fun (o, n) => (x, ((xs.take i).map (·.len)).sum, o, n)
  ps.map fun ((x, base, o, n) : Xfer × Nat × Nat × Nat) =>
    let t := sendDst x.addr
    ({ msgPkt k 0x40 t (t.ref + o) with len := n, index := base + o, pay := s.ldBytes (scr x.pos (x.off + o)) n }, x.entry, x.pos, 0)
/-- SEND (R135, R383). The MSG_MARKs follow when the MSG_TILEs are acknowledged. -/
def State.sendWork (s : State) (p : Nat) (r : Run) : State :=
  if r.issued then s else
  let d := r.d
  let rsv (a : Nat) : Bool := a / 2 ^ 27 % 32 != 0 || a / 2 ^ 55 != 0
  let go (xs : List Xfer) : State := if s.xferPoison xs then s.finishPoison p r [] else s.sendAll p r (s.sendPkts p d xs) { st := .ok }
  if dfld d 38 0 1 = 1 then
    match s.listXfers p d with
    | none => s.finishPoison p r []
    | some xs =>
      let xs := xs.filter fun x => x.len != 0
      if xs.any fun x => rsv x.addr || x.addr % 64 != 0 then s.finishFail p r .badArg []
      else match s.xferFail p 64 [1, 2, 3] (xs.map fun x => { x with addr := 0 }) with
        | some st => s.finishFail p r st []
        | none => go xs
  else if rsv (dfld d 16 0 64) then s.finishFail p r .badArg [] 0x01
  else go (s.singleXfers p (dfld d 16 0 64) (dfld d 24 0 27) (dfld d 28 0 32) 64)

/-- The destinations of a SEND, for its marks: each destination tile once per leaf. -/
def State.markDsts (s : State) (p d : Nat) : List (Nat × SendDst) :=
  let xs := if dfld d 38 0 1 = 1 then ((s.listXfers p d).getD []).filter fun x => x.len != 0
    else s.singleXfers p (dfld d 16 0 64) (dfld d 24 0 27) (dfld d 28 0 32) 64
  (xs.map fun x => (x.pos, { sendDst x.addr with ref := 0 })).eraseDups

/-- Every MSG_TILE of a SEND has been acknowledged: its marks go out (R374 rule 4, R384). -/
def State.sendMarks (s : State) (p : Nat) (r : Run) : State :=
  let d := r.d
  let k := s.cmdPkt p d 0x41
  let ps := (s.markDsts p d).map fun (pos, x) => ({ msgPkt k 0x41 x (dfld d 40 0 27) with ext := extOf 38 1 (dfld d 39 0 6) }, 0xFFFF, pos, 0)
  s.sendAll p { r with waiting := 0 } ps { st := .ok, r0 := r.acked, r1 := r.acked }

/-- The running command that a request serves. -/
def State.runOf (s : State) (q : Req) : Option Run := (s.sq q.a).run.find? fun r => r.q == q.b && r.idx == q.c

/-- Requests of the command that still wait are dropped after a failure: nothing further is issued (R134). -/
def State.dropWaiting (s : State) (q : Req) : Nat × State :=
  let mine (r : Req) : Bool := r.kind == 0 && r.a == q.a && r.b == q.b && r.c == q.c
  ((s.fab.wait.filter mine).length, { s with fab := { s.fab with wait := s.fab.wait.filter fun r => !(mine r) } })

/-- Other requests of the same entry are still to land in granule `k`. -/
def State.landsLater (s : State) (q : Req) (k : Nat) : Bool :=
  (s.fab.reqs ++ s.fab.wait ++ s.fab.done.map (·.req)).any fun r =>
    r.kind == 0 && r.a == q.a && r.b == q.b && r.c == q.c && r.entry == q.entry && !r.retired
    && r.pos == q.pos && (granIdx r.off r.pkt.len).contains k

/-- The transfer of an entry lands in granule `k` of WINDOW (R124): it begins there with the first byte, and ends when nothing of the entry is
still to come. -/
def State.landGran (q : Req) (x : Run × State) (k : Nat) : Run × State :=
  let (r, s) := x
  let key := (q.entry, q.pos, k)
  let (r, s) := if r.begun.contains key then (r, s) else ({ r with begun := r.begun ++ [key] }, s.granBegin q.pos (65536 * k) 1)
  if s.landsLater q k then (r, s)
  else ({ r with begun := r.begun.erase key }, s.granEnd q.pos (65536 * k) 1 (if q.pkt.tagged then some q.pkt.gen else none))
/-- The transfers that a command has begun are abandoned (R124). -/
def State.dropBegun (s : State) (r : Run) : State := forEach r.begun (fun x s => s.granAbort x.2.1 (65536 * x.2.2) 1) s
/-- A FETCH response lands in scratch (R86, R124). -/
def State.landFetch (s : State) (r : Run) (q : Req) (data : List Byte) : Run × State :=
  let s := s.put (scr q.pos q.off) data
  let (o, n) := s.windowPart q.pos q.off data.length
  (granIdx o n).foldl (State.landGran q) (r, s)
/-- A response may land: no running command reads a granule that it writes (R124). -/
def State.mayLand (s : State) (x : Done) : Bool :=
  !(x.req.kind < 2 && x.st == .ok && x.req.pkt.op == 0x01 && s.writeWaits x.req.pos x.req.off x.req.pkt.len)

/-- A command's last answer has come (R121, R134, R135): it completes, or its marks go out. -/
def State.answered (s : State) (p : Nat) (r : Run) (op : Nat) : State :=
  let fetch := dClass r.d == 0x31
  match r.failed with
  | some (_, st) =>
      ((s.dropBegun r).undefOuts (if fetch then s.fetchOuts p r.d else [])).finish p r
        { st := st, byte := 0xFF, reason := 0x0A, r0 := if fetch then r.got else 0, r1 := if fetch then r.okEnts else 0 }
  | none =>
    if fetch then s.finish p r { st := .ok, r0 := r.got, r1 := r.okEnts }
    else if dClass r.d == 0x32 && dOp r.d == 4 && dfld r.d 40 0 32 != 0xFFFFFFFF && op == 0x40 then s.sendMarks p r
    else s.finish p r { st := .ok, r0 := r.acked, r1 := r.acked }
/-- An answer reaches the command of a tile that asked (R134, R135). An entry of which a part has failed does not count as completed OK
(R121). -/
def State.tileDone (s : State) (x : Done) : State :=
  let q := x.req
  match s.runOf q with
  | none => s.staleArr q.unit
  | some r =>
    if r.res.isSome then s else
    let lands := x.st == .ok && q.pkt.op == 0x01
    let admits := !lands || !q.pkt.tagged || s.tagOpen q.pos q.pkt.step q.pkt.gen
    let (r, s) := if !admits then (r, s.tileStale q.pos) else if lands then s.landFetch r q x.data else (r, s)
    let ok := x.st == .ok && admits
    let left := (tblFind q.entry r.left).getD 0 - 1 + (if ok then 0 else 2 ^ 40)
    let worse (e : Nat) : Bool := match r.failed with | none => true | some (f, _) => decide (e < f)
    let failed := if x.st != .ok && worse q.entry then some (q.entry, x.st) else r.failed
    let (dropped, s) := if x.st != .ok then s.dropWaiting q else (0, s)
    let r := { r with waiting := r.waiting - 1 - dropped, acked := r.acked + (if ok then 1 else 0), failed := failed,
                      got := r.got + (if ok then q.pkt.len else 0), left := tblInsert q.entry left (tblErase q.entry r.left),
                      okEnts := r.okEnts + (if left = 0 then 1 else 0) }
    let s := s.setRun q.a r
    if r.waiting != 0 then s else s.answered q.a r q.pkt.op

/-- The requests of stopped commands are retired (R94 step 3). -/
def State.retireCmd (s : State) (p : Nat) (rs : List Run) : State :=
  s.retireReqs fun q => q.kind == 0 && q.a == p && rs.any fun r => r.q == q.b && r.idx == q.c

end Sys2Proof.Machine
end

