-- ==== Sys2Proof/Machine/Sync.lean ====
section
/-! DEFINITION. The control commands of a tile: SYNC (R137, R547), HALO (R138), NULL (R139), mesh arrivals and hop errors (R82),
and the scrubber (R110). -/

namespace Sys2Proof.Machine

/-- The counter of a SYNC on a leaf. -/
def counterOf (d pos : Nat) : Nat := scr pos (dfld d 20 0 27)
/-- WAIT's condition on a counter value (R137). -/
def waitHolds (d v : Nat) : Bool := if dfld d 16 0 8 = 0 then decide (dfld d 24 0 64 ≤ v) else Nat.land v (dfld d 24 0 64) == dfld d 24 0 64
/-- The wait time of a SYNC in µs, summed over the members (R120, R121). -/
def State.waitUs (s : State) (p : Nat) (r : Run) : Nat := sat32 (sat32 ((s.now - r.t0) / 1000) * (s.leaves p).length)
/-- A SYNC that has no counter completes OK: RESULT0, the counter value, is free (log entry 36). -/
def State.syncDone (s : State) (p : Nat) (r : Run) : State :=
  let (v, s) := s.free
  s.finish p r { st := .ok, r0 := v % 2 ^ 32, r1 := s.waitUs p r }

/-- WAIT: completes once the condition holds on every leaf (R137); a poisoned counter ends it with POISON (R547). -/
def State.waitWork (s : State) (p : Nat) (r : Run) : State :=
  let ls := s.leaves p
  if ls.any fun pos => s.anyPoison (counterOf r.d pos) 8 then s.finishPoison p r []
  else if ls.all fun pos => waitHolds r.d (s.ld (counterOf r.d pos) 8) then
    s.finish p r { st := .ok, r0 := sat32 ((ls.map fun pos => s.ld (counterOf r.d pos) 8 % 2 ^ 32).sum), r1 := s.waitUs p r }
  else s

/-- The new value of a SIGNALled counter. -/
def signalVal (mode old v : Nat) : Nat := if mode = 0 then (old + v) % 2 ^ 64 else Nat.lor old v % 2 ^ 64

/-- A SIGNAL update reaches a counter (R547 check 6). -/
def State.signalAt (s : State) (pos off mode v : Nat) : Status × State :=
  if s.anyPoison (scr pos off) 8 then (.poison, s) else (.ok, s.st (scr pos off) 8 (signalVal mode (s.ld (scr pos off) 8) v))

/-- The SIGNAL of a descriptor updates the counter of a position: its status, and the counter's value afterwards. -/
def State.signalInto (s : State) (d pos : Nat) : Status × Nat × State :=
  let x := s.signalAt pos (dfld d 20 0 27) (dfld d 16 0 8) (dfld d 24 0 64)
  (x.1, x.2.ld (scr pos (dfld d 20 0 27)) 8 % 2 ^ 32, x.2)
/-- The SIGNAL of one leaf (R137, R547): into its own counter, or over the mesh into that of the peer. -/
def State.signalOne (s : State) (p d pos : Nat) : Status × Nat × State :=
  let peer := dfld d 18 0 9
  if peer = 0x1FF then s.signalInto d pos
  else
    let s := s.hopsDone pos peer
    match s.meshFail p d peer (dfld d 20 0 27) 8 with
    | some st => (st, 0, if st = .staleTag then s.tileStale peer else s)
    | none => s.signalInto d peer
/-- SIGNAL (R137, R547). -/
def State.signalWork (s : State) (p : Nat) (r : Run) : State :=
  let (st, v, s) := (s.leaves p).foldl (fun (acc : Status × Nat × State) pos =>
    let (st, v, s) := acc
    if st != .ok then acc else let (st, w, s) := s.signalOne p r.d pos; (st, v + w, s)) (Status.ok, 0, s)
  if st = .ok then s.finish p r { st := .ok, r0 := sat32 v, r1 := s.waitUs p r }
  else if st = .poison then s.finishPoison p r []
  else s.finish p r { st := st, byte := 0xFF }

/-- The pages of a group's tiles and gangs that run commands: the outermost ones. -/
def State.groupPages (s : State) (g : Nat) : List Nat := ((s.servers g).map fun k => s.outer (pg .tile k)).eraseDups

/-- The running BARRIERs of a group with an id. -/
def State.atBarrier (s : State) (g id : Nat) : List (Nat × Run) :=
  (s.groupPages g).flatMap fun p => ((s.sq p).run.filter fun r => dClass r.d == 0x01 && dOp r.d == 2 && dfld r.d 34 0 16 == id && r.res.isNone).map fun r => (p, r)

/-- BARRIER: the tiles of the page have reached it; with the last active tile, every BARRIER of this id completes (R137). -/
def State.barrierWork (s : State) (p : Nat) (r : Run) : State :=
  let id := dfld r.d 34 0 16
  match s.groupOf p with
  | none => s
  | some g =>
    match s.openOf g with
    | none => s
    | some o =>
      let have_ := (tblFind id o.barriers).getD []
      let now := have_ ++ (s.leaves p).filter fun k => !have_.contains k
      if o.active ≤ now.length then
        let s := s.setOpen g (some { o with barriers := tblErase id o.barriers })
        forEach (s.atBarrier g id) (fun (q, x) s => s.syncDone q x) s
      else s.setOpen g (some { o with barriers := tblInsert id now (tblErase id o.barriers) })

/-- FENCE: every command that started before it has completed, and so have their requests (R137). -/
def State.fenceWork (s : State) (p : Nat) (r : Run) : State :=
  match (s.sq p).run with
  | x :: _ => if x.q = r.q && x.idx = r.idx then s.syncDone p r else s
  | [] => s

/-- The limit of a WAIT or BARRIER expires (R137). -/
def State.syncTimeout (s : State) (p op : Nat) : State :=
  s.work p 0x01 op fun r s =>
    let us := dfld r.d 32 0 16
    if us = 0 then s else
    let s := s.reach (r.t0 + us * 1000)
    s.finish p r { st := .timeout, byte := 0xFF, r1 := s.waitUs p r }

/-- A mesh write reaches a peer tile (R547): the issuing page, the tag of its command, the peer, the offset, and the bytes or a
SIGNAL's mode and value. It answers with the status that the peer acknowledges. -/
def State.meshArrival (s : State) (p step gen peer off : Nat) (w : List Byte ⊕ (Nat × Nat)) : State :=
  let d := 4 + step * 2 ^ 32 + gen * 2 ^ 64
  let s := s.hopsDone (s.lead p) peer
  let n := match w with | .inl bs => bs.length | .inr _ => 8
  match s.meshFail p d peer off n with
  | some st => (if st = .staleTag then s.tileStale peer else s).answer st
  | none => match w with
    | .inl bs => (s.put (scr peer off) bs).answer .ok
    | .inr (m, v) => let (st, s) := s.signalAt peer off m v; s.answer st

/-- A hop towards a port fails its CRC (R82, R111): it is retried and counted; the sixteenth failure in succession is a link
failure, and traffic takes the Y-first route. -/
def State.hopFail (s : State) (pos port : Nat) : State :=
  let p := pg .tile pos
  if absentPg s.cfg p || 4 ≤ port then s else
  let t := s.tl pos
  let n := nth 0 t.hopFails port + 1
  let s := ((s.capture p 0x07 .ok port).setEvt p F.EVT.COM.ERR_CORR)
  if n < 16 then s.setTl pos { t with hopFails := setNth n t.hopFails port }
  else
    let s := s.setTl pos { t with hopFails := setNth 0 t.hopFails port, meshFailed := if t.meshFailed.contains port then t.meshFailed else t.meshFailed ++ [port] }
    ((s.capture p 0x08 .ok port).uncorr p).awaitTest p 0x08 port

/-- A corrected scratch error (R110, R111): counted, captured, and its row is tested in idle slots. -/
def State.scratchCorr (s : State) (pos off : Nat) : State :=
  let p := pg .tile pos
  (((s.bumpSat p F.TILE.CORR_COUNT).capture p 0x01 .ok off).setEvt p F.EVT.COM.ERR_CORR).awaitTest p 0x01 off

/-- A read that is not the scrubber's corrects a word (R110). -/
def State.wordCorrected (s : State) (pos off : Nat) : State := if absentPg s.cfg (pg .tile pos) then s else s.scratchCorr pos off

/-- The scrubber reads the next word (R110): clean, or corrected; an uncorrectable one is a tile error (Seqr.lean). -/
def State.scrub (s : State) (pos bad : Nat) : State :=
  let p := pg .tile pos
  if absentPg s.cfg p || !s.on p F.TILE.SCRUB_EN then s else
  let t := s.tl pos
  let s := s.setTl pos { t with scrubAt := (t.scrubAt + 1) % (sliceBytes / 32) }
  if bad = 1 then s.scratchCorr pos (t.scrubAt * 32) else s

/-! ### HALO commands of a tile -/

/-- CHECK examines rows (R138): the statistics are those of the range, under the command's watch point. PITCH counts bytes: R138 gives no unit,
the model's choice (DESIGN CHOICE, log entry 204). -/
def State.checkSegs (s : State) (p d : Nat) : List Seg :=
  (s.leaves p).flatMap fun pos => (List.range (dfld d 18 0 16)).map fun i =>
    (pos, dfld d 24 0 27 + i * dfld d 28 0 32, dfld d 20 0 32, dfld d 16 0 4)
/-- The ranges that a CHECK reads. -/
def State.checkReads (s : State) (p d : Nat) : List ORange :=
  let el := dfld d 20 0 32
  let parts := match fmtOf (dfld d 16 0 4) with
    | some .bf16 => [(0, 4 * el)]
    | some f => rowParts f 0 ((el + 31) / 32)
    | none => [(0, 2 * el)]
  (s.checkSegs p d).flatMap fun g => parts.map fun x => (g.1, g.2.1 + x.1, x.2)
/-- CHECK (R138): RESULT0 counts the values examined. -/
def State.checkWork (s : State) (p : Nat) (r : Run) : State :=
  let d := r.d
  if s.poisonIn (s.checkReads p d) then s.finishPoison p r []
  else
    let n := dfld d 18 0 16 * dfld d 20 0 32 * (s.leaves p).length
    s.finish p r { st := .ok, r0 := sat32 n, r1 := 0, stats := s.segStats (s.checkSegs p d) }

/-- The statistics that a tile has accumulated for a watch point. -/
def State.watchStat (s : State) (pos id : Nat) : HStat := tblGet (fun _ => HStat.zero') (s.tl pos).watch id
/-- Replace them. -/
def State.setWatch (s : State) (pos id : Nat) (h : HStat) : State :=
  let t := s.tl pos
  s.setTl pos { t with watch := tblSet (fun _ => HStat.zero') t.watch id h }

/-- The output ranges of a HALO FLUSH: 40 bytes in each leaf (log entry 14). -/
def State.flushOuts (s : State) (p d : Nat) : List ORange := (s.leaves p).map fun pos => (pos, dfld d 32 0 27, 40)
/-- The bytes in which statistics stand in scratch: free values, fixed by the statistics (R138, R144, log entry 14). -/
def HStat.image (h : HStat) (n : Nat) : List Byte :=
  (List.range n).map fun i => BitVec.ofNat 8 (Config.boundChoice 0x401 [i, h.count, h.sumsq, h.max, h.nan, h.sat, h.zero])
/-- FLUSH writes the statistics to scratch (R138). The spec gives neither their layout nor their length: the bytes are free, and
there are 40 of them (log entry 14). RESULT0, the values examined, is their COUNT: the model's choice (DESIGN CHOICE, log entry 201). -/
def State.flushWork (s : State) (p : Nat) (r : Run) : State :=
  let (t, bad) := (s.flushOuts p r.d).foldl (fun (acc : State × Bool) o =>
    let (u, b) := acc.1.putOut (scr o.1 o.2.1) ((s.watchStat o.1 (dWatchId r.d)).image o.2.2)
    (u, acc.2 || b)) (s, false)
  if bad then t.finishPoison p r []
  else t.finish p r { st := .ok, r0 := sat32 (((s.leaves p).map fun pos => (s.watchStat pos (dWatchId r.d)).count).sum) }

/-- CLEAR discards the tile's statistics for the watch point (R138). It examines no value: RESULT0 is 0, the model's choice (DESIGN CHOICE, log
entry 201). -/
def State.clearWork (s : State) (p : Nat) (r : Run) : State :=
  let s := forEach (s.leaves p) (fun pos s => s.setWatch pos (dWatchId r.d) HStat.zero') s
  s.finish p r { st := .ok }

end Sys2Proof.Machine
end

