-- ==== Sys2Proof/Machine/Outs.lean ====
section
/-! DEFINITION. What a command leaves that a kill stops (R143): its own outputs, of every class, and what it may already have sent to peer
tiles and to package memory. -/

namespace Sys2Proof.Machine

/-- The output ranges in its own leaves of a command of any class (R117, R143). -/
def State.outsOf (s : State) (p d : Nat) : List ORange :=
  let rows := dfld d 18 0 16
  match dClass d with
  | 0x02 => if dOp d = 1 then s.flushOuts p d else []
  | 0x10 | 0x40 =>
      match s.modeOf p d with
      | none => []
      | some f => if dClass d = 0x10 && dOp d = 1 then s.groupedOuts p d f else s.mmaOuts p d f (dClass d = 0x40) fun _ => denseGroup d
  | 0x11 => s.attnOuts p d
  | 0x20 => if dOp d = 0x12 then s.topkOuts p d else s.rowRanges p rows (vecOuts d)
  | 0x21 => s.rowRanges p rows (qntOut d)
  | 0x22 => s.rowRanges p rows (sampleOut d)
  | 0x30 => s.movOuts p d
  | 0x31 => s.fetchOuts p d
  | 0x41 => s.gradOuts p d
  | _ => []

/-- The first `n` rows of a MOV reach their destinations. -/
def State.rowsSent (s : State) (p d n : Nat) (f : Nat × Nat → State → Status × State) : State :=
  let rows := s.movRows p d
  (moveRows f (rows.take (n % (rows.length + 1))) 0 s).2.2
/-- A command has been stopped by a kill (R143): its outputs are undefined, granules that it was filling are left not VALID, and a free value
says how many rows of a STORE or MESH_PUT, or whether a SIGNAL, had taken effect. -/
def State.killOne (s : State) (p : Nat) (r : Run) : State :=
  let s := (s.dropBegun r).undefOuts (s.outsOf p r.d)
  if r.res.isSome then s else
  let (v, s) := s.free
  if dClass r.d = 0x30 && dOp r.d = 2 then s.rowsSent p r.d v (State.storeRow p r.d [])
  else if dClass r.d = 0x30 && dOp r.d = 3 then s.rowsSent p r.d v (State.meshRow p r.d)
  else if dClass r.d = 0x01 && dOp r.d = 1 && v % 2 = 1 then forEach (s.leaves p) (fun pos s => (s.signalOne p r.d pos).2.2) s
  else s

end Sys2Proof.Machine
end

