-- ==== Sys2Proof/Machine/Halo.lean ====
section
/-! DEFINITION. HALO (R176 to R188): collecting the statistics of watched commands, evaluating them after a commit, the event
log, the watch entries and the recipe table. A watch entry's words and a layer's recipe are kept in the bank of their index. -/

namespace Sys2Proof.Machine

/-- A command of this class and operation gives gradient statistics (R176). -/
def gradKind (cls op : Nat) : Bool := cls == 0x40 || cls == 0x41 || (cls == 0x20 && op == 0x20)

/-- The watch units pass the statistics of a completed command on (R138, R176, R177): each tile keeps them for FLUSH, and the
group's HALO adds them to the entry for the open step, or discards them. R177 names no tag among the causes: those of an untagged command
count for the step that is open, or with none open for the next (DEDUCED, log entry 48). -/
def State.haloCollect (s : State) (p : Nat) (d : Nat) (x : Res) : State :=
  if x.st != .ok || !dWatch d then s else
  let id := dWatchId d
  let s := forEach x.stats (fun e s => s.setWatch e.1 id ((s.watchStat e.1 id).add e.2)) s
  match s.groupOf p with
  | none => s
  | some g =>
    let h := pg .halo g
    if s.on h F.COM.ISOLATED then s else
    let e := id % 4096
    forEach x.stats (fun st s =>
      if s.rdB e h F.HALO.ID != id || s.rdB e h F.HALO.ENABLE != 1 || (s.rdB e h F.HALO.KIND == 1) != gradKind (dClass d) (dOp d) then
        (s.bump h F.HALO.UNMATCHED).setEvt h F.EVT.HALO.UNMATCHED
      else
        let t := s.hl g
        s.setHl g { t with openStats := tblInsert e ((tblGet (fun _ => HStat.zero') t.openStats e).add st.2) (tblErase e t.openStats) }) s

/-- The step's statistics go to evaluation at its commit (R177). -/
def State.haloCommit (s : State) (g step : Nat) : State :=
  let h := pg .halo g
  let t := s.hl g
  let s' := s.setHl g { t with openStats := [] }
  if t.openStats.isEmpty || !s.on h F.HALO.EVAL_EN then s'
  else if 2 ≤ t.pendingEval.length then (s'.bumpSat h F.HALO.STEPS_DROPPED).setEvt h F.EVT.HALO.STEP_DROPPED
  else (s'.setHl g { t with openStats := [], pendingEval := t.pendingEval ++ [(step, t.openStats)] }).runIff h true

/-- At an abort, and before a re-run, HALO discards the step's statistics (R177). -/
def State.haloDiscard (s : State) (g : Nat) : State := s.setHl g { s.hl g with openStats := [] }

/-- a > b. -/
def Fv.gt : Fv → Fv → Bool
  | .nan, _ => false
  | _, .nan => false
  | .inf a, .inf b => !a && b
  | .inf a, .fin _ _ => !a
  | .fin _ _, .inf b => b
  | .fin _ x, .fin _ y => y.lt x

/-- Raise an event (R178, R179): a record, the entry's count, and the flag. -/
def State.haloRaise (s : State) (g e step kind value ref : Nat) : State :=
  let h := pg .halo g
  let bit := nth 8 [8, 8, 9, 10, 11, 11, 12] kind
  let w0 := s.rdB e h F.HALO.ID + kind * 2 ^ 16 + s.rdB e h F.HALO.KIND * 2 ^ 20 + step % 2 ^ 32 * 2 ^ 32
  let w1 := value % 2 ^ 32 + ref % 2 ^ 32 * 2 ^ 32
  let t := s.hl g
  let s := if 256 ≤ t.log.length then (s.bumpSat h F.HALO.DROPPED).setEvt h F.EVT.HALO.LOG_FULL
    else s.setHl g { t with log := t.log ++ [(w0, w1)] }
  (s.wrB e h F.HALO.EVENTS (s.rdB e h F.HALO.EVENTS + 1)).setEvt h bit

/-- A value that the evaluation assigns (R167, R178): its exact value rounded once to FP32, to nearest even, or the value `w` whose steps are
each rounded; the spec does not say which (log entry 16). -/
def halo32 (op : Nat) (key : List Nat) (v w : Fv) : Nat := openPick op key (toFp32 v) (toFp32 w)

/-- base + (x − base) × 2^(−k), as an FP32 code. It is base itself where x is base. -/
def haloTrack (op base x k : Nat) : Nat :=
  let b := fp32 base
  let step (f : Fv → Fv) : Fv := b.add (f ((f ((fp32 x).add b.opp)).mul (.ofQ (Q.pow2 (-(k : Int))))))
  halo32 op [base, x, k] (step id) (step Fv.r32)

/-- Evaluate a watch entry (R178). The products of the limits and the baselines are compared as they are, unrounded: the model's choice (log
entry 16). -/
def State.haloEval (s : State) (g step e : Nat) (t : HStat) : State :=
  let h := pg .halo g
  let lim (f : Fld) : Nat := s.rdB e h f
  let s := if lim F.HALO.NAN_LIMIT < t.nan then s.haloRaise g e step 1 t.nan (lim F.HALO.NAN_LIMIT) else s
  let s := if lim F.HALO.SAT_LIMIT < t.sat then s.haloRaise g e step 2 t.sat (lim F.HALO.SAT_LIMIT) else s
  let s := if lim F.HALO.ZERO_LIMIT != 0xFFFF && decide (lim F.HALO.ZERO_LIMIT < t.zero) then s.haloRaise g e step 3 t.zero (lim F.HALO.ZERO_LIMIT) else s
  if t.count = 0 then s else
  let r64 (v : Fv) : Fv := decodeIeee 11 52 (encodeIeee 11 52 v)
  let mean := (decodeIeee 11 52 t.sumsq).div (.ofQ ⟨t.count, 1⟩)
  let norm := halo32 0x500 [t.sumsq, t.count] (Fv.sqrt mean) (r64 (Fv.sqrt (r64 mean)))
  let base := s.rdB e h F.HALO.BASE_L2
  let bmax := s.rdB e h F.HALO.BASE_MAX
  let warm := s.rdB e h F.HALO.WARM_LEFT
  let first := (fp32 base).isZero
  let judged := !first && warm == 0
  let times (f : Fld) (b : Nat) : Fv := (fp32 (s.rdB e h f)).mul (fp32 b)
  let j1 := judged && (fp32 norm).gt (times F.HALO.L2_HI base)
  let j2 := judged && (times F.HALO.L2_LO base).gt (fp32 norm)
  let j3 := judged && (fp32 t.max).gt (times F.HALO.MAX_HI bmax)
  let s := if j1 then s.haloRaise g e step 4 norm base else s
  let s := if j2 then s.haloRaise g e step 5 norm base else s
  let s := if j3 then s.haloRaise g e step 6 t.max bmax else s
  let base' := if first then norm else base
  let bmax' := if first then t.max else bmax
  let k := s.rdB e h F.HALO.ALPHA_SHIFT
  let frozen := (j1 || j2 || j3) && s.rdB e h F.HALO.FREEZE_ON_EVENT == 1
  let s := s.wrB e h F.HALO.BASE_L2 (if frozen then base' else haloTrack 0x501 base' norm k)
  let s := s.wrB e h F.HALO.BASE_MAX (if frozen then bmax' else haloTrack 0x502 bmax' t.max k)
  let s := s.wrB e h F.HALO.WARM_LEFT (warm - 1)
  (s.wrB e h F.HALO.LAST_NORM norm).wrB e h F.HALO.LAST_MAX t.max

/-- A watch word takes a value (R182). -/
def State.haloStore (s : State) (g e k : Nat) (v : Word) : State :=
  let h := pg .halo g
  let off := 0x110 + 8 * k
  let old := s.reg e h off
  let rw := BitVec.ofNat 64 (rwMask .halo off)
  let s := s.setReg e h off ((old &&& ~~~ rw) ||| (v &&& rw))
  if k = 0 && bits old 16 16 == 0 && bits v 16 16 == 1 then
    (s.wrB e h F.HALO.WARM_LEFT (bits v 31 24)).wrB e h F.HALO.EVENTS 0
  else s
/-- The watch words that wait for the end of an evaluation are stored (R185). -/
def State.haloLate (s : State) (g : Nat) : State :=
  let ws := (s.hl g).late
  forEach ws (fun w s => s.haloStore g w.1 w.2.1 w.2.2) (s.setHl g { s.hl g with late := [] })
/-- HALO is evaluating an entry: that of the oldest committed step that awaits it (R177, R183). -/
def State.haloBusy (s : State) (g e : Nat) : Bool :=
  match (s.hl g).pendingEval with
  | [] => false
  | (_, st) :: _ => st.any fun x => x.1 == e

/-- The evaluation of the oldest committed step that awaits it (R177, R178, R185). -/
def State.haloEvaluate (s : State) (g : Nat) : State :=
  match (s.hl g).pendingEval with
  | [] => s
  | (step, st) :: rest =>
    if s.stored (pg .halo g) = .halted then s else
    let s := s.setHl g { s.hl g with pendingEval := rest }
    ((forEach st (fun e s => s.haloEval g step e.1 e.2) s).haloLate g).runIff (pg .halo g) (!rest.isEmpty)

/-- LOG_POP (R180). -/
def State.haloPop (s : State) (g : Nat) : State := s.setHl g { s.hl g with log := (s.hl g).log.drop 1 }

/-- An FP32 code that R182 refuses: negative or NaN. -/
def badRatio (c : Nat) : Bool := match fp32 c with | .nan => true | .inf a => a | .fin _ q => decide (q.n < 0)

/-- Word `k` of a watch entry as last written: a write may still wait for an evaluation (R185). -/
def State.haloWord (s : State) (g e k : Nat) : Word :=
  (((s.hl g).late.filter fun w => w.1 == e && w.2.1 == k).getLast?.map (·.2.2)).getD (s.reg e (pg .halo g) (0x110 + 8 * k))
/-- A write of word `k` of the watch entry that WP_INDEX shows (R182): it is judged at once, and takes effect after an evaluation of that entry
(R185). The word that a refusal compares is the one that will then stand. -/
def State.haloWpWrite (s : State) (g k : Nat) (v : Word) : State :=
  let h := pg .halo g
  let e := s.rd h F.HALO.WP_INDEX
  let old := s.haloWord g e k
  let bad := match k with
    | 0 => bits v 11 0 != e || bits v 23 20 == 0
    | 1 => badRatio (bits v 31 0) || badRatio (bits v 63 32)
    | 2 => badRatio (bits v 31 0)
    | 4 => badRatio (bits v 31 0) || badRatio (bits v 63 32)
    | _ => false
  if bad then s.answer .badArg
  else if k = 0 && bits old 16 16 == 1 && bits v 15 0 != bits old 15 0 then s.answer .illegalState
  else if s.haloBusy g e then s.setHl g { s.hl g with late := (s.hl g).late ++ [(e, k, v)] }
  else s.haloStore g e k v

/-- A write of RCP_MODE for the layer that RCP_INDEX shows (R182, R187): it is staged. -/
def State.haloRcpWrite (s : State) (g v : Nat) : State :=
  let h := pg .halo g
  if 5 < v && v != 0xF then s.answer .badArg
  else s.wrB (s.rd h F.HALO.RCP_INDEX) h F.HALO.RCP_MODE v

/-- The staged recipe of a layer. -/
def State.staged_ (s : State) (g layer : Nat) : Nat := s.rdB layer (pg .halo g) F.HALO.RCP_MODE
/-- The staged recipe table: the layers that are not DEFAULT. -/
def State.stagedTable (s : State) (g : Nat) : List (Nat × Nat) :=
  (List.range 1024).filterMap fun l => let m := s.staged_ g l; if m = 0xF then none else some (l, m)

/-- A step open latches the recipe table (R187): `res` gives the mode that a layer takes for a staged value, and says whether
the staged mode had no stream. -/
def State.haloLatch (s : State) (g layers : Nat) (res : Nat → Nat → Nat × Bool) : State :=
  let h := pg .halo g
  let raw := s.stagedTable g
  let t := s.hl g
  let modes := (List.range layers).map fun l => (l, res l (s.staged_ g l))
  let s := s.setHl g { t with raw := raw, latched := modes.map fun m => (m.1, m.2.1) }
  let s := if raw = t.raw then s else s.bump h F.HALO.RCP_EPOCH
  if modes.any fun m => m.2.2 then s.setEvt h F.EVT.HALO.RECIPE_UNAVAILABLE else s

/-- A UNIT_RESET of a HALO (R183): the log, the counters and the statistics are cleared, and the registers that R183 does not keep
return to their reset values (DEDUCED, log entry 35). -/
def State.haloReset (s : State) (g : Nat) : State :=
  let h := pg .halo g
  let s := (s.haloLate g).setHl g { (s.hl g) with openStats := [], pendingEval := [], log := [], late := [] }
  s.regsReset h [0x100, 0x108, 0x140, 0x158, 0x178]

end Sys2Proof.Machine
end

