-- ==== Sys2Proof/Machine/Check.lean ====
section
/-! DEFINITION. CHECK units and the codes that they compute (R231, R232). -/

namespace Sys2Proof.Machine

/-- The CHECK unit attached to a point of an instance (R232). -/
def State.checkUnit (s : State) (attach inst : Nat) : Option Nat :=
  ((List.range 16).map (pg .check)).find? fun p => s.rd p F.CHECK.ATTACH == attach && s.rd p F.CHECK.ATTACH_INST == inst
/-- The width of a CHECK unit in bits. -/
def State.checkWidth (s : State) (p : Nat) : Nat := 8 * 2 ^ s.rd p F.CHECK.WIDTH
/-- The CRC that a CHECK unit computes. -/
def State.checkCrc (s : State) (p : Nat) (bs : List Byte) : Nat :=
  crcOf (s.checkWidth p) (s.rd p F.CHECK.POLY) (s.rd p F.CHECK.INIT) (s.on p F.CHECK.REFIN) (s.on p F.CHECK.REFOUT) (s.rd p F.CHECK.XOROUT) bs
/-- A span is complete: its result, against the expected value where there is one (R232). -/
def State.checkSpan (s : State) (p : Nat) (bs : List Byte) (want : Option Nat) : Nat × State :=
  let r := s.checkCrc p bs
  let s := (s.wr p F.CHECK.LAST_RESULT r).bump p F.CHECK.SPANS
  (r, match want with | some w => if w = r then s else s.bump p F.CHECK.MISMATCHES | none => s)
/-- The unit attached to a point of an instance, with a width in bits. -/
def State.checkAt (s : State) (attach inst w : Nat) : Bool :=
  match s.checkUnit attach inst with | some p => s.checkWidth p == w | none => false

/-- The engine page of an attachment (R232). -/
def checkEngine (attach inst : Nat) : Option Nat :=
  match attach with
  | 1 | 2 => if inst < 8 then some (pg .updraft inst) else none
  | 3 | 4 => if inst < 2 then some (pg .gct inst) else none
  | 5 => if inst < 2 then some (pg .contrail inst) else none
  | 6 => if inst < 2 then some (pg .frouter inst) else none
  | _ => none
/-- The attached engine uses the unit (R232): an instance that streams, a load in progress, a session or a ring in service, and
for fabric messages a link that is ACTIVE (log entry 17). -/
def State.checkBusy (s : State) (p : Nat) : Bool :=
  let i := s.rd p F.CHECK.ATTACH_INST
  match s.rd p F.CHECK.ATTACH with
  | 1 => s.on (pg .updraft i) F.UPDRAFT.ENABLE
  | 2 => s.rd (pg .updraft i) F.UPDRAFT.LOAD_STATE == 1 || s.rd (pg .updraft i) F.UPDRAFT.LOAD_STATE == 2
  | 3 | 4 => s.sessions.any fun x => x.2.st == .up && x.2.anchor == i
  | 5 => s.on (pg .contrail i) F.CONTRAIL.ENABLE
  | 6 => (List.range 24).any fun l => l / 12 == i && s.rd (pg .flink l) F.FLINK.LINK_STATE == 5
  | _ => false
/-- A write of a CHECK unit's parameters or attachment (R232): the status that refuses it, if any. -/
def State.checkRefuse (s : State) (p off : Nat) (v : Word) : Option Status :=
  if s.checkBusy p then some .illegalState
  else if off = 0x128 then (if bits v 1 0 = 1 || bits v 1 0 = 2 then none else some .badArg)
  else if off = 0x100 then
    let a := bits v 11 8
    let i := bits v 19 16
    if a = 0 then none
    else match checkEngine a i with
      | none => some .badArg
      | some e =>
        if dieOf (typeOf e) (instOf e) != dieOf .check (instOf p) then some .badArg
        else match s.checkUnit a i with
          | some q => if q = p then none else some .badArg
          | none => none
  else none
/-- PRESET (R232). -/
def State.checkPreset (s : State) (p k : Nat) : State :=
  let (w, poly, ones) : Nat × Nat × Nat := if k = 1 then (2, 0x1EDC6F41, 0xFFFFFFFF) else (3, 0x42F0E1EBA9EA3693, 2 ^ 64 - 1)
  (((((s.wr p F.CHECK.WIDTH w).wr p F.CHECK.REFIN 1).wr p F.CHECK.REFOUT 1).wr p F.CHECK.POLY poly).wr p F.CHECK.INIT ones).wr p F.CHECK.XOROUT ones

end Sys2Proof.Machine
end

