-- ==== Sys2Proof/Machine/Contrail.lean ====
section
/-! DEFINITION. CONTRAIL (R307 to R336): sequence slots, sequence requests, prompts, rings and TOKEN messages, token buckets and
adapter slots. Slot s is held by CONTRAIL s div 4,096; buckets and adapter slots by CONTRAIL 0. -/

namespace Sys2Proof.Machine

/-- A slot that nothing has used (R307). -/
def Slot.init : Slot := ⟨0, 0, 0, 0, [], 0, 0, 0, 0, 0, false, 0, 0, 0, none, 0, 0, 0, 0⟩
/-- A sequence slot. -/
def State.slot (s : State) (i : Nat) : Slot := tblGet (fun _ => Slot.init) s.slots i
/-- Replace it. -/
def State.setSlot (s : State) (i : Nat) (x : Slot) : State := { s with slots := tblSet (fun _ => Slot.init) s.slots i x }
/-- The page of the CONTRAIL that holds a slot. -/
def ctOf (i : Nat) : Nat := pg .contrail (i / 4096)
/-- A CONTRAIL takes requests: ENABLE is 1 and its wrapper is open (R311, R449). -/
def State.ctOn (s : State) (p : Nat) : Bool := s.on p F.CONTRAIL.ENABLE && !s.on p F.COM.ISOLATED
/-- The handle of a slot (R307). -/
def handleOf (i : Nat) (x : Slot) : Nat := i * 2 ^ 19 + x.inc
/-- The incarnation of a handle. -/
def incOf (h : Nat) : Nat := h % 2 ^ 19
/-- PI − CI. -/
def Slot.used (x : Slot) : Nat := (x.pi + 2 ^ 32 - x.ci) % 2 ^ 32
/-- Free entries of a ring (R316). -/
def State.ringFree (s : State) (i : Nat) : Nat := if s.on (ctOf i) F.CONTRAIL.ENABLE then 64 - (s.slot i).used else 0
/-- Pending prompt tokens. -/
def Slot.pending (x : Slot) : Nat := x.ptail - x.phead
/-- The tokens in the ring from CI to PI − 1. -/
def Slot.tokens (x : Slot) : List Nat := (List.range x.used).map fun k => tblGet (fun _ => 0) x.ring ((x.ci + k) % 64)
/-- Tokens of a prompt buffer. -/
def State.promptCap (s : State) (i : Nat) : Nat := 2 ^ s.rd (ctOf i) F.CONTRAIL.LOG2_TOKENS
/-- The local offset of prompt token number `k` of a slot (R315, R332). -/
def State.promptAddr (s : State) (i k : Nat) : Nat :=
  s.rd (ctOf i) F.CONTRAIL.PROMPT_BASE * 0x200000 + i % 4096 * 4 * s.promptCap i + k % s.promptCap i * 4
/-- Pending prompt token `j`. -/
def State.promptTok (s : State) (i j : Nat) : Nat := s.memLd (s.promptAddr i ((s.slot i).phead + j)) 4

/-- Send a TOKEN message of a ring (R317, R318): nothing goes out on a ring whose session has ended, or while its CONTRAIL is not
enabled. -/
def State.sendToken (s : State) (i first : Nat) (toks : List Nat) (logp : Nat) (fin : Option Nat) (resend keep : Bool) : State :=
  let x := s.slot i
  let c := ctOf i
  if x.lost || !s.on c F.CONTRAIL.ENABLE then s else
  let alive := (x.alive + 1) % 16
  let body := leBytes 4 (handleOf i x) ++ leBytes 4 first
    ++ leBytes 1 (toks.length + (if fin.isSome then 128 else 0))
    ++ leBytes 1 (alive + (if resend then 16 else 0) + (if keep then 32 else 0))
    ++ leBytes 1 (fin.getD 0) ++ leBytes 1 0
    ++ leBytes 4 (if toks.isEmpty || resend then 0 else logp) ++ toks.flatMap (leBytes 4)
  let (crc, s) := match s.checkUnit 5 (i / 4096) with
    | some u => s.checkSpan u body none
    | none => (crc32c body, s)
  let s := s.setSlot i { x with alive := alive, sentAt := s.now }
  ((s.bump c F.CONTRAIL.TOKENS_SENT toks.length).bump c F.CONTRAIL.MESSAGES).gctSend x.session 0x32 0 0 (body ++ leBytes 4 crc)

/-- Resend a ring from CI (R320, R336), and count the tokens resent (R332): nothing where `sendToken` sends nothing. The last token of a closed sequence goes with END (R317). -/
def State.resendRing (s : State) (i : Nat) : State :=
  let x := s.slot i
  if x.used = 0 || x.lost || !s.on (ctOf i) F.CONTRAIL.ENABLE then s else (s.sendToken i x.ci x.tokens 0 (if x.st = 2 then some x.cause else none) true false).bumpSat (ctOf i) F.CONTRAIL.RESENDS x.used

/-- An adapter slot field. -/
def State.ad (s : State) (k : Nat) (f : Fld) : Nat := s.rdB k (pg .contrail 0) f
/-- Write it. -/
def State.setAd (s : State) (k : Nat) (f : Fld) (v : Nat) : State := s.wrB k (pg .contrail 0) f v
/-- A RETIRING slot that is no longer referenced or used becomes FREE (R326). -/
def State.adSettle (s : State) (k : Nat) : State :=
  if s.ad k F.CONTRAIL.AD_STATE = 3 && s.ad k F.CONTRAIL.REFS = 0 && s.ad k F.CONTRAIL.USES = 0 then
    (s.setAd k F.CONTRAIL.AD_STATE 0).setEvt (pg .contrail 0) F.EVT.CONTRAIL.SLOT_FREED
  else s
/-- The sequence takes a pin on an adapter slot (R330). -/
def State.pinTake (s : State) (i k : Nat) : State :=
  (s.setSlot i { s.slot i with pin := some k }).setAd k F.CONTRAIL.REFS (s.ad k F.CONTRAIL.REFS + 1)
/-- The sequence's pin is released (R330). -/
def State.pinDrop (s : State) (i : Nat) : State :=
  match (s.slot i).pin with
  | none => s
  | some k => ((s.setSlot i { s.slot i with pin := none }).setAd k F.CONTRAIL.REFS (s.ad k F.CONTRAIL.REFS - 1)).adSettle k
/-- An open step begins or ends its use of an adapter slot (R330). -/
def State.adUse (s : State) (k : Nat) (begin_ : Bool) : State :=
  if begin_ then s.setAd k F.CONTRAIL.USES (s.ad k F.CONTRAIL.USES + 1)
  else (s.setAd k F.CONTRAIL.USES (s.ad k F.CONTRAIL.USES - 1)).adSettle k
/-- Test 5 of R263 (R329). -/
def State.adapterOk (s : State) (i g k : Nat) : Bool :=
  let x := s.slot i
  match x.pin with
  | some q => q == k
  | none =>
    x.kind != 0 && s.ad k F.CONTRAIL.AD_STATE == 2 && s.ad k F.CONTRAIL.AD_ADAPTER == x.bindId
    && (s.ad k F.CONTRAIL.OWNER == x.cust || s.ad k F.CONTRAIL.PUBLIC == 1)
    && s.ad k F.CONTRAIL.TGROUP_MASK / 2 ^ g % 2 == 1

/-- A slot becomes FREE (R308); it keeps its incarnation. -/
def State.freeSlot (s : State) (i : Nat) : State := s.setSlot i { Slot.init with inc := (s.slot i).inc }
/-- A CLOSING slot whose ring is delivered becomes FREE (R308). -/
def State.slotSettle (s : State) (i : Nat) : State :=
  let x := s.slot i
  if x.st = 2 && x.used = 0 then s.freeSlot i else s
/-- The close of a sequence (R314), its POOL entry apart: pin, prompt, END message, CLOSING or FREE. -/
def State.closeSlot (s : State) (i cause : Nat) : State :=
  let s := s.pinDrop i
  let s := s.setSlot i { s.slot i with phead := 0, ptail := 0 }
  let s := s.sendToken i (s.slot i).pi [] 0 (some cause) false false
  (s.setSlot i { s.slot i with st := 2, cause := cause }).slotSettle i
/-- POOL lets a sequence go (R314). -/
def State.poolClose (s : State) (g h : Nat) : State :=
  match (s.pl g).find h with | some q => s.closeSeq g q | none => s

/-- A bucket that nothing has set. -/
def Bucket.init : Bucket := ⟨0, 0, 0, false, 0, 0, 0⟩
/-- The bucket of a group and customer (R321). -/
def State.bucket (s : State) (g c : Nat) : Bucket := tblGet (fun _ => Bucket.init) s.buckets (g * 4096 + c)
/-- Replace it. -/
def State.setBucket (s : State) (g c : Nat) (b : Bucket) : State :=
  { s with buckets := tblSet (fun _ => Bucket.init) s.buckets (g * 4096 + c) b }
/-- Refill (R322). -/
def Bucket.refill (b : Bucket) (now : Nat) : Bucket :=
  let t := b.rate * (now - b.last) + b.rem
  let lim : Int := 16 * b.cap
  let bal := if lim < b.bal then b.bal else min lim (b.bal + (t / 1000000000 : Nat))
  { b with bal := bal, rem := t % 1000000000, last := now }
/-- A refill of the bucket in State. -/
def State.refill (s : State) (g c : Nat) : State := s.setBucket g c ((s.bucket g c).refill s.now)
/-- Debit (R323): the balance saturates at −2^47. -/
def State.debit (s : State) (g c d : Nat) : State :=
  let b := (s.bucket g c).refill s.now
  s.setBucket g c { b with bal := max (b.bal - d) (-(2 ^ 47)), debited := (b.debited + d) % 2 ^ 64 }
/-- Test 3 of R263: the balance is above 0 after refill, or the bucket is disabled (R321, R322). -/
def State.budgetOk (s : State) (g c : Nat) : Bool × State :=
  let s := s.refill g c
  let b := s.bucket g c
  if !b.en || decide (0 < b.bal) then (true, s) else (false, s.setEvt (pg .contrail 0) F.EVT.CONTRAIL.BUDGET_EMPTY)
/-- A 48-bit code as a signed number, and back. -/
def int48 (v : Nat) : Int := if v < 2 ^ 47 then v else (v : Int) - 2 ^ 48
def code48 (i : Int) : Nat := (i % 2 ^ 48).toNat
/-- The bucket that BK_TGROUP and BK_CUSTOMER show. -/
def State.bkShown (s : State) : Nat × Nat :=
  (s.rd (pg .contrail 0) F.CONTRAIL.BK_TGROUP, s.rd (pg .contrail 0) F.CONTRAIL.BK_CUSTOMER)
/-- A write of BK_BALANCE (R324). -/
def State.bkBalance (s : State) (v : Nat) : State :=
  let (g, c) := s.bkShown
  s.setBucket g c { (s.bucket g c).refill s.now with bal := int48 (v % 2 ^ 48) }
/-- A write of BK_CREDIT (R324). A sum outside the 48-bit range has no stated value: it is free (log entry 18). -/
def State.bkCredit (s : State) (v : Nat) : State :=
  let (g, c) := s.bkShown
  let b := (s.bucket g c).refill s.now
  let t := b.bal + int48 (v % 2 ^ 48)
  if -(2 ^ 47) ≤ t ∧ t < 2 ^ 47 then s.setBucket g c { b with bal := t }
  else let (f, s) := s.free; s.setBucket g c { b with bal := int48 (f % 2 ^ 48) }
/-- A write of RATE, CAP and BK_ENABLE (R322). -/
def State.bkRate (s : State) (v : Word) : State :=
  let (g, c) := s.bkShown
  s.setBucket g c { (s.bucket g c).refill s.now with rate := bits v 31 0, cap := bits v 55 32, en := bits v 56 56 == 1 }

/-- The state of a STEPSEQ: OFFLINE while its group holds no islands (R279). -/
def State.ssState (s : State) (g : Nat) : UState :=
  if s.rd (pg .tgroup g) F.TGROUP.ISLANDS = 0 then .offline else s.stored (pg .stepseq g)
/-- A DRAIN swap of the group is between COMMIT and the end of the copy (R241, R313). -/
def State.drainSwap (s : State) (g : Nat) : Bool :=
  match s.leadUd g with
  | none => false
  | some u => s.rd u F.UPDRAFT.POLICY == 2 && 2 ≤ s.rd u F.UPDRAFT.SWAP_STATE
/-- A session may be named to receive TOKEN messages (R313, R424). -/
def State.tokenSess (s : State) (i : Nat) : Bool := s.established i && (s.sess i).perm / 2 ^ 6 % 2 == 1

/-- Fields of a request body (R309). -/
def rqF (b : List Byte) (o n : Nat) : Nat := leNat ((b.drop o).take n)
/-- Check 1 of R311: OP, RSV and unused fields, counts and enumerations. -/
def seqFieldsOk (b : List Byte) : Bool :=
  let z (o n : Nat) : Bool := rqF b o n == 0
  let cust := rqF b 8 2
  let b10 := rqF b 10 1
  let kind := rqF b 11 1
  let sess := rqF b 12 2
  let a0 := rqF b 16 4
  let a1 := rqF b 20 4
  z 1 1 && z 24 8 &&
  match rqF b 0 1 with
  | 1 => z 4 4 && decide (cust < 4096) && b10 / 8 % 2 == 0 && decide (b10 < 64) && b10 / 16 != 3 && decide (kind < 3) && decide (sess < 4096)
      && decide (a1 < 65536) && b.length == 32
  | 2 => z 8 8 && z 20 4 && decide (1 ≤ a0) && decide (a0 ≤ 2040) && b.length == 32 + 4 * a0
  | 3 => z 8 3 && decide (kind < 3) && z 12 2 && z 16 8 && b.length == 32
  | 4 => z 8 8 && decide (a0 < 2) && z 20 4 && b.length == 32
  | 5 => z 8 4 && decide (sess < 4096) && z 14 10 && b.length == 32
  | 6 => z 8 8 && z 20 4 && b.length == 32
  | 7 => z 8 16 && b.length == 32
  | _ => false
/-- Send the response to a request (R311); the RESULT fields of a request that fails are free values (log entry 36). -/
def State.seqRsp (s : State) (m : Msg) (st : Status) (h r0 r1 : Nat) : State :=
  let (v, s) := if st = .ok then (0, s) else s.free
  let (r0, r1) := if st = .ok then (r0, r1) else (v % 2 ^ 32, v / 2 ^ 32)
  (s.answer st).gctSend m.session 0x31 m.id st.code
    (leBytes 1 st.code ++ leBytes 1 (rqF m.body 0 1) ++ leBytes 2 (rqF m.body 2 2) ++ leBytes 4 h ++ leBytes 4 r0 ++ leBytes 4 r1)
/-- Checks 2 to 4 of R311. -/
def State.seqFail (s : State) (b : List Byte) : Option Status :=
  let h := rqF b 4 4
  let i := slotOf h
  let x := s.slot i
  if !s.ctOn (ctOf i) then some .isolated
  else if x.st = 0 && x.inc = incOf h then some .range
  else if x.inc != incOf h then (if x.st != 0 && laterThan 19 x.inc (incOf h) then some .staleTag else some .range)
  else if (rqF b 0 1 = 2 || rqF b 0 1 = 3) && x.st != 1 then some .illegalState
  else none

/-- The CONTRAIL that SEQ_OPEN takes and its lowest FREE slot (R313). -/
def State.openChoice (s : State) (prefer : Nat) : Option Nat :=
  let lowest (k : Nat) : Option Nat :=
    if s.ctOn (pg .contrail k) then
      ((List.range 4096).map (k * 4096 + ·)).find? fun i => (s.slot i).st == 0
    else none
  match prefer with
  | 1 => lowest 0
  | 2 => lowest 1
  | _ => match lowest 0 with | some i => some i | none => lowest 1
/-- SEQ_OPEN (R313). -/
def State.seqOpen (s : State) (m : Msg) : State :=
  let b := m.body
  let g := rqF b 10 1 % 8
  let prefer := rqF b 10 1 / 16
  let en (k : Nat) : Bool := s.ctOn (pg .contrail k)
  let pref := if prefer = 1 then en 0 else if prefer = 2 then en 1 else en 0 || en 1
  let sess := rqF b 12 2
  if s.ssState g = .offline || !s.on (pg .tgroup g) F.TGROUP.PART_VALID || !pref
    || (s.stored (pg .root 0) == .unmanaged && s.on (pg .root 0) F.ROOT.ORPHANED) then s.seqRsp m .illegalState 0 0 0
  else if s.drainSwap g then s.seqRsp m .deferred 0 0 0
  else if !s.tokenSess sess then s.seqRsp m .perm 0 0 0
  else match s.openChoice prefer with
    | none => (s.setEvt (pg .contrail (if prefer = 2 then 1 else 0)) F.EVT.CONTRAIL.OPEN_REFUSED).seqRsp m .noSpace 0 0 0
    | some i =>
      let inc := (s.slot i).inc + 1
      let inc := if inc = 2 ^ 19 then 1 else inc
      let x : Slot := { Slot.init with
        st := 1, inc := inc, pi := 1, ci := 1, tg := g, cust := rqF b 8 2, session := sess, keep := rqF b 20 4, last := rqF b 16 4
        bindId := rqF b 14 2, kind := rqF b 11 1, sentAt := s.now }
      let s := (s.setSlot i x).bump (ctOf i) F.CONTRAIL.OPENS
      let s := s.setPl g ((s.pl g).setSq ⟨handleOf i x, x.cust, 0, []⟩)
      s.seqRsp m .ok (handleOf i x) i inc
/-- SEQ_PROMPT (R315). -/
def State.seqPrompt (s : State) (m : Msg) : State :=
  let h := rqF m.body 4 4
  let i := slotOf h
  let x := s.slot i
  let n := rqF m.body 16 4
  if s.promptCap i < x.pending + n then s.seqRsp m .noSpace h 0 0
  else
    let s := forEach (List.range n) (fun k s => 
      let a := s.promptAddr i (x.ptail + k)
      (s.touch a 4 12 true).memStore a ((m.body.drop (32 + 4 * k)).take 4)) s
    (s.setSlot i { x with ptail := x.ptail + n }).seqRsp m .ok h (x.pending + n) 0
/-- SEQ_BIND (R329). -/
def State.seqBind (s : State) (m : Msg) : State :=
  let h := rqF m.body 4 4
  let i := slotOf h
  let x := s.slot i
  if x.pin.isSome then s.seqRsp m .illegalState h 0 0
  else (s.setSlot i { x with bindId := rqF m.body 14 2, kind := rqF m.body 11 1 }).seqRsp m .ok h 0 0
/-- SEQ_CLOSE (R314). -/
def State.seqClose (s : State) (m : Msg) : State :=
  let h := rqF m.body 4 4
  let i := slotOf h
  let x := s.slot i
  let force := rqF m.body 16 4 = 1
  let s := if x.st = 1 then (s.poolClose x.tg h).closeSlot i (if force then 2 else 1) else s
  if force then (s.freeSlot i).seqRsp m .ok h x.used 0 else s.seqRsp m .ok h 0 0
/-- SEQ_SUBSCRIBE (R320). -/
def State.seqSubscribe (s : State) (m : Msg) : State :=
  let h := rqF m.body 4 4
  let i := slotOf h
  let x := s.slot i
  let sess := rqF m.body 12 2
  if !s.tokenSess sess then s.seqRsp m .perm h 0 0
  else ((s.setSlot i { x with session := sess, lost := false }).resendRing i).seqRsp m .ok h x.used 0
/-- SEQ_ACK (R319). -/
def State.seqAck (s : State) (m : Msg) : State :=
  let h := rqF m.body 4 4
  let i := slotOf h
  let x := s.slot i
  let a := rqF m.body 16 4
  let n := (a + 2 ^ 32 - x.ci) % 2 ^ 32
  if x.used < n then
    ((s.bumpSat (ctOf i) F.CONTRAIL.ACKS_REFUSED).setEvt (ctOf i) F.EVT.CONTRAIL.ACK_REFUSED).seqRsp m .range h 0 0
  else
    let s := s.setSlot i { x with ci := a }
    (s.slotSettle i).seqRsp m .ok h (64 - (x.used - n)) 0
/-- SEQ_QUERY (R310). -/
def State.seqQuery (s : State) (m : Msg) : State :=
  let h := rqF m.body 4 4
  let x := s.slot (slotOf h)
  s.seqRsp m .ok h x.pi x.pending
/-- A request that starts now: the checks of R311, and its operation `f`. -/
def State.seqStart (s : State) (m : Msg) (f : State → State) : State :=
  if !seqFieldsOk m.body then s.seqRsp m .badArg (rqF m.body 4 4) 0 0
  else if rqF m.body 0 1 = 1 then f s
  else match s.seqFail m.body with
    | some st => s.seqRsp m st (rqF m.body 4 4) 0 0
    | none => f s
/-- The operation of a request. -/
def State.seqOp (s : State) (m : Msg) : State :=
  match rqF m.body 0 1 with
  | 1 => s.seqOpen m | 2 => s.seqPrompt m | 3 => s.seqBind m | 4 => s.seqClose m
  | 5 => s.seqSubscribe m | 6 => s.seqAck m | 7 => s.seqQuery m | _ => s
/-- SEQ_BIND and SEQ_CLOSE of a sequence that the open step of its group has placed wait (R312). -/
def State.seqWaits (s : State) (m : Msg) : Bool :=
  let h := rqF m.body 4 4
  (rqF m.body 0 1 == 3 || rqF m.body 0 1 == 4) && seqFieldsOk m.body && (s.seqFail m.body).isNone
    && s.isPlaced (s.slot (slotOf h)).tg h
/-- A sequence request arrives (R309 to R312). -/
def State.seqReq (s : State) (m : Msg) : State :=
  if s.seqWaits m then { s with seqWait := s.seqWait ++ [m] } else s.seqStart m (·.seqOp m)
/-- Requests that waited for a step start once it has ended (R312). `n` bounds the passes. -/
def State.seqPump (s : State) : Nat → State
  | 0 => s
  | n + 1 =>
    match s.seqWait.find? fun m => m.typ == 0x30 && !s.seqWaits m with
    | none => s
    | some m => ({ s with seqWait := s.seqWait.erase m }.seqStart m (·.seqOp m)).seqPump n

/-- An OPEN ring has sent nothing for KEEPALIVE_MS (R318). -/
def State.keepalive (s : State) (i : Nat) : State :=
  let x := s.slot i
  if x.st = 1 && x.keep != 0 then (s.reach (x.sentAt + x.keep * 1000000)).sendToken i x.pi [] 0 none false true else s

/-- A session ends: its rings are silent (R320). -/
def State.ringsLost (s : State) (sess : Nat) : State :=
  forEach (s.slots.filter fun e => e.2.st != 0 && e.2.session == sess && !e.2.lost)
    (fun e s => (s.setSlot e.1 { e.2 with lost := true }).setEvt (ctOf e.1) F.EVT.CONTRAIL.SESSION_LOST) s

/-- The LAYOUT_ID of a group's step program (R253). -/
def State.progLayout (s : State) (g : Nat) : Nat := s.memLd (s.rd (pg .stepseq g) F.STEPSEQ.PROGRAM_BASE * 64 + 16) 32
/-- LAYERS of a group's checked program. -/
def State.progLayers (s : State) (g : Nat) : Nat := s.rd (pg .stepseq g) F.STEPSEQ.LAYERS_M1 + 1
/-- Groups of a mask whose program is valid. -/
def State.validGroups (s : State) (mask : Nat) : List Nat :=
  (List.range 8).filter fun g => mask / 2 ^ g % 2 == 1 && s.on (pg .stepseq g) F.STEPSEQ.PROGRAM_VALID
/-- Bytes and scales of one array load of a mode (R223). -/
def modeLoad (m : Nat) : Nat × Nat := match fmtOf m with | some f => (loadBytes f, loadPanels f) | none => (0, 0)
/-- LENGTH of a DEAL source of `l` loads in a mode (R223). -/
def dealLen (m l : Nat) : Nat := l * (modeLoad m).1 + p64 (l * (modeLoad m).2 * 4)
/-- The local offset of the image of an adapter slot (R333). -/
def State.adImage (s : State) (k : Nat) : Nat := s.ad k F.CONTRAIL.IMAGE_BASE * 0x200000
/-- An RSV field of an image's header is set, or one of a record's (R325, check 2 of R327). Where the header is not readable, or its record
table does not lie in the image's pages, what cannot be read is judged by the later checks. -/
def State.adRsv (s : State) (k : Nat) : Bool :=
  let img := s.adImage k
  let rd (o n : Nat) : Nat := s.memLd (img + o) n
  if (s.rangeFail img 64).isSome || s.badRead img 64 then false
  else
    let at_ := rd 48 4
    let n := min (rd 8 2) 1024 * min (rd 10 1 % 32) 16
    let inside := decide (at_ + 16 * n ≤ s.ad k F.CONTRAIL.IMAGE_PAGES * 0x200000) && (s.rangeFail (img + at_) (16 * n)).isNone
    rd 10 1 / 32 != 0 || rd 11 5 != 0 || rd 60 4 != 0
      || (inside && (List.range n).any fun i => rd (at_ + 16 * i + 4) 1 / 16 != 0 || rd (at_ + 16 * i + 5) 1 != 0 || rd (at_ + 16 * i + 10) 6 != 0)
/-- Record (layer, j) of an adapter image (R325): source offset, mode, K blocks, column blocks. -/
def State.adRec (s : State) (img layer j : Nat) : Nat × Nat × Nat × Nat :=
  let a := img + s.memLd (img + 48) 4 + 16 * (layer * (s.memLd (img + 10) 1 % 32) + j)
  (s.memLd a 4, s.memLd (a + 4) 1 % 16, s.memLd (a + 6) 2, s.memLd (a + 8) 2)
/-- Checks 2 to 7 of R327. -/
def State.adCheck (s : State) (k : Nat) : Status :=
  let c := pg .contrail 0
  let base := s.ad k F.CONTRAIL.IMAGE_BASE
  let n := s.ad k F.CONTRAIL.IMAGE_PAGES
  let st := s.reg 0 c 0x200
  let img := s.adImage k
  let mask := s.ad k F.CONTRAIL.TGROUP_MASK
  let others := (List.range 4096).filter fun j => j != k && s.ad j F.CONTRAIL.AD_STATE != 0
  let rd (o n : Nat) : Nat := s.memLd (img + o) n
  let recs := rd 10 1 % 32
  let lay := rd 8 2
  let size := rd 52 4
  if mask = 0 || s.adRsv k then .badArg
  else if base < bits st 23 0 || bits st 23 0 + bits st 55 32 < base + n || n = 0
    || others.any (fun j => rangesMeet (base, n) (s.ad j F.CONTRAIL.IMAGE_BASE, s.ad j F.CONTRAIL.IMAGE_PAGES)) then .range
  else match s.rangeFail img (n * 0x200000) with
  | some e => e
  | none =>
    if s.badRead img 64 then .poison
    else if rd 0 4 != 0x41445054 || rd 4 2 != 1 || (s.validGroups mask).any (fun g => s.progLayout g != rd 16 32) then .version
    else if rd 6 2 != s.ad k F.CONTRAIL.RANK_M1 + 1 || recs = 0 || 16 < recs
      || lay = 0 || 1024 < lay || (s.validGroups mask).any (fun g => s.progLayers g != lay) || n * 0x200000 < size || rd 48 4 % 16 != 0
      || size < rd 48 4 + 16 * lay * recs
      || ((List.range lay).any fun l => (List.range recs).any fun j =>
          let (off, m, kb, nb) := s.adRec img l j
          kb != 0 && nb != 0 && (decide (5 < m) || off % 64 != 0 || decide (size < off + dealLen m (kb * nb)))) then .badArg
    else if s.badRead img size then .poison
    else if crc32c ((s.memBytes img size).drop 64) != rd 56 4 then .checkFail
    else if others.any (fun j => s.ad j F.CONTRAIL.AD_ADAPTER == s.ad k F.CONTRAIL.AD_ADAPTER
      && !laterThan 8 (s.ad k F.CONTRAIL.VERSION) (s.ad j F.CONTRAIL.VERSION)) then .staleTag
    else .ok
/-- The key of an INSTALL in progress in State.busy, with SUPERSEDE. -/
def adKey (k : Nat) (sup : Bool) : Nat := 0x100000 + 2 * k + (if sup then 1 else 0)
/-- INSTALL (R327): check 1, and the start of the others. -/
def State.adInstall (s : State) (sup : Bool) : State :=
  let k := s.rd (pg .contrail 0) F.CONTRAIL.AD_INDEX
  if s.ad k F.CONTRAIL.AD_STATE != 0 || !s.takesWork (pg .contrail 0) then
    ((s.setAd k F.CONTRAIL.AD_STATUS Status.illegalState.code).setEvt (pg .contrail 0) F.EVT.CONTRAIL.INSTALL_DONE).answer .illegalState
  else { s.setAd k F.CONTRAIL.AD_STATE 1 with busy := adKey k sup :: s.busy }
/-- The checks of an INSTALL end (R327). -/
def State.adInstallDone (s : State) (k : Nat) : State :=
  let c := pg .contrail 0
  if s.ad k F.CONTRAIL.AD_STATE != 1 || s.stored c = .halted then s else
  let sup := s.busy.contains (adKey k true)
  let s := { s with busy := s.busy.filter fun x => x != adKey k true && x != adKey k false }
  let st := s.adCheck k
  let s := (s.setAd k F.CONTRAIL.AD_STATUS st.code).touch (s.adImage k)
    (max 64 (min (s.memLd (s.adImage k + 52) 4) (s.ad k F.CONTRAIL.IMAGE_PAGES * 0x200000))) 12 false
  let s := if st = .ok then
      let s := s.setAd k F.CONTRAIL.AD_STATE 2
      if sup then
        forEach ((List.range 4096).filter fun j => j != k && s.ad j F.CONTRAIL.AD_STATE == 2 && s.ad j F.CONTRAIL.AD_ADAPTER == s.ad k F.CONTRAIL.AD_ADAPTER)
          (fun j s => (s.setAd j F.CONTRAIL.AD_STATE 3).adSettle j) s
      else s
    else s.setAd k F.CONTRAIL.AD_STATE 0
  s.setEvt c F.EVT.CONTRAIL.INSTALL_DONE
/-- A kill of the CONTRAIL that runs INSTALLs ends them (R59). -/
def State.adKill (s : State) : State :=
  forEach ((List.range 4096).filter fun k => s.ad k F.CONTRAIL.AD_STATE == 1) (fun k s =>
    let s := { s with busy := s.busy.filter fun x => x != adKey k true && x != adKey k false }
    ((s.setAd k F.CONTRAIL.AD_STATUS Status.killed.code).setAd k F.CONTRAIL.AD_STATE 0).setEvt (pg .contrail 0) F.EVT.CONTRAIL.INSTALL_DONE) s
/-- RETIRE of an adapter slot (R326). -/
def State.adRetire (s : State) : State :=
  let k := s.rd (pg .contrail 0) F.CONTRAIL.AD_INDEX
  if s.ad k F.CONTRAIL.AD_STATE != 2 || !s.takesWork (pg .contrail 0) then (s.setAd k F.CONTRAIL.AD_STATUS Status.illegalState.code).answer .illegalState
  else ((s.setAd k F.CONTRAIL.AD_STATUS 0).setAd k F.CONTRAIL.AD_STATE 3).adSettle k

/-- The active ranges of every POOL, in 2 MiB units. -/
def State.poolRanges (s : State) : List (Nat × Nat) := (List.range 8).flatMap fun g => (s.pl g).ranges
/-- A write of ENABLE (R334, R336). -/
def State.ctEnable (s : State) (k v : Nat) : State :=
  let c := pg .contrail k
  if v = 0 then (s.wr c F.CONTRAIL.ENABLE 0).runIff c false
  else if s.on c F.CONTRAIL.ENABLE then s
  else
    let n := 4096 * 4 * 2 ^ s.rd c F.CONTRAIL.LOG2_TOKENS
    let base := s.rd c F.CONTRAIL.PROMPT_BASE
    let okUnit := match s.checkUnit 5 k with
      | some u => s.checkWidth u == 32 && s.rd u F.CHECK.POLY % 2 ^ 32 == 0x1EDC6F41 && s.rd u F.CHECK.INIT % 2 ^ 32 == 0xFFFFFFFF
          && s.rd u F.CHECK.XOROUT % 2 ^ 32 == 0xFFFFFFFF && s.on u F.CHECK.REFIN && s.on u F.CHECK.REFOUT
      | none => false
    if s.gddrSize < base * 0x200000 + n || s.poolRanges.any (rangesMeet (base, n / 0x200000)) then s.answer .range
    else if !okUnit then s.answer .badArg
    else
      let s := (s.wr c F.CONTRAIL.ENABLE 1).runIff c true
      forEach ((s.slots.filter fun e => e.1 / 4096 == k && e.2.st != 0).map (·.1)) (fun i s => s.resendRing i) s
/-- The TOKEN messages that a CONTRAIL has queued and that have not gone out are dropped (R336): what waits behind them on the session takes
their places in its order. -/
def State.tokensDrop (s : State) (k : Nat) : State :=
  forEach (s.sessions.map (·.1)) (fun i s =>
    let x := s.sess i
    let l := x.queue.filter fun q => !(q.typ == 0x32 && leNat (q.body.take 4) / 2 ^ 19 / 4096 == k)
    let first := (x.tx + 2 ^ 32 - x.queue.length) % 2 ^ 32
    if l.length = x.queue.length then s
    else s.setSess i { x with queue := l.zipIdx.map (fun (q, n) => { q with seq := (first + n) % 2 ^ 32 }), tx := (first + l.length) % 2 ^ 32 }) s
/-- A UNIT_RESET of a CONTRAIL (R336): ENABLE is cleared, and the messages it queued and has not sent are dropped; the slots, prompts,
rings, buckets and adapter slots stay, and the other registers return to their reset values (DEDUCED, log entry 35). -/
def State.contrailReset (s : State) (k : Nat) : State :=
  let p := pg .contrail k
  ((s.wr p F.CONTRAIL.ENABLE 0).tokensDrop k).regsReset p ([0x110, 0x138, 0x140, 0x1C0, 0x208] ++ (List.range 8).map fun g => 0x180 + 8 * g)

/-- What a placed entry adds to its ring at the commit (R267, R315, R316): the tokens, the prompt tokens used, and LAST_TOKEN. The
answer is FIRST_TSN. -/
def State.ringCommit (s : State) (i : Nat) (toks : List Nat) (used logp : Nat) (close : Bool) : Nat × State :=
  let x := s.slot i
  let s := if used = 0 then s else s.readAll 12 [(s.promptAddr i (x.phead + used - 1), 4)]
  let lastP := s.promptTok i (used - 1)
  let last := match toks.getLast? with | some t => t | none => if used = 0 then x.last else lastP
  let ring := toks.zipIdx.foldl (fun r (t, k) => let e := (x.pi + k) % 64; tblInsert e t (tblErase e r)) x.ring
  let s := s.setSlot i { x with ring := ring, pi := (x.pi + toks.length) % 2 ^ 32, phead := x.phead + used, last := last }
  let first := if toks.isEmpty then 0 else x.pi
  let s := if close then
      let s := s.pinDrop i
      let s := s.setSlot i { s.slot i with phead := 0, ptail := 0 }
      let s := s.sendToken i (if toks.isEmpty then (s.slot i).pi else first) toks logp (some 0) false false
      (s.setSlot i { s.slot i with st := 2, cause := 0 }).slotSettle i
    else if toks.isEmpty then s else s.sendToken i first toks logp none false false
  (first, s)

end Sys2Proof.Machine
end

