-- ==== Sys2Proof/Machine/UdBase.lean ====
section
/-! DEFINITION. Updraft: the stream table and its check (R221 to R224), the placing of a fill entry in the tiles (R223, R229), uses
and their pacing (R225 to R228), and the ENABLE of an instance (R245). -/

namespace Sys2Proof.Machine

/-- Updraft of a group that has done nothing. -/
def UdSt.init : UdSt := ⟨[], [], [], [], [], [], [], [], none, [], [], 0, [], 0, 0, false⟩
/-- Updraft of a group. -/
def State.ud (s : State) (g : Nat) : UdSt := tblGet (fun _ => UdSt.init) s.uds g
/-- Replace it. -/
def State.setUd (s : State) (g : Nat) (x : UdSt) : State := { s with uds := tblSet (fun _ => UdSt.init) s.uds g x }
/-- The group that an instance serves. -/
def State.udGroup (s : State) (u : Nat) : Option Nat :=
  if s.on (pg .updraft u) F.UPDRAFT.GROUP_VALID then some (s.rd (pg .updraft u) F.UPDRAFT.TGROUP) else none
/-- A field of the lead instance of a group; 0 where there is none. -/
def State.leadRd (s : State) (g : Nat) (f : Fld) : Nat := match s.leadUd g with | some p => s.rd p f | none => 0
/-- Write a field of the lead. -/
def State.leadWr (s : State) (g : Nat) (f : Fld) (v : Nat) : State := match s.leadUd g with | some p => s.wr p f v | none => s
/-- Set an event of the lead. -/
def State.leadEvt (s : State) (g bit : Nat) : State := match s.leadUd g with | some p => s.setEvt p bit | none => s
/-- The current generation of a group, while it is valid. -/
def State.curGen (s : State) (g : Nat) : Option Nat :=
  match s.leadUd g with
  | some p => if s.on p F.UPDRAFT.CURRENT_VALID then some (s.rd p F.UPDRAFT.CURRENT) else none
  | none => none

/-- The local offset of a group's stream table. -/
def State.tblBase (s : State) (g : Nat) : Nat := s.leadRd g F.UPDRAFT.STREAM_BASE * 64
/-- DEFAULT_MODE, MODE_MASK and the fill list (offset, count) of a layer record (R221). -/
def State.lrDefault (s : State) (base layer : Nat) : Nat := s.memLd (base + 64 + 64 * layer) 1 % 16
def State.lrMask (s : State) (base layer : Nat) : Nat := s.memLd (base + 64 + 64 * layer + 2) 2
def State.lrList (s : State) (base layer m : Nat) : Nat × Nat :=
  (s.memLd (base + 64 + 64 * layer + 8 + 8 * m) 4, s.memLd (base + 64 + 64 * layer + 12 + 8 * m) 4)
/-- The list mode of a layer for a mode (R228). -/
def State.listMode (s : State) (base layer m : Nat) : Nat := if s.lrMask base layer / 2 ^ m % 2 = 1 then m else s.lrDefault base layer
/-- Fill entries of a use. -/
def State.fillCount (s : State) (base layer m : Nat) : Nat := (s.lrList base layer (s.listMode base layer m)).2

/-- A fill entry (R222). -/
structure FillEnt where
  src : Nat
  len : Nat
  dst : Nat
  target : Nat
  form : Nat
  fmt : Nat
  sdst : Nat
  kb : Nat
  nb : Nat
  check : Nat
  rsv : Bool
  deriving DecidableEq, Repr
/-- The fill entry at an address. -/
def State.fillAt (s : State) (a : Nat) : FillEnt :=
  let w := s.memLd (a + 16) 4
  ⟨s.memLd a 8 % 2 ^ 45, s.memLd (a + 8) 4, s.memLd (a + 12) 4, w % 2 ^ 20, w / 2 ^ 20 % 8, w / 2 ^ 24 % 16, s.memLd (a + 20) 4,
   s.memLd (a + 24) 2, s.memLd (a + 26) 2, s.memLd (a + 28) 4, s.memLd a 8 / 2 ^ 45 != 0 || w / 2 ^ 23 % 2 != 0 || w / 2 ^ 28 != 0⟩
/-- Entry `e` of the list of a layer in a mode. -/
def State.fillEnt (s : State) (base layer m e : Nat) : FillEnt := s.fillAt (base + (s.lrList base layer m).1 + 32 * e)

/-- The pair of stored form and list mode is permitted (R229). -/
def pairOk (e : FillEnt) (m : Nat) : Bool :=
  decide (e.fmt ≤ 5) && decide (e.form ≤ 2) &&
  (e.fmt == m || (e.form == 2 && ((e.fmt == 0 && (m == 2 || m == 3)) || (e.fmt == 1 && m == 4))))
/-- The group's image holds a range (R224 check 4). -/
def State.inImage (s : State) (g a n : Nat) : Bool :=
  let in_ (b k : Nat) : Bool := decide (b * 0x200000 ≤ a) && decide (a + n ≤ (b + k) * 0x200000)
  let bt := BitVec.ofNat 64 (s.leadRd g F.UPDRAFT.IMG_BT)
  in_ (s.leadRd g F.UPDRAFT.IMG_GM_BASE) (s.leadRd g F.UPDRAFT.IMG_GM_PAGES) || in_ (bits bt 23 0) (bits bt 55 32)

/-- The checks of R224 on the table at `base` for an instance of group `g`. -/
def State.tableCheck (s : State) (g : Option Nat) (base : Nat) : Status :=
  let hd (o n : Nat) : Nat := s.memLd (base + o) n
  let layers := hd 0 2
  let slots := hd 2 1 % 16
  let size := hd 4 4
  match s.rangeFail base 64 with
  | some e => e
  | none =>
  if s.badRead base 64 then .poison
  else if hd 2 1 / 16 != 0 || hd 3 1 != 0 || hd 40 24 != 0 || layers = 0 || 1024 < layers || slots < 2 || 8 < slots
    || size % 64 != 0 || size < 64 + 64 * layers then .badArg
  else match s.rangeFail base size with
  | some e => e
  | none =>
    if s.badRead base size then .poison else
    let lists : List (Nat × Nat × Nat × Nat) := (List.range layers).flatMap fun l =>
      ((List.range 6).filter fun m => s.lrMask base l / 2 ^ m % 2 == 1).map fun m => (l, m, s.lrList base l m)
    let ents : List (Nat × FillEnt) := lists.flatMap fun (_, m, off, n) => (List.range n).map fun e => (m, s.fillAt (base + off + 32 * e))
    if (List.range layers).any (fun l =>
        let a := base + 64 + 64 * l
        s.memLd a 1 / 16 != 0 || s.memLd (a + 1) 1 != 0 || s.lrMask base l / 64 != 0 || s.memLd (a + 4) 4 != 0 || s.memLd (a + 56) 8 != 0)
      || lists.any (fun (_, _, off, n) => off % 32 != 0 || decide (size < off + 32 * n)) || ents.any (fun x => x.2.rsv) then .badArg
    else if (match g with | none => true | some g => (s.curGen g).isNone || hd 8 32 != (s.ud g).layout) then .version
    else if (List.range layers).any (fun l => 5 < s.lrDefault base l || s.lrMask base l / 2 ^ s.lrDefault base l % 2 = 0)
      || ents.any (fun (m, e) => !pairOk e m || e.len % 64 != 0 || decide (0x5000000 < e.len)
          || (e.form == 2 && e.len != dealLen e.fmt (e.kb * e.nb)) || (e.form != 2 && e.sdst != 0)
          || e.dst % 0x10000 != 0 || e.sdst % 64 != 0) then .badArg
    else if ents.any (fun (_, e) => !s.inImage (g.getD 8) e.src e.len) then .range
    else .ok

/-- The key of an action of a page that runs on, in State.busy. -/
def busyKey (p k : Nat) : Nat := p * 16 + k
/-- An action that runs on has begun, or has ended. -/
def State.busySet (s : State) (key : Nat) : State := { s with busy := if s.busy.contains key then s.busy else key :: s.busy }
def State.busyClear (s : State) (key : Nat) : State := { s with busy := s.busy.filter (· != key) }

/-- TABLE_CHECK (R224, R245, R546). -/
def State.udTableCheck (s : State) (u : Nat) : State :=
  let p := pg .updraft u
  if s.on p F.UPDRAFT.ENABLE then (s.wr p F.UPDRAFT.TABLE_STATUS Status.illegalState.code).answer .illegalState
  else s.busySet (busyKey p 1)
/-- TABLE_CHECK ends (R224). -/
def State.udTableDone (s : State) (u : Nat) : State :=
  let p := pg .updraft u
  if !s.busy.contains (busyKey p 1) then s else
  let s := s.busyClear (busyKey p 1)
  let base := s.rd p F.UPDRAFT.STREAM_BASE * 64
  let st := s.tableCheck (s.udGroup u) base
  let s := (s.wr p F.UPDRAFT.TABLE_STATUS st.code).touch base (64 + s.memLd (base + 4) 4) 8 false
  if st = .ok then
    let s := { s with tables := tblInsert u base (tblErase u s.tables) }
    (s.wr p F.UPDRAFT.SLOTS (s.memLd (base + 2) 1 % 16)).wr p F.UPDRAFT.LAYERS_M1 (s.memLd base 2 - 1)
  else { s with tables := tblErase u s.tables }
/-- TABLE_STATUS is OK for the present STREAM_BASE (R245). -/
def State.tableOk (s : State) (u : Nat) : Bool :=
  s.rd (pg .updraft u) F.UPDRAFT.TABLE_STATUS == 0 && tblFind u s.tables == some (s.rd (pg .updraft u) F.UPDRAFT.STREAM_BASE * 64)
/-- A write of ENABLE (R245). -/
def State.udEnable (s : State) (u v : Nat) : State :=
  let p := pg .updraft u
  let on := s.on p F.UPDRAFT.ENABLE
  if v = 0 then
    if on && (match s.udGroup u with | some g => (s.openOf g).isSome | none => false) then s.answer .illegalState
    else s.wr p F.UPDRAFT.ENABLE 0
  else if on then s
  else match s.udGroup u with
    | none => s.answer .illegalState
    | some g =>
      if !s.tableOk u || (s.uds_ g).any (fun w => s.on (pg .updraft w) F.UPDRAFT.ENABLE
          && s.rd (pg .updraft w) F.UPDRAFT.STREAM_BASE != s.rd p F.UPDRAFT.STREAM_BASE) then s.answer .badArg
      else if (s.curGen g).isNone || (s.ud g).barred then s.answer .illegalState
      else if !s.checkAt 1 u 32 then s.answer .badArg
      else s.wr p F.UPDRAFT.ENABLE 1
/-- Every Updraft instance of the group is enabled and takes work (R55), and there is one (R220). -/
def State.udReady (s : State) (g : Nat) : Bool :=
  !(s.uds_ g).isEmpty && (s.uds_ g).all fun u => s.on (pg .updraft u) F.UPDRAFT.ENABLE
    && s.takesWork (pg .updraft u) && !s.on (pg .updraft u) F.COM.ISOLATED

/-- The magnitudes of E2M1 as E4M3 and E5M2 codes (R229). -/
def e2m1As (m mag : Nat) : Nat :=
  if m = 2 then nth 0 [0x00, 0x30, 0x38, 0x3C, 0x40, 0x44, 0x48, 0x4C] mag else nth 0 [0x00, 0x38, 0x3C, 0x3E, 0x40, 0x42, 0x44, 0x46] mag
/-- A widened element code (R229): list mode, stored 4-bit code. -/
def widenCode (m c : Nat) : Nat :=
  if m = 4 then (if c < 8 then c else c + 0xF0)
  else if c % 8 = 0 then 0 else e2m1As m (c % 8) + c / 8 * 128
/-- One widened line (two columns) of half `h` of a stored load (R151, R229). -/
def widenLine (m : Nat) (load : List Byte) (h k : Nat) : List Byte :=
  let src (col : Nat) : List Byte := (load.drop (h * 8704 + col / 4 * 272)).take 272
  let blk (j : Nat) : Nat × Nat := (2 * k + j / 4, j % 4)
  let pairs := (List.range 8).map fun j =>
    let (col, b) := blk j
    let l := src col
    let i := col % 4 * 4 + b
    let data := (l.drop (16 * i)).take 16
    (data.flatMap fun (x : Byte) => [BitVec.ofNat 8 (widenCode m (x.toNat % 16)), BitVec.ofNat 8 (widenCode m (x.toNat / 16))], (l.drop (256 + i)).headD 0)
  pairs.flatMap (·.1) ++ pairs.map (·.2) ++ List.replicate 8 0
/-- The widened 8-bit load of half `h` of a stored 4-bit load. -/
def widenLoad (m : Nat) (load : List Byte) (h : Nat) : List Byte := (List.range 64).flatMap (widenLine m load h)

/-- The list mode widens the stored form. -/
def widens (e : FillEnt) (m : Nat) : Bool := e.form == 2 && e.fmt != m
/-- The shares of a DEAL entry, counted in the output mode (R223): position, first K block, K blocks, first column, columns. -/
def State.dealShares (s : State) (e : FillEnt) (m : Nat) : List (Nat × Nat × Nat × Nat × Nat) :=
  s.wShares 16 e.target 0 (if widens e m then 2 * e.kb else e.kb) 0 e.nb
/-- The leaves and ranges that a fill entry writes in mode `m` (R222, R223). -/
def State.fillRanges (s : State) (e : FillEnt) (m : Nat) : List (Nat × Nat × Nat) :=
  if e.form = 0 then [(s.lead e.target, e.dst, e.len)]
  else if e.form = 1 then (s.leaves e.target).map fun k => (k, e.dst, e.len)
  else (s.dealShares e m).flatMap fun (pos, _, kc, _, nc) =>
    [(pos, e.dst, kc * nc * (modeLoad m).1), (pos, e.sdst, kc * nc * (modeLoad m).2 * 4)].filter fun x => x.2.2 != 0
/-- The writes of a fill entry from its source bytes: leaf, offset, bytes. -/
def State.fillWrites (s : State) (e : FillEnt) (m : Nat) (bs : List Byte) : List (Nat × Nat × List Byte) :=
  if e.form = 0 then [(s.lead e.target, e.dst, bs)]
  else if e.form = 1 then (s.leaves e.target).map fun k => (k, e.dst, bs)
  else
    let (lb, sc) := modeLoad e.fmt
    let scOff := e.kb * e.nb * lb
    let w := widens e m
    let srcLoad (n k : Nat) : List Byte := (bs.drop ((n * e.kb + k) * lb)).take lb
    let outLoad (n k : Nat) : List Byte := if w then widenLoad m (srcLoad n (k / 2)) (k % 2) else srcLoad n k
    let outSc (n k : Nat) : List Byte :=
      if w then (bs.drop (scOff + ((n * e.kb + k / 2) * 2 + k % 2) * 4)).take 4 else (bs.drop (scOff + (n * e.kb + k) * sc * 4)).take (sc * 4)
    (s.dealShares e m).flatMap fun (pos, k0, kc, n0, nc) =>
      let idx := (List.range nc).flatMap fun n => (List.range kc).map fun k => (n0 + n, k0 + k)
      [(pos, e.dst, idx.flatMap fun (n, k) => outLoad n k), (pos, e.sdst, idx.flatMap fun (n, k) => outSc n k)].filter fun x => !x.2.2.isEmpty

/-- An instance of a group has work (R247): fills of armed uses, or, on the lead, a load or a swap copy. -/
def State.udBusy (s : State) (g u : Nat) : Bool :=
  let us := s.uds_ g
  let r := us.idxOf u
  let p := pg .updraft u
  let fills := (s.ud g).uses.any fun w => w.armed && w.failed.isNone && w.todo.any fun e => e % us.length == r
  let ls := s.rd p F.UPDRAFT.LOAD_STATE
  fills || (r == 0 && (ls == 1 || ls == 2 || s.rd p F.UPDRAFT.SWAP_STATE == 4))
/-- The UPDRAFT instances of a group show RUNNING while they fill, load or copy (R247). -/
def State.udRun (s : State) (g : Nat) : State :=
  forEach (s.uds_ g) (fun u s => s.runIff (pg .updraft u) (s.udBusy g u)) s

/-- The transfers of a use that are still to land are abandoned. -/
def State.useAbort (s : State) (g : Nat) (w : Use) : State :=
  let base := s.tblBase g
  let m := s.listMode base w.layer w.mode
  if !w.armed then s else
  forEach w.todo (fun e s => forEach (s.fillRanges (s.fillEnt base w.layer m e) m) (fun (pos, off, len) s => s.granAbort pos off len) s) s
/-- Updraft abandons every armed use and every fill in flight (R228). -/
def State.udAbandon (s : State) (g : Nat) : State :=
  let s := forEach (s.ud g).uses (fun w s => s.useAbort g w) s
  (s.setUd g { s.ud g with uses := [] }).udRun g

/-- A section's unit-0 stream exists (R254): descriptors of the section for a unit. -/
def State.progBase (s : State) (g : Nat) : Nat := s.rd (pg .stepseq g) F.STEPSEQ.PROGRAM_BASE * 64
/-- Offset and count of a section's descriptors for a unit (R254). -/
def State.section_ (s : State) (g sec u : Nat) : Nat × Nat :=
  let b := s.progBase g
  let a := b + s.memLd (b + 48) 4 + 8 * (sec * (s.rd (pg .stepseq g) F.STEPSEQ.UNITS_M1 + 1) + u)
  (s.memLd a 4, s.memLd (a + 4) 4)
/-- The mode that a layer takes for a staged recipe value (R187, R254), and whether the staged mode had no stream. -/
def State.resolveMode (s : State) (g layer raw : Nat) : Nat × Bool :=
  if raw = 0xF then (s.lrDefault (s.tblBase g) layer, false)
  else if (s.section_ g (1 + 6 * layer + raw) 0).2 = 0 then (s.lrDefault (s.tblBase g) layer, true)
  else (raw, false)
/-- The mode latched for a layer of the open step. -/
def State.latchedMode (s : State) (g layer : Nat) : Nat := tblGet (fun _ => 0xF) (s.hl g).latched layer
/-- The layer is skipped by a grant (R258). -/
def Grant.skips (x : Grant) (layer : Nat) : Bool := x.skip / 2 ^ layer % 2 == 1
/-- The held grants of a group. -/
def State.heldOf (s : State) (g : Nat) : List Grant := match tblFind g s.steps with | some x => x.held | none => []

/-- A use of a layer may be armed under a generation (R244): it is current, or the copy has passed the layer. -/
def State.frontOk (s : State) (g layer gen : Nat) : Bool :=
  s.curGen g == some gen || (s.leadRd g F.UPDRAFT.GLOBALS_DONE == 1 && decide (layer < s.leadRd g F.UPDRAFT.COPY_FRONT))
/-- The use that comes next in the group's sequence (R225, R227): the grant it belongs to, the layer, and whether its step is
open. -/
def State.nextUse (s : State) (g : Nat) : Option (Grant × Nat × Bool) :=
  let layers := s.progLayers g
  let held (n : Nat) : Option Grant := (s.heldOf g).find? fun x => x.step == n % 2 ^ 32
  match ((s.ud g).uses.filter fun w => !w.committed).getLast?, s.openOf g with
  | none, some o => some (o.grant, 0, true)
  | none, none => none
  | some w, some o =>
      if w.step = o.grant.step then
        if w.layer + 1 < layers then some (o.grant, w.layer + 1, true) else (held (w.step + 1)).map fun x => (x, 0, false)
      else if w.layer + 1 < layers then (held w.step).map fun x => (x, w.layer + 1, false) else none
  | some w, none => if w.layer + 1 < layers then (held w.step).map fun x => (x, w.layer + 1, false) else none
/-- Arm a use: the granules that its fills write are cleared (R225), or it is released at once where its layer is skipped
(R264). -/
def State.armUse (s : State) (g : Nat) (w : Use) (skip : Bool) : Use × State :=
  if skip then ({ w with armed := true, released := true, todo := [], failed := none }, s)
  else
    let base := s.tblBase g
    let m := s.listMode base w.layer w.mode
    let n := s.fillCount base w.layer w.mode
    let s := forEach (List.range n) (fun e s =>
      forEach (s.fillRanges (s.fillEnt base w.layer m e) m) (fun (pos, off, len) s => s.granBegin pos off len) s) s
    let s := forEach (s.uds_ g) (fun u s => s.wr (pg .updraft u) F.UPDRAFT.ARMED_LAYER w.layer) s
    ({ w with armed := true, released := false, failed := none, todo := List.range n, retried := [] }, s)
/-- Updraft arms nothing while the open step is being killed or is held (R228, R230): it arms again for the re-run. -/
def State.stopsArm (s : State) (g : Nat) : Bool :=
  match s.openOf g with
  | some o => o.cause.isSome || s.on (pg .stepseq g) F.STEPSEQ.HELD_STEP
  | none => false
/-- USE_ARM (R225, R227, R228, R244): a use that must be armed again comes first, then the next of the sequence. A use that has
left the window stays while fills of it are still to land: a release stops none (R226). -/
def State.useArm (s : State) (g : Nat) : State :=
  let x := s.ud g
  let slots := s.leadRd g F.UPDRAFT.SLOTS
  if !s.udReady g || s.stopsArm g then s else
  match x.uses.find? fun w => !w.armed, s.openOf g with
  | some w, some o =>
      if w.step = o.grant.step && s.frontOk g w.layer w.gen then
        let (w', s) := s.armUse g w (o.grant.skips w.layer)
        (s.setUd g { s.ud g with uses := (s.ud g).uses.map fun y => if y.step == w.step && y.layer == w.layer then w' else y }).udRun g
      else s
  | some _, none => s
  | none, _ =>
    match s.nextUse g with
    | none => s
    | some (gr, layer, isOpen) =>
      let far := x.uses.length < slots || ((x.uses.drop (x.uses.length - slots)).headD ⟨0, 0, 0, 0, true, true, none, [], [], false⟩).released
      let same := match (x.uses.filter fun w => !w.committed).getLast? with | some w => w.gen == gr.gen | none => true
      let mode := if isOpen then s.latchedMode g layer else (s.resolveMode g layer (s.staged_ g layer)).1
      if far && s.frontOk g layer gr.gen && (isOpen || same || s.curGen g != some gr.gen) then
        let (w, s) := s.armUse g ⟨gr.step, layer, mode, gr.gen, false, false, none, [], [], false⟩ (gr.skips layer)
        let y := s.ud g
        let n := if slots < y.uses.length then y.uses.length - slots else 0
        let late := (y.uses.take n).filter fun w => w.failed.isNone && !w.todo.isEmpty
        (s.setUd g { y with uses := late ++ y.uses.drop n ++ [w] }).udRun g
      else s
/-- The use of a layer in the open step is armed, or has been and its slot went to a later use (R225). -/
def State.useArmed (s : State) (g step layer : Nat) : Bool :=
  match (s.ud g).uses.find? fun w => w.step == step && w.layer == layer with
  | some w => w.armed
  | none => (s.ud g).uses.any fun w => !w.committed && (w.step != step || decide (layer < w.layer))
/-- A step opens (R227): uses armed ahead for another step are abandoned; those whose mode differs from the latched one are to be
armed again. -/
def State.udOpen (s : State) (g step : Nat) : State :=
  let x := s.ud g
  let (mine, other) := (x.uses.filter fun w => !w.committed).partition fun w => w.step == step
  let s := forEach other (fun w s => s.useAbort g w) s
  let stale (w : Use) : Bool := w.mode != s.latchedMode g w.layer && !w.released
  let s := forEach (mine.filter stale) (fun w s => s.useAbort g w) s
  let s := s.setUd g { x with uses := (x.uses.filter (·.committed)) ++ mine.map fun w => if stale w then { w with armed := false, todo := [], mode := s.latchedMode g w.layer } else w }
  (if mine.any stale then s.leadEvt g F.EVT.UPDRAFT.REARM else s).udRun g
/-- A step commits: its uses are released (R226, R267); those armed ahead stay, and a fill still in flight goes on. -/
def State.udCommit (s : State) (g step : Nat) : State :=
  let x := s.ud g
  (s.setUd g { x with uses := (x.uses.filter fun w => w.step != step || w.armed).map fun w =>
    if w.step == step then { w with released := true, committed := true } else w }).udRun g

end Sys2Proof.Machine
end

