-- ==== Sys2Proof/Machine/SqBase.lean ====
section
/-! DEFINITION. The exchange plan as Squall reads it (R281, R287, R288), the check of a plan (R289), READY notices and bundles
(R295, R296), and the abandoning of a step's jobs (R273, R302). -/

namespace Sys2Proof.Machine

/-- A SQUALL after reset. -/
def SqSt.init : SqSt := ⟨[], [], [], []⟩
/-- The SQUALL of a number. -/
def State.squ (s : State) (k : Nat) : SqSt := tblGet (fun _ => SqSt.init) s.squalls k
/-- Replace it. -/
def State.setSqu (s : State) (k : Nat) (x : SqSt) : State := { s with squalls := tblSet (fun _ => SqSt.init) s.squalls k x }
/-- The SQUALL that serves a group (R281). -/
def State.squallOf (s : State) (g : Nat) : Option Nat :=
  (List.range 2).find? fun k => !absentUnit s.cfg .squall k && s.rd (pg .squall k) F.SQUALL.SQ_GROUPS / 2 ^ g % 2 == 1
/-- The plan of a group. -/
def State.planBase (s : State) (k g : Nat) : Nat := s.rdB g (pg .squall k) F.SQUALL.PLAN_BASE * 64
/-- PLAN_VALID of a group. -/
def State.planValid (s : State) (k g : Nat) : Bool := s.rdB g (pg .squall k) F.SQUALL.PLAN_VALID == 1
/-- The checked program of a group launches Squall jobs (R253). -/
def State.usesSquall (s : State) (g : Nat) : Bool := s.memLd (s.progBase g + 14) 2 % 2 == 1

/-- A job record (R288). -/
structure JobRec where
  kind : Nat
  accum : Bool
  ranked : Bool
  tree : Bool
  layer : Nat
  trigger : Nat
  slot : Nat
  first : Nat
  units : Nat
  markOff : Nat
  router : Nat
  src : Nat
  dst : Nat
  elems : Nat
  srcStride : Nat
  dstStride : Nat
  expBase : Nat
  proj : Nat
  peerFirst : Nat
  peers : Nat
  timeout : Nat
  cap : Nat
  rowBytes : Nat
  rsv : Bool
  deriving DecidableEq, Repr
/-- The job record at an address. -/
def State.jobRec (s : State) (a : Nat) : JobRec :=
  let f (o n : Nat) : Nat := s.memLd (a + o) n
  let b := f 1 1
  ⟨f 0 1, b % 2 == 1, b / 2 % 2 == 1, b / 4 % 2 == 1, f 2 2, f 4 2, f 6 1 % 64, f 8 2 % 512, f 10 2 % 1024, f 12 4, f 16 4, f 20 4, f 24 4,
   f 28 4, f 32 4, f 36 4, f 40 2, f 42 2 % 4, f 44 2, f 46 1, f 48 2, f 50 2, f 52 4,
   b / 8 != 0 || f 6 1 / 64 != 0 || f 7 1 != 0 || f 8 2 / 512 != 0 || f 10 2 / 1024 != 0 || f 42 2 / 4 != 0 || f 47 1 != 0 || f 56 8 != 0⟩
/-- Job `i` of a group's plan. -/
def State.sqJob (s : State) (k g i : Nat) : JobRec :=
  let b := s.planBase k g
  s.jobRec (b + s.memLd (b + 40) 4 + 64 * i)
/-- Jobs of a group's plan. -/
def State.jobCount (s : State) (k g : Nat) : Nat := s.memLd (s.planBase k g + 6) 2

/-- A peer, owner or gateway entry (R287). -/
structure Peer where
  appl : Nat
  pkg : Nat
  dom : Nat
  tg : Nat
  unit : Nat
  deriving DecidableEq, Repr
/-- An entry from its bits. -/
def peerOf (w : Nat) : Peer := ⟨w % 2 ^ 16, w / 2 ^ 16 % 128, w / 2 ^ 24 % 8, w / 2 ^ 28 % 8, w / 2 ^ 32 % 512⟩
/-- The peers of a job, in slot order. -/
def State.jobPeers (s : State) (k g : Nat) (j : JobRec) : List Peer :=
  let b := s.planBase k g
  (List.range j.peers).map fun i => peerOf (s.memLd (b + s.memLd (b + 44) 4 + 8 * (j.peerFirst + i)) 8)
/-- This package's place among a job's peers. -/
def State.jobRank (s : State) (g : Nat) (ps : List Peer) : Nat := (ps.findIdx? fun q => q.appl == s.applNum && q.tg == g).getD 0
/-- The owner of an expert, and the gateway of a domain (R287). -/
def State.ownerOf (s : State) (k g e : Nat) : Peer := let b := s.planBase k g; peerOf (s.memLd (b + s.memLd (b + 48) 4 + 4 * e) 4)
def State.gatewayOf (s : State) (k g d : Nat) : Peer := let b := s.planBase k g; peerOf (s.memLd (b + s.memLd (b + 52) 4 + 4 * d) 4)

/-- Entry `u` of the tile map of a STEPSEQ (R250): the page it names. -/
def State.mapPage (s : State) (g u : Nat) : Nat := s.rdB u (pg .stepseq g) F.STEPSEQ.MAP_PAGE
/-- The entry is VALID. -/
def State.mapValid (s : State) (g u : Nat) : Bool := s.rdB u (pg .stepseq g) F.STEPSEQ.MAP_VALID == 1
/-- Units of a group's program. -/
def State.unitCount (s : State) (g : Nat) : Nat := s.rd (pg .stepseq g) F.STEPSEQ.UNITS_M1 + 1
/-- The pages of the units of a group's program. -/
def State.mapPages (s : State) (g : Nat) : List Nat := (List.range (s.unitCount g)).map (s.mapPage g)
/-- The pages of a job's units. -/
def State.jobUnits (s : State) (g : Nat) (j : JobRec) : List Nat := (List.range j.units).map fun i => s.mapPage g (j.first + i)
/-- The leaves of a job's units, in order. -/
def State.jobLeaves (s : State) (g : Nat) (j : JobRec) : List Nat := (s.jobUnits g j).flatMap s.leaves
/-- A leaf of a job: its tile position, the unit of the job that it belongs to, and its leaf index within that unit (R296). -/
structure Seat where
  pos : Nat
  unit : Nat
  leaf : Nat
  deriving DecidableEq, Repr
/-- The leaves of a job's units with their places, in the order of `jobLeaves`. -/
def State.jobSeats (s : State) (g : Nat) (j : JobRec) : List Seat :=
  (s.jobUnits g j).zipIdx.flatMap fun (p, u) => (s.leaves p).zipIdx.map fun (pos, l) => ⟨pos, u, l⟩

/-- The sections of a layer field of a job (R288): the modes of a layer, or the prologue or the epilogue. -/
def jobSections (layers l : Nat) : List Nat :=
  if l = 0xFFFE then [0] else if l = 0xFFFF then [1 + 6 * layers] else (List.range 6).map fun m => 1 + 6 * l + m
/-- The address of descriptor `i` of a section for a unit. -/
def State.progDesc (s : State) (g sec u i : Nat) : Nat := s.memLd (s.progBase g + (s.section_ g sec u).1 + 64 * i) 64
/-- The descriptors of a section for a unit, with their index. -/
def State.progDescs (s : State) (g sec u : Nat) : List (Nat × Nat) := (List.range (s.section_ g sec u).2).map fun i => (i, s.progDesc g sec u i)

/-- The entries of an owner table: one for each expert, of as many experts as a TOPK of a DISPATCH job's sections has, and one at least
(DEDUCED, log entry 186: R287 gives the table no count). -/
def State.ownerCount (s : State) (g : Nat) (jobs : List JobRec) : Nat :=
  ((jobs.filter fun j => j.kind == 3).flatMap fun j => (jobSections (s.progLayers g) j.layer).flatMap fun sec =>
    (List.range j.units).flatMap fun i => ((s.progDescs g sec (j.first + i)).filter fun x => dClass x.2 == 0x20 && dOp x.2 == 0x12).map
      fun x => dfld x.2 20 0 32).foldl max 1
/-- The checks of R289, in their order. -/
def State.planFail (s : State) (k g : Nat) : Status :=
  let b := s.planBase k g
  let f (o n : Nat) : Nat := s.memLd (b + o) n
  let layers := s.progLayers g
  let sp := pg .stepseq g
  match s.rangeFail b 64 with
  | some e => e
  | none =>
  if s.badRead b 64 then .poison
  else if f 0 4 != 0x5351504C || f 4 2 != 1 || f 8 32 != s.memLd (s.progBase g + 16) 32 || !s.on sp F.STEPSEQ.PROGRAM_VALID then .version
  else
    let n := f 6 2
    let jt := f 40 4
    let within (o len : Nat) : Bool := (s.rangeFail (b + o) len).isNone && !s.badRead (b + o) len
    if n = 0 || 16384 < n || jt % 64 != 0 || jt < 64 || f 56 8 != 0 || !within jt (64 * n) then .badArg else
    let jobs := (List.range n).map (s.sqJob k g)
    let badPkg (o i : Nat) : Bool := let w := f (o + 4 * i) 4; w / 2 ^ 23 % 2 != 0 || w / 2 ^ 27 != 0
    let badTable (o n : Nat) : Bool := o != 0 && (!within o (4 * n) || (List.range n).any (badPkg o))
    let badPeer (w : Nat) : Bool := w / 2 ^ 23 % 2 != 0 || w / 2 ^ 27 % 2 != 0 || w / 2 ^ 31 % 2 != 0 || w / 2 ^ 41 != 0
    if jobs.any fun j => j.rsv || j.kind = 0 || 7 < j.kind || j.units = 0 || 512 < j.units || j.peers = 0 || 128 < j.peers
        || (decide (layers ≤ j.layer) && decide (j.layer < 0xFFFE))
        || !within (f 44 4 + 8 * j.peerFirst) (8 * j.peers) || ((j.kind == 3 || j.kind == 4) && (j.rowBytes % 64 != 0 || j.rowBytes == 0))
        || (List.range j.peers).any fun i => badPeer (s.memLd (b + f 44 4 + 8 * (j.peerFirst + i)) 8) then .badArg
    else if badTable (f 48 4) (s.ownerCount g jobs) || badTable (f 52 4) 8 then .badArg
    else if jobs.any fun j => decide (s.unitCount g < j.first + j.units)
        || (jobSections layers j.layer).any fun sec => (s.section_ g sec 0).2 != 0 && (List.range j.units).any fun i =>
            ((s.progDescs g sec (j.first + i)).filter fun x => dCmdId x.2 == j.trigger).length != 1 then .badArg
    else if jobs.any fun j => (decide (3 ≤ j.kind) && ((s.jobPeers k g j).filter fun q => q.appl == s.applNum && q.tg == g).length != 1)
        || ((j.kind == 3 || j.kind == 4) && (f 48 4 == 0 || f 52 4 == 0)) then .badArg
    else if jobs.any fun j => (s.jobLeaves g j).any fun pos =>
        let inW (o len : Nat) : Bool := o % 2 ^ 32 < 2 ^ 27 && inRegion (s.tl pos).regions [3] o len
        !inW j.markOff 8 || (j.kind ≤ 4 && !inW j.router 64) || (2 ≤ j.kind && (!inW j.src 1 || !inW j.dst 1))
          || (j.kind == 1 && !(decide (j.dst < 2 ^ 27) && inRegion (s.tl pos).regions [1] j.dst 1)) then .range
    else .ok

/-- What PLAN_CHECK reads of a plan: the header, and where that is one, the jobs, their peers, the owner and gateway tables, and the program's
descriptors of the jobs' sections. -/
def State.planReads (s : State) (k g : Nat) : List (Nat × Nat) :=
  let b := s.planBase k g
  let f (o n : Nat) : Nat := s.memLd (b + o) n
  if f 0 4 != 0x5351504C || f 4 2 != 1 || 16384 < f 6 2 then [(b, 64)]
  else
    let jobs := (List.range (f 6 2)).map (s.sqJob k g)
    (b, 64) :: (b + f 40 4, 64 * f 6 2) :: (jobs.map fun j => (b + f 44 4 + 8 * j.peerFirst, 8 * j.peers))
    ++ (jobs.flatMap fun j => (jobSections (s.progLayers g) j.layer).flatMap fun sec => (List.range j.units).map fun i =>
        let (o, n) := s.section_ g sec (j.first + i); (s.progBase g + o, 64 * n))
    ++ (if f 48 4 = 0 then [] else [(b + f 48 4, 4 * s.ownerCount g jobs)]) ++ (if f 52 4 = 0 then [] else [(b + f 52 4, 32)])
/-- PLAN_CHECK (R289). -/
def State.planCheck (s : State) (k : Nat) : State :=
  let p := pg .squall k
  let g := s.rd p F.SQUALL.PLAN_SEL
  if (s.openOf g).isSome || !(s.heldOf g).isEmpty then (s.wrB g p F.SQUALL.PLAN_STATUS Status.illegalState.code).answer .illegalState
  else s.busySet (busyKey p g)
/-- PLAN_CHECK ends. -/
def State.planCheckDone (s : State) (k g : Nat) : State :=
  let p := pg .squall k
  if !s.busy.contains (busyKey p g) then s else
  let s := s.busyClear (busyKey p g)
  let st := s.planFail k g
  let s := (s.wrB g p F.SQUALL.PLAN_STATUS st.code).readAll 12 (s.planReads k g)
  if st = .ok then (s.wrB g p F.SQUALL.PLAN_VALID 1).wrB g p F.SQUALL.JOBS (s.jobCount k g) else s.wrB g p F.SQUALL.PLAN_VALID 0
/-- PLAN_VALID of a group is cleared by a write (R289, R305). -/
def State.planClear (s : State) (k g : Nat) : State :=
  let p := pg .squall k
  let s := s.busyClear (busyKey p g)
  if s.planValid k g then (s.wrB g p F.SQUALL.PLAN_VALID 0).setEvt p F.EVT.SQUALL.PLAN_INVALID else s
/-- A write of PLAN_BASE (R289). -/
def State.planBaseWrite (s : State) (k : Nat) (v : Word) : State :=
  let p := pg .squall k
  let g := s.rd p F.SQUALL.PLAN_SEL
  (s.setReg g p 0x110 (v &&& 0x1FFFFFFFFFC0)).planClear k g
/-- A write of SQ_GROUPS (R304). -/
def State.sqGroupsWrite (s : State) (k v : Nat) : State :=
  let p := pg .squall k
  let old := s.rd p F.SQUALL.SQ_GROUPS
  let other := if absentUnit s.cfg .squall (1 - k) then 0 else s.rd (pg .squall (1 - k)) F.SQUALL.SQ_GROUPS
  let bit (x g : Nat) : Bool := x / 2 ^ g % 2 == 1
  if (List.range 8).any fun g => (bit v g && !bit old g && bit other g)
      || (bit v g != bit old g && ((s.openOf g).isSome || !(s.heldOf g).isEmpty)) then s.answer .illegalState
  else s.wr p F.SQUALL.SQ_GROUPS v

/-- SQUALL is RUNNING while a job is active (R305), and JOBS_ACTIVE counts them. -/
def State.sqSettle (s : State) (k : Nat) : State :=
  let n := (s.squ k).jobs.length
  (s.wr (pg .squall k) F.SQUALL.JOBS_ACTIVE n).runIff (pg .squall k) (n != 0)
/-- A discarded arrival is counted (R303). -/
def State.sqStale (s : State) (k : Nat) : State := (s.bump (pg .squall k) F.SQUALL.STALE_ARRIVALS).setEvt (pg .squall k) F.EVT.SQUALL.STALE_ARRIVAL

/-- The bytes of a bundle that has landed. -/
def Bundle.bytes (b : Bundle) : List Byte :=
  ((b.frags.mergeSort fun x y => decide (x.1 ≤ y.1)).flatMap (·.2)).take b.total
/-- Every byte of the bundle has arrived (R384). -/
def Bundle.done (b : Bundle) : Bool := decide (b.total ≤ (b.frags.map fun x => x.2.length).sum)
/-- Fields of a bundle header (R296). -/
def Bundle.count (b : Bundle) : Nat := leNat ((b.bytes.drop 14).take 2)
def Bundle.rowBytes (b : Bundle) : Nat := leNat ((b.bytes.drop 16).take 4)
def Bundle.chunk (b : Bundle) : Nat := leNat ((b.bytes.drop 20).take 2)
def Bundle.round (b : Bundle) : Nat := leNat ((b.bytes.drop 22).take 2)
/-- Tag `i` of a bundle: SRC_ROW, RANK, EXPERT. -/
def Bundle.tag (b : Bundle) (i : Nat) : Nat × Nat × Nat :=
  let t := (b.bytes.drop (64 + 16 * i)).take 16
  (leNat (t.take 2), leNat ((t.drop 2).take 1), leNat ((t.drop 4).take 2))
/-- The 16 bytes of tag `i`, and the bytes of row `i`. -/
def Bundle.tagBytes (b : Bundle) (i : Nat) : List Byte := (b.bytes.drop (64 + 16 * i)).take 16
def Bundle.row (b : Bundle) (i : Nat) : List Byte := (b.bytes.drop (64 + 16 * b.count + b.rowBytes * i)).take b.rowBytes
/-- The bundle belongs to a job of a step. -/
def Bundle.of (b : Bundle) (g step gen job : Nat) : Bool := b.g == g && b.step == step && b.gen == gen && b.job == job

/-- The tag is that of the open step of a group, or of its lowest held grant (R295). -/
def State.readyTag (s : State) (g step gen : Nat) : Bool :=
  (match s.openOf g with | some o => o.grant.step == step && o.grant.gen == gen | none => false)
  || (match (s.heldOf g).head? with | some x => x.step == step && x.gen == gen | none => false)
/-- What a SQUALL keeps of a group's steps: READY notices, bundles landed and bundles to forward of the tags of R295. A bundle that goes
although it is still to be forwarded, or to be placed by a job that `took` it not, is counted as a stale arrival (R303). -/
def State.sqPrune (s : State) (g : Nat) (took : Bundle → Bool := fun _ => false) : State :=
  match s.squallOf g with
  | none => s
  | some k =>
    let x := s.squ k
    let keep (g' step gen : Nat) : Bool := g' != g || s.readyTag g step gen
    let lost := x.forward ++ x.landed.filter fun b => b.orig != s.applNum && !took b
    let s := forEach (lost.filter fun b => !keep b.g b.step b.gen) (fun _ s => s.sqStale k) s
    s.setSqu k { x with ready := x.ready.filter (fun r => keep r.1 r.2.1 r.2.2.1), landed := x.landed.filter (fun b => keep b.g b.step b.gen),
                        forward := x.forward.filter (fun b => keep b.g b.step b.gen) }

/-- Set or clear a bit of the mark word of every leaf of a job (R273, R290). A poisoned word stays poisoned (log entry 206). -/
def State.markJob (s : State) (g : Nat) (j : JobRec) (b : Bool) : State :=
  forEach (s.jobLeaves g j) (fun pos s =>
    let a := scr pos j.markOff
    let w := s.ld a 8
    s.st a 8 (if b then w ||| 2 ^ j.slot else w &&& (2 ^ 64 - 1 - 2 ^ j.slot))) s
/-- Requests of a group's Squall jobs. -/
def sqReq (g idx : Nat) (r : Req) : Bool := r.kind == 1 && r.a == g && r.b == idx
/-- The transfers of a job's requests that are dropped are abandoned in their granules (R124, R302). -/
def State.sqDropReqs (s : State) (f : Req → Bool) : State :=
  let out := (s.fab.reqs ++ s.fab.wait).filter fun r => f r && !r.retired && r.pkt.op == 0x01
  (forEach out (fun r s => s.granAbort r.pos r.off r.pkt.len) s).retireReqs f
/-- Every Squall job of a group's step is abandoned (R302): requests are retired, and nothing further is sent. Bundles that peers sent,
those that wait to go on among them, are kept while the tag is that of the step (R273, `sqPrune`). With `rerun` the marks of every job are
cleared as well (R273). -/
def State.sqAbandon (s : State) (g : Nat) (rerun : Bool) : State :=
  match s.squallOf g with
  | none => s
  | some k =>
    let x := s.squ k
    let s := s.sqDropReqs fun r => r.kind == 1 && r.a == g
    let s := (s.setSqu k { x with jobs := x.jobs.filter fun j => j.g != g,
                                  landed := x.landed.filter fun b => !(b.g == g && b.orig == s.applNum) }).sqSettle k
    if rerun && s.planValid k g then forEach ((List.range (s.jobCount k g)).map (s.sqJob k g)) (fun j s => s.markJob g j false) s else s

end Sys2Proof.Machine
end

