-- ==== Sys2Proof/Machine/Kill.lean ====
section
/-! DEFINITION. Kills: of a tile or gang (R94, R142) with the retiring of its requests, and of the open step of a group by each of
the causes of R270. -/

namespace Sys2Proof.Machine

/-- A kill of a tile or gang begins (R94, R143): `scope` is a step tag, or none for every command; `after` the state that follows. -/
def State.tileKill (s : State) (p : Nat) (scope : Option (Nat × Nat)) (after : UState) : State :=
  let st := s.stored p
  if !(st == .idle || st == .running || st == .draining || st == .halted || st == .killing) then s else
  let had := if st = .killing then (s.sq p).stopped.length else 0
  let s := s.killBegin p scope after
  let s := forEach ((s.sq p).stopped.drop had) (fun r s => s.killOne p r) s
  s.retireCmd p (s.sq p).stopped

/-- How a later cause of a kill stands to an earlier one: the higher decides what follows (R269, R270). -/
def Cause.rank : Cause → Nat
  | .noUnit _ => 9
  | .abortHalt _ _ => 7
  | .hold _ _ => 6
  | .abort st => if st = .killed then 3 else 5
  | .urgent _ => 4
  | .wait => 2
  | .rerun => 1

/-- STEPSEQ kills the open step of a group (R270, R271): every unit of the map, Updraft's uses (R228), Squall's jobs (R302). While
the step is being killed, a cause of a higher rank takes the place of the earlier one. -/
def State.stepKill (s : State) (g : Nat) (c : Cause) : State :=
  match s.openOf g with
  | none => s
  | some o =>
    let sp := pg .stepseq g
    match o.cause with
    | some old => if old.rank < c.rank then s.setOpen g (some { o with cause := some c }) else s
    | none =>
      if s.on sp F.STEPSEQ.HELD_STEP then
        (match c with
          | .noUnit _ | .abortHalt _ _ | .abort _ | .rerun => (s.setOpen g (some { o with cause := some c, since := s.now })).enter sp .killing
          | _ => s)
      else
        let s := (s.setOpen g (some { o with cause := some c, since := s.now })).enter sp .killing
        let tag := (o.grant.step, o.grant.gen)
        let s := forEach (s.mapPages g) (fun p s => s.tileKill p (some tag) .idle) s
        (s.udAbandon g).sqAbandon g false
/-- A failed fill kills and holds the open step (R230, R270). No command caused it, so HALT_LAYER takes a free value (log 39). -/
def State.fillHold (s : State) (g : Nat) (st : Status) : State :=
  let (v, s) := s.free
  s.stepKill g (.hold st (v % 1024))
/-- The kill of every unit of the map has ended (R271). -/
def State.killsDone (s : State) (g : Nat) : Bool := (s.mapPages g).all fun p => (s.sq p).scope.isNone

end Sys2Proof.Machine
end

