-- ==== Sys2Proof/Machine/Squall.lean ====
section
/-! DEFINITION. Squall (R281 to R303, R384): the launch of jobs, native expert fetch, combining, the exchange of bundles between
packages, and the end of a job. What may be sent is sent by `sqPump`, which follows every command. -/

namespace Sys2Proof.Machine

/-! ### Reading and writing scratch -/

/-- A range lies in WORK of a position. -/
def State.sqIn (s : State) (pos off n : Nat) : Bool := decide (off < 2 ^ 27) && inRegion (s.tl pos).regions [3] off n
/-- Why Squall cannot read a range of WORK (R85, R110, R282). -/
def State.sqBad (s : State) (pos off n : Nat) : Option Status :=
  if n = 0 then none else if !s.sqIn pos off n then some .range else if s.anyPoison (scr pos off) n then some .poison else none
/-- What a write of Squall outside the region `k` it is for gives (R85): PERM where it runs into another region of the active layout, which
admits no such write, RANGE where no region takes it. -/
def State.sqDeny (s : State) (pos k off n : Nat) : Status :=
  if ((s.tl pos).regions.zipIdx.filter fun x => x.2 != k).any fun x => overlap off n (x.1.1 * 65536) (x.1.2 * 65536) then .perm else .range
/-- Write ranges of WORK (R85, R110, R282): the status of the first that fails its region, POISON where a word was poisoned. -/
def State.sqPut (s : State) (ws : List (Nat × Nat × List Byte)) : Status × State :=
  match ws.find? fun w => !w.2.2.isEmpty && !s.sqIn w.1 w.2.1 w.2.2.length with
  | some w => (s.sqDeny w.1 3 w.2.1 w.2.2.length, s)
  | none =>
    let (s, bad) := ws.foldl (fun (a : State × Bool) w => let (s, b) := a.1.putOut (scr w.1 w.2.1) w.2.2; (s, a.2 || b)) (s, false)
    (if bad then .poison else .ok, s)
/-- FP32 words of scratch. -/
def State.words (s : State) (pos off n : Nat) : List Nat := (List.range n).map fun i => s.ld (scr pos (off + 4 * i)) 4

/-- The router block at an offset of a leaf (R284): M, K, E, CAP, FIRST_ROW, SHARE_ROWS. -/
structure RBlk where
  m : Nat
  k : Nat
  e : Nat
  cap : Nat
  first : Nat
  share : Nat
  deriving DecidableEq, Repr
/-- The header of a router block. -/
def State.rblk (s : State) (pos off : Nat) : RBlk :=
  let f (o n : Nat) : Nat := s.ld (scr pos (off + o)) n
  ⟨f 0 2, f 2 1, f 4 2, f 6 2, f 12 4, f 16 4⟩
/-- The offset of section `i` (c1 to c7) of a block at `off`. -/
def RBlk.at (b : RBlk) (off i : Nat) : Nat := off + nth 0 (topkOffs b.e b.k b.cap) (i - 1)
/-- The rows of a block's share with the experts and gates of their records. -/
def State.rblkRows (s : State) (pos off : Nat) : List (Nat × List (Nat × Nat)) :=
  let b := s.rblk pos off
  (List.range b.share).map fun i =>
    let a := scr pos (b.at off 3 + 128 * (b.first + i))
    (b.first + i, (List.range b.k).map fun j => (s.ld (a + 8 * j) 2, s.ld (a + 8 * j + 4) 4))

/-! ### Jobs -/

/-- Change a job in progress. -/
def State.modJob (s : State) (k g idx : Nat) (f : SJob → SJob) : State :=
  let x := s.squ k
  s.setSqu k { x with jobs := x.jobs.map fun j => if j.g == g && j.idx == idx then f j else j }
/-- A job fails (R290): its requests are retired, and nothing further is sent. The first failure stands. -/
def State.sqFail (s : State) (k g idx : Nat) (st : Status) (peer : Nat := 0xFFFF) : State :=
  (s.modJob k g idx fun j => if j.fail.isSome then j else { j with fail := some (st, peer), outs := [] }).sqDropReqs (sqReq g idx)

/-- The section in which the job's trigger has completed OK on every unit of the job (R290). -/
def State.trigSec (s : State) (g : Nat) (o : OpenStep) (j : JobRec) : Option Nat :=
  (jobSections (s.progLayers g) j.layer).find? fun sec =>
    (s.jobUnits g j).all fun p => o.done.contains (p, sec * 65536 + j.trigger)

/-- The open step and the record of a job of a kind that may be launched now (R281, R289, R290). -/
def State.sqMay (s : State) (k g idx kind : Nat) : Option (OpenStep × JobRec × Nat) :=
  match s.openOf g with
  | none => none
  | some o =>
    let j := s.sqJob k g idx
    let st := s.ust (pg .squall k)
    if s.squallOf g = some k && o.cause.isNone && s.planValid k g && idx < s.jobCount k g && !(o.jobs.any fun x => x.1 == idx)
        && j.kind == kind && !(j.layer < 0xFFFE && o.grant.skips j.layer) && (st == .idle || st == .running) then
      (s.trigSec g o j).map fun sec => (o, j, sec)
    else none

/-- The packet of a message of a job to a peer. -/
def State.sqPkt (s : State) (k g idx : Nat) (j : SJob) (q : Peer) (op : Nat) : Pkt :=
  let p : Pkt := { op := op, tagged := true, srcDom := s.ownDom, srcPkg := s.pkgIdx, dstDom := q.dom, dstPkg := q.pkg, dstTg := q.tg,
                   step := j.step, gen := j.gen, unit := pg .squall k, cmd := idx }
  s.stampGrp g p
/-- A peer entry names this package. -/
def State.ownPeer (s : State) (q : Peer) : Bool := q.appl == s.applNum

/-- A READY reaches the SQUALL that serves its group (R295, R303, R385). -/
def State.sqReady (s : State) (p : Pkt) : State :=
  match s.squallOf p.dstTg with
  | none => s
  | some k =>
    if s.on (pg .squall k) F.COM.ISOLATED then s
    else if !s.readyTag p.dstTg p.step p.gen then (s.sqStale k).bump (pg .squall k) F.SQUALL.READY_DROPPED
    else
      let x := s.squ k
      let r := (p.dstTg, p.step, p.gen, p.cmd, extF p 42 2)
      if x.ready.contains r then s else s.setSqu k { x with ready := x.ready ++ [r] }

/-- Rank of the parent of a rank in the tree of R301, with the level, and the ranks below it with theirs, level by level. -/
def treeUp (p : Nat) : Nat × Nat := let j := ((List.range 8).find? fun j => p / 2 ^ j % 2 == 1).getD 0; (p - 2 ^ j, j)
def treeDown (n p : Nat) : List (Nat × Nat) :=
  ((List.range 7).filter fun j => p % 2 ^ (j + 1) == 0 && decide (p + 2 ^ j < n)).map fun j => (p + 2 ^ j, j)
/-- The peers from which a job receives (R295, R297, R301). -/
def State.sqFrom (s : State) (k g : Nat) (j : JobRec) : List Peer :=
  let ps := s.jobPeers k g j
  let p := s.jobRank g ps
  let at_ (r : Nat) : Option Peer := ps[r]?
  let l := if j.kind < 3 then [] else if j.kind < 5 then ps
    else if j.tree then ((treeDown ps.length p).map (·.1) ++ (if p = 0 then [] else [(treeUp p).1])).filterMap at_
    else [(p + ps.length - 1) % max ps.length 1].filterMap at_
  l.filter fun q => !(q.appl == s.applNum && q.tg == g)

/-- A job starts: it is listed, and READY goes to every peer it will receive from (R290, R295). -/
def State.sqStart (s : State) (k g idx : Nat) (o : OpenStep) (j : JobRec) (outs : List Bundle) : State :=
  let x := s.squ k
  let shut := s.on (pg .squall k) F.COM.ISOLATED
  let job : SJob := ⟨g, idx, o.grant.step, o.grant.gen, s.now, [], if shut then some (.isolated, 0xFFFF) else none, decide (j.kind < 3),
    if shut then [] else outs⟩
  let s := ((s.setSqu k { x with jobs := x.jobs ++ [job] }).sqSettle k).modOpen g fun o => { o with jobs := o.jobs ++ [(idx, none)] }
  forEach (if shut then [] else s.sqFrom k g j) (fun q s =>
    let p : Pkt := { s.sqPkt k g idx job q 0x60 with ext := extOf 42 2 s.applNum }
    if s.ownPeer q then s.sqReady p else (s.launch none p).2) s

/-! ### Expert fetch and combining -/

/-- The merged rows of a unit: the records of its leaves' shares, each row once, in order (R291). -/
def State.mergedRows (s : State) (p off : Nat) : List (Nat × List (Nat × Nat)) :=
  ((s.leaves p).flatMap fun pos => s.rblkRows pos off).foldl (fun l x => if (tblFind x.1 l).isSome then l else tblInsert x.1 x.2 l) []
/-- The counts of a unit by expert. -/
def rowCounts (e : Nat) (rows : List (Nat × List (Nat × Nat))) : List Nat :=
  (List.range e).map fun x => (rows.map fun r => (r.2.filter fun y => y.1 == x).length).sum
/-- The templates of GROUPS and FETCHES of a leaf: those of the TOPK trigger, or the sections as they stand (log entry 19). Either is read
in WORK (R282). -/
def State.templates (s : State) (pos off : Nat) (trig : Nat) : Option Nat × Option Nat :=
  let b := s.rblk pos off
  if dClass trig = 0x20 && dOp trig = 0x12 then
    (if dfld trig 28 0 32 = 0 then none else some (dfld trig 28 0 32), if dfld trig 32 0 32 = 0 then none else some (dfld trig 32 0 32))
  else (some (b.at off 1), some (b.at off 2))
/-- Entry `x` of a fetch template: fabric address, scratch offset, length (R134). -/
def State.fetchEnt (s : State) (pos tpl x : Nat) : Nat × Nat × Nat :=
  let a := scr pos (tpl + 16 * x)
  (s.ld a 8, s.ld (a + 8) 4, s.ld (a + 12) 4)

/-- EXPERT_FETCH (R291): merge, arm, report, fetch. -/
def State.expertFetch (s : State) (k g idx : Nat) : State :=
  match s.sqMay k g idx 1 with
  | none => s
  | some (o, j, sec) =>
    let s := s.sqStart k g idx o j []
    let units := (List.range j.units).map fun i => (j.first + i, s.mapPage g (j.first + i))
    let leafBad (pos : Nat) : Option Status :=
      let b := s.rblk pos j.router
      match s.sqBad pos j.router 64 with
      | some e => some e
      | none => s.sqBad pos (b.at j.router 1) (b.at j.router 4 - b.at j.router 1)
    let trig (u : Nat) : Nat := (((s.progDescs g sec u).find? fun x => dCmdId x.2 == j.trigger).map (·.2)).getD 0
    let tplBad (u pos : Nat) : Option Status :=
      let e := (s.rblk pos j.router).e
      let (tg, tf) := s.templates pos j.router (trig u)
      (tg.bind fun t => s.sqBad pos t (64 * e)).orElse fun _ => tf.bind fun t => s.sqBad pos t (16 * e)
    match ((s.jobLeaves g j).findSome? leafBad).orElse fun _ => units.findSome? fun (u, p) => (s.leaves p).findSome? (tplBad u) with
    | some e => s.sqFail k g idx e
    | none =>
      let merged := units.map fun (u, p) => (u, p, s.mergedRows p j.router)
      let puts := merged.flatMap fun (u, p, rows) => (s.leaves p).flatMap fun pos =>
        if typeOf p = .tile then []
        else
          let b := s.rblk pos j.router
          let (tg, tf) := s.templates pos j.router (trig u)
          let grp (count below : Nat → Nat) : List Byte := match tg with
            | none => leBytes (64 * b.e) 0
            | some t => (List.range (4 * b.e)).flatMap fun i =>
                leBytes 2 (below (i % b.e)) ++ leBytes 2 (count (i % b.e)) ++ s.ldBytes (scr pos (t + 16 * i + 4)) 12
          let fet (count _ : Nat → Nat) : List Byte := match tf with
            | none => leBytes (16 * b.e) 0
            | some t => (List.range b.e).flatMap fun x =>
                s.ldBytes (scr pos (t + 16 * x)) 12 ++ (if count x = 0 then leBytes 4 0 else s.ldBytes (scr pos (t + 16 * x + 12)) 4)
          (routerPuts j.router b.m b.k b.e b.cap 0 b.m rows grp fet).map fun w => (pos, w.1, w.2)
      let ents := merged.flatMap fun (u, p, rows) => (s.leaves p).flatMap fun pos =>
        match (s.templates pos j.router (trig u)).2 with
        | none => []
        | some t =>
          let cs := rowCounts (s.rblk pos j.router).e rows
          cs.zipIdx.map fun (c, x) => (pos, c, s.fetchEnt pos t x)
      let reports := merged.map fun (u, p, rows) => (u, rowCounts (s.rblk (s.lead p) j.router).e rows)
      let (st, s) := s.sqPut puts
      let okDst (x : Nat × Nat × Nat × Nat × Nat) : Bool := x.2.2.2.2 == 0 ||
        (decide (x.2.2.2.1 < 2 ^ 27) && inRegion (s.tl x.1).regions [1] x.2.2.2.1 x.2.2.2.2)
      let badEnt (x : Nat × Nat × Nat × Nat × Nat) : Bool := decide (2 ^ 52 ≤ x.2.2.1) || x.2.2.1 % 64 != 0 || x.2.2.2.1 % 64 != 0 || x.2.2.2.2 % 64 != 0
      if st != .ok then s.sqFail k g idx st
      else match ents.find? fun x => !okDst x with
      | some (pos, _, _, off, n) => s.sqFail k g idx (if s.sqIn pos off n then .range else s.sqDeny pos 1 off n)
      | none =>
      if ents.any fun x => x.2.1 != 0 && badEnt x then s.sqFail k g idx .badArg
      else
        let s := forEach ents (fun (pos, _, _, off, n) s => s.granClear pos off n) s
        let s := s.modOpen g fun o => { o with counts := o.counts ++ reports.map fun (u, cs) => (idx, (u, cs)) }
        let s := s.bump (pg .squall k) F.SQUALL.NULL_EXPERTS (reports.map fun r => (r.2.filter (· == 0)).length).sum
        let job : SJob := ⟨g, idx, o.grant.step, o.grant.gen, 0, [], none, false, []⟩
        let ps := (ents.filter fun x => x.2.1 != 0).flatMap fun (pos, _, a, off, n) => (splitRange 4096 a n).map fun (b, m) => (pos, off + (b - a), b, m)
        let s := forEach ps (fun (pos, off, _, m) s => s.granBegin pos off m) s
        forEach ps.zipIdx (fun ((pos, off, a, m), i) s =>
          let p : Pkt := s.sqPkt k g idx job ⟨0, a / 2 ^ 45, s.ownDom, 0, 0⟩ 0x01
          s.issue (mkReq (pg .squall k) { p with dstTg := 0, addr := a, len := m, index := i } 1 g idx 0 0 pos off)) s

/-- COMBINE (R294). -/
def State.combine (s : State) (k g idx : Nat) : State :=
  match s.sqMay k g idx 2 with
  | none => s
  | some (o, j, _) =>
    let s := s.sqStart k g idx o j []
    let n := 4 * j.elems
    let rows (pos : Nat) : List Nat := let b := s.rblk pos j.router; (List.range b.share).map (b.first + ·)
    let place (pos r x : Nat) : Nat :=
      let b := s.rblk pos j.router
      j.src + j.srcStride * (if j.ranked then r * b.k + x else s.ld (scr pos (b.at j.router 6 + 2 * b.cap * x + 2 * r)) 2)
    let bad (pos : Nat) : Option Status :=
      match s.sqBad pos j.router 64 with
      | some e => some e
      | none =>
        let b := s.rblk pos j.router
        match s.sqBad pos (b.at j.router 3) (b.at j.router 4 - b.at j.router 3), s.sqBad pos (b.at j.router 6) (b.at j.router 7 - b.at j.router 6) with
        | some e, _ | _, some e => some e
        | none, none => (rows pos).findSome? fun r =>
            match (List.range b.k).findSome? fun x => s.sqBad pos (place pos r x) n with
            | some e => some e
            | none => if j.accum then s.sqBad pos (j.dst + j.dstStride * r) n else none
    match (s.jobLeaves g j).findSome? bad with
    | some e => s.sqFail k g idx e
    | none =>
      let (st, s) := s.sqPut ((s.jobLeaves g j).flatMap fun pos =>
        let b := s.rblk pos j.router
        (rows pos).map fun r =>
          let dst := j.dst + j.dstStride * r
          let gate (x : Nat) : Nat := s.ld (scr pos (b.at j.router 3 + 128 * r + 8 * x + 4)) 4
          (pos, dst, (List.range j.elems).flatMap fun i =>
            leBytes 4 ((List.range b.k).foldl (fun acc x => accStep acc ((fp32 (gate x)).mul (fp32 (s.ld (scr pos (place pos r x + 4 * i)) 4))))
              (if j.accum then s.ld (scr pos (dst + 4 * i)) 4 else 0))))
      if st = .ok then s else s.sqFail k g idx st

/-! ### Bundles -/

/-- The bytes of a bundle (R296): header, tags, rows. -/
def bundleBytes (step gen job src dst stage leaf rowB chunk round : Nat) (tags : List (List Byte)) (rows : List (List Byte)) : List Byte :=
  leBytes 4 step ++ leBytes 2 gen ++ leBytes 2 job ++ leBytes 2 src ++ leBytes 2 dst ++ leBytes 1 stage ++ leBytes 1 leaf ++ leBytes 2 rows.length
  ++ leBytes 4 rowB ++ leBytes 2 chunk ++ leBytes 2 round ++ leBytes 40 0 ++ tags.flatten ++ rows.flatten
/-- A row tag (R296). -/
def rowTag (row rank expert : Nat) : List Byte := leBytes 2 row ++ leBytes 1 rank ++ leBytes 1 0 ++ leBytes 2 expert ++ leBytes 10 0

/-- A fragment is taken into the bundle it belongs to (R384). -/
def addFrag (l : List Bundle) (b : Bundle) (off : Nat) (bs : List Byte) : List Bundle :=
  let same (x : Bundle) : Bool := x.g == b.g && x.step == b.step && x.gen == b.gen && x.job == b.job && x.orig == b.orig && x.leaf == b.leaf
    && x.stage == b.stage && x.seq == b.seq && x.dst == b.dst
  let add (x : Bundle) : Bundle := if (tblFind off x.frags).isSome then x else { x with frags := tblInsert off bs x.frags }
  if l.any same then l.map fun x => if same x then add x else x else l ++ [add b]
/-- The package that a complete bundle is for. -/
def Bundle.dstAppl (b : Bundle) : Nat := leNat ((b.bytes.drop 10).take 2)

/-- A MSG_BUNDLE reaches this package (R303, R384): its status. A complete bundle for another package waits to be forwarded. -/
def State.sqFrag (s : State) (p : Pkt) : Status × State :=
  let n := extF p 38 4
  if !pktOk p then (.badArg, s)
  else if absentUnit s.cfg .squall 0 && absentUnit s.cfg .squall 1 then (.absent, s)
  else match s.squallOf p.dstTg with
  | none => (.illegalState, s)
  | some k =>
    let g := p.dstTg
    if s.on (pg .squall k) F.COM.ISOLATED then (.isolated, s) else
    match s.openOf g with
    | none => (.staleTag, s.sqStale k)
    | some o =>
      if !(p.tagged && o.grant.step == p.step && o.grant.gen == p.gen)
          || !((o.jobs.any fun x => x.1 == p.cmd) || s.rd (pg .stepseq g) F.STEPSEQ.RERUNS != 0) then (.staleTag, s.sqStale k)
      else
        let x := s.squ k
        let b : Bundle := ⟨g, p.step, p.gen, p.cmd, extF p 42 2, 0, extF p 44 1, extF p 45 1 % 4, extF p 46 2, n, []⟩
        let bs := p.pay.take (if p.index < n then n - p.index else 0)
        let l := addFrag x.landed b p.index bs
        let (fwd, l) := l.partition fun y => y.done && y.dst == 0 && y.dstAppl != s.applNum && y.orig != s.applNum
        (.ok, s.setSqu k { x with landed := l, forward := x.forward ++ fwd })

/-- The peer to which a bundle for a peer is sent: itself, or the gateway of its domain (R297), which is a peer of the job. -/
def State.sqHop (s : State) (k g : Nat) (j : JobRec) (q : Peer) : Peer :=
  if q.dom = s.ownDom then q
  else
    let w := s.gatewayOf k g q.dom
    ((s.jobPeers k g j).find? fun x => x.appl == w.appl).getD { w with tg := q.tg }
/-- READY of a peer is held for a job, or the peer is this package's group (R295). -/
def State.sqReadyOf (s : State) (k g : Nat) (j : SJob) (q : Peer) : Bool :=
  (q.appl == s.applNum && q.tg == g) || (s.squ k).ready.contains (g, j.step, j.gen, j.idx, q.appl)

/-- Send a bundle to a package of a job (R296, R384): `seq` counts the bundles to it, `orig` is the package it comes from. A
header with no rows is counted (R293). -/
def State.sqSend (s : State) (k g : Nat) (j : SJob) (q : Peer) (orig leaf stage seq : Nat) (bs : List Byte) : State :=
  let s := if leNat ((bs.drop 14).take 2) = 0 then s.bump (pg .squall k) F.SQUALL.ZERO_HEADERS else s
  let frags := (List.range ((bs.length + 4095) / 4096)).map fun i => (4096 * i, padTo64 ((bs.drop (4096 * i)).take 4096))
  forEach frags (fun (off, pay) s =>
    let p : Pkt := s.sqPkt k g j.idx j q 0x42
    let p : Pkt := { p with index := off, len := pay.length, pay := pay,
                            ext := extOf 38 4 bs.length + extOf 42 2 orig + extOf 44 1 leaf + extOf 45 1 stage + extOf 46 2 seq }
    if s.ownPeer q then
      let (st, s) := s.sqFrag p
      if st = .ok then s else s.sqFail k g j.idx st q.appl
    else s.issue (mkReq (pg .squall k) p 1 g j.idx 0)) s
where
  padTo64 (l : List Byte) : List Byte := l ++ List.replicate ((64 - l.length % 64) % 64) 0

/-- The bundles of a launch with their SEQ: it counts those of the job that go to one package, a gateway being one, from 0 (R384). -/
def State.numberOuts (s : State) (k g : Nat) (j : JobRec) (outs : List Bundle) : List Bundle :=
  let ps := s.jobPeers k g j
  let to_ (b : Bundle) : Option (Nat × Nat) := (ps[b.dst]?).map fun q => let h := s.sqHop k g j q; (h.appl, h.tg)
  outs.zipIdx.map fun (b, i) => { b with seq := ((outs.take i).filter fun y => to_ y == to_ b).length }
/-- A bundle made at a launch, to be sent to the peer in slot `i`: `dst` names the slot. -/
def outBundle (g : Nat) (o : OpenStep) (job orig slot leaf stage : Nat) (bs : List Byte) : Bundle :=
  ⟨g, o.grant.step, o.grant.gen, job, orig, slot, leaf, stage, 0, bs.length, [(0, bs)]⟩

/-- DISPATCH (R297): the bundles of every leaf to every peer, in order of row and rank. -/
def State.dispatchJob (s : State) (k g idx : Nat) : State :=
  match s.sqMay k g idx 3 with
  | none => s
  | some (o, j, _) =>
    let ps := s.jobPeers k g j
    let ls := s.jobLeaves g j
    let need (pos : Nat) : Option Status :=
      match s.sqBad pos j.router 64 with
      | some e => some e
      | none =>
        let b := s.rblk pos j.router
        match s.sqBad pos (b.at j.router 3) (b.at j.router 4 - b.at j.router 3) with
        | some e => some e
        | none => (s.rblkRows pos j.router).findSome? fun r => s.sqBad pos (j.src + j.srcStride * r.1) j.rowBytes
    match ls.findSome? need with
    | some e => (s.sqStart k g idx o j []).sqFail k g idx e
    | none =>
      let outs := (s.jobSeats g j).flatMap fun ⟨pos, _, leaf⟩ =>
        let asn := (s.rblkRows pos j.router).flatMap fun (r, sel) => sel.zipIdx.map fun ((e, _), rk) => (r, rk, e, (s.ownerOf k g e).appl)
        ps.zipIdx.map fun (q, slot) =>
          let mine := asn.filter fun a => a.2.2.2 == q.appl
          let stage := if q.dom = s.ownDom then 2 else 1
          outBundle g o idx s.applNum slot leaf stage (bundleBytes o.grant.step o.grant.gen idx s.applNum q.appl stage leaf j.rowBytes 0 0
            (mine.map fun a => rowTag a.1 a.2.1 a.2.2.1) (mine.map fun a => s.ldBytes (scr pos (j.src + j.srcStride * a.1)) j.rowBytes))
      s.sqStart k g idx o j (s.numberOuts k g j outs)

/-- The jobs of a plan with their index. -/
def State.planJobs (s : State) (k g : Nat) : List (Nat × JobRec) := (List.range (s.jobCount k g)).map fun i => (i, s.sqJob k g i)
/-- The DISPATCH job whose receive block a RETURN job reads: the one of the same layer and ROUTER_OFF. -/
def State.dispatchOf (s : State) (k g : Nat) (j : JobRec) : Option (Nat × JobRec) :=
  (s.planJobs k g).find? fun x => x.2.kind == 3 && x.2.layer == j.layer && x.2.router == j.router
/-- K at the originating package: that of the block which the RANKED COMBINE job of the layer reads (log entry 21). -/
def State.returnK (s : State) (k g : Nat) (j : JobRec) (pos : Nat) : Nat :=
  match (s.planJobs k g).find? fun x => x.2.kind == 2 && x.2.ranked && x.2.layer == j.layer with
  | some (_, c) => (s.rblk pos c.router).k
  | none => (s.rblk pos j.router).k
/-- The landed bundle of a job from a package for a leaf, among those that `f` picks. LEAF counts within a unit, so a job of several units
has one such bundle for each: once they are all there, they stand for the units in the order of SEQ (DESIGN CHOICE, log entry 185). -/
def State.bundleFrom (s : State) (k g : Nat) (o : OpenStep) (idx orig : Nat) (at_ : Seat) (f : Bundle → Bool) : Option Bundle :=
  let seats := (s.jobSeats g (s.sqJob k g idx)).filter fun x => x.leaf == at_.leaf
  let bs := (s.squ k).landed.filter fun b => b.of g o.grant.step o.grant.gen idx && b.orig == orig && b.leaf == at_.leaf && b.done && f b
  if bs.length < seats.length then none
  else (bs.mergeSort fun a b => decide (a.seq ≤ b.seq))[(seats.filter fun x => decide (x.unit < at_.unit)).length]?

/-- RETURN (R299): the expert outputs of each landed row, back to the package it came from. The rows lie in the slots that the DISPATCH job
gave its own peers (R298). -/
def State.returnJob (s : State) (k g idx : Nat) : State :=
  match s.sqMay k g idx 4 with
  | none => s
  | some (o, j, _) =>
    let ps := s.jobPeers k g j
    let seats := s.jobSeats g j
    match s.dispatchOf k g j with
    | none => (s.sqStart k g idx o j []).sqFail k g idx .badArg
    | some (di, dj) =>
      let dps := s.jobPeers k g dj
      let rows (x : Seat) (q : Peer) : List Nat :=
        match dps.findIdx? (fun w => w.appl == q.appl && w.tg == q.tg), s.bundleFrom k g o di q.appl x (fun _ => true) with
        | some slot, some b => (List.range (min b.count dj.cap)).map fun i => slot * dj.cap + i
        | _, _ => []
      let need (x : Seat) : Option Status := ps.findSome? fun q => (rows x q).findSome? fun r =>
        match s.sqBad x.pos (dj.src + 16 * r) 16 with
        | some e => some e
        | none => s.sqBad x.pos (j.src + j.srcStride * r) j.rowBytes
      match seats.findSome? need with
      | some e => (s.sqStart k g idx o j []).sqFail k g idx e
      | none =>
        let outs := seats.flatMap fun x => ps.zipIdx.map fun (q, slot) =>
          outBundle g o idx s.applNum slot x.leaf 3 (bundleBytes o.grant.step o.grant.gen idx s.applNum q.appl 3 x.leaf j.rowBytes 0 0
            ((rows x q).map fun r => s.ldBytes (scr x.pos (dj.src + 16 * r)) 16)
            ((rows x q).map fun r => s.ldBytes (scr x.pos (j.src + j.srcStride * r)) j.rowBytes))
        s.sqStart k g idx o j (s.numberOuts k g j outs)

/-! ### Collectives -/

/-- The rows of a step: those of the entries that are placed (R300). -/
def OpenStep.rows (o : OpenStep) : Nat := (o.placed.map fun x => x.1.new).sum
/-- Element-wise sums of rows, one FP32 addition each (R301). -/
def addRows (a b : List (List Nat)) : List (List Nat) := (a.zip b).map fun (x, y) => (x.zip y).map fun (u, v) => fadd32 u v
/-- The words of the rows of a bundle. -/
def Bundle.rowWords (b : Bundle) : List (List Nat) :=
  (List.range b.count).map fun i => let r := b.row i; (List.range (r.length / 4)).map fun w => leNat ((r.drop (4 * w)).take 4)

/-- What a participant of a collective knows: P, its rank, the rows R, its own rows, and what it has received by (rank, chunk, round). -/
structure Coll where
  n : Nat
  p : Nat
  rows : Nat
  own : List (List Nat)
  got : Nat → Nat → Nat → Option (List (List Nat))
/-- The rows of chunk `c` of a participant's own (R98, R300). -/
def Coll.chunk (x : Coll) (c : Nat) : List (List Nat) := let (f, m) := deal x.rows x.n c; (x.own.drop f).take m
/-- The sum of its subtree in the order of R301, once the levels below have arrived. -/
def Coll.up (x : Coll) : Option (List (List Nat)) :=
  (treeDown x.n x.p).foldl (fun acc (q, j) => acc.bind fun a => (x.got q 0 j).map (addRows a)) (some x.own)
/-- The sum over all participants, in the TREE. -/
def Coll.total (x : Coll) : Option (List (List Nat)) := if x.p = 0 then x.up else x.got (treeUp x.p).1 0 (treeUp x.p).2
/-- The sum of its own chunk, in the RING. -/
def Coll.ringSum (x : Coll) : Option (List (List Nat)) :=
  if x.n ≤ 1 then some x.own else (x.got ((x.p + x.n - 1) % x.n) x.p (x.n - 2)).map fun a => addRows a (x.chunk x.p)
/-- The rows of participant `q` in the gathering TREE, as far as they have come up to this rank. -/
def Coll.upPart (x : Coll) (q : Nat) : Option (List (List Nat)) :=
  if q = x.p then some x.own
  else match (treeDown x.n x.p).find? fun d => decide (d.1 ≤ q) && decide (q < d.1 + 2 ^ d.2) with
    | some (c, j) => x.got c q j
    | none => none
/-- The rows of participant `q`, once they have come down. -/
def Coll.part (x : Coll) (q : Nat) : Option (List (List Nat)) := if x.p = 0 then x.upPart q else x.got (treeUp x.p).1 q (treeUp x.p).2

/-- The sends of a participant: destination rank, chunk, round, and the rows, none while they are not there yet (R300, R301). -/
def Coll.sends (x : Coll) (kind : Nat) (tree : Bool) : List (Nat × Nat × Nat × Option (List (List Nat))) :=
  let n := x.n
  let next := (x.p + 1) % max n 1
  let prev := (x.p + n - 1) % max n 1
  if n ≤ 1 then [] else
  if tree then
    let up := if x.p = 0 then [] else
      let (q, j) := treeUp x.p
      if kind = 7 then ((List.range n).filter fun c => decide (x.p ≤ c) && decide (c < x.p + 2 ^ j)).map fun c => (q, c, j, x.upPart c)
      else [(q, 0, j, x.up)]
    let down := (treeDown n x.p).reverse.flatMap fun (q, j) =>
      if kind = 7 then (List.range n).map fun c => (q, c, j, x.part c) else [(q, 0, j, x.total)]
    up ++ down
  else
    let gather (base : Nat) (first : Option (List (List Nat))) := (List.range (n - 1)).map fun t =>
      let c := (x.p + n - t) % n
      (next, c, base + t, if t = 0 then first else x.got prev c (base + t - 1))
    let reduce := (List.range (n - 1)).map fun r =>
      let c := (x.p + 2 * n - 1 - r) % n
      (next, c, r, if r = 0 then some (x.chunk c) else (x.got prev c (r - 1)).map fun a => addRows a (x.chunk c))
    if kind = 7 then gather 0 (some x.own) else if kind = 6 then reduce else reduce ++ gather (n - 1) x.ringSum

/-- The rows that a participant ends with, and the row number from which each run of them goes (R300). -/
def Coll.result (x : Coll) (kind : Nat) (tree : Bool) : Option (List (Nat × List (List Nat))) :=
  let n := max x.n 1
  let prev := (x.p + n - 1) % n
  let all (f : Nat → Option (Nat × List (List Nat))) : Option (List (Nat × List (List Nat))) :=
    let l := (List.range n).filterMap f
    if l.length = n then some l else none
  if kind = 7 then all fun q => (if q = x.p && n = 1 then some x.own else if tree then x.part q else if q = x.p then some x.own
      else x.got prev q ((prev + n - q) % n)).map fun r => (q * x.rows, r)
  else if tree then x.total.map fun r => if kind = 6 then let (f, m) := deal x.rows n x.p; [(0, (r.drop f).take m)] else [(0, r)]
  else if kind = 6 then x.ringSum.map fun r => [(0, r)]
  else all fun c => (if c = x.p then x.ringSum else x.got prev c (n - 1 + (prev + n - c) % n)).map fun r => ((deal x.rows n c).1, r)

/-- What a leaf of a collective job knows. -/
def State.coll (s : State) (k g : Nat) (o : OpenStep) (idx : Nat) (j : JobRec) (x : Seat) : Coll :=
  let ps := s.jobPeers k g j
  { n := ps.length, p := s.jobRank g ps, rows := o.rows, own := (List.range o.rows).map fun r => s.words x.pos (j.src + j.srcStride * r) j.elems,
    got := fun q c r => match ps[q]? with
      | none => none
      | some w => (s.bundleFrom k g o idx w.appl x fun b => b.chunk == c && b.round == r).map Bundle.rowWords }

/-- ALL_REDUCE, REDUCE_SCATTER and ALL_GATHER start (R300). -/
def State.collective (s : State) (k g idx kind : Nat) : State :=
  match s.sqMay k g idx kind with
  | none => s
  | some (o, j, _) =>
    let s := s.sqStart k g idx o j []
    match (s.jobLeaves g j).findSome? fun pos => (List.range o.rows).findSome? fun r => s.sqBad pos (j.src + j.srcStride * r) (4 * j.elems) with
    | some e => s.sqFail k g idx e
    | none => s

/-! ### Progress -/

/-- A landed bundle that its job cannot take (R298, R300): COUNT over CAP, or a header that does not fit the receiver's. -/
def State.badBundle (s : State) (g : Nat) (o : OpenStep) (j : JobRec) (b : Bundle) : Option Status :=
  if j.kind = 3 && decide (j.cap < b.count) then some .noSpace
  else if 5 ≤ j.kind && (!((s.jobSeats g j).any fun x => x.leaf == b.leaf)
      || b.count != (if j.kind = 7 || j.tree then o.rows else (deal o.rows j.peers b.chunk).2)) then some .badArg
  else none

/-- The key of a place of a job in `SJob.sent`: for DISPATCH and RETURN a bundle that has been placed, by the slot of its peer; for a
collective a bundle that has been sent, by the rank it goes to, its chunk and its round. -/
def sentKey (x : Seat) (slot chunk round : Nat) : Nat := slot + 128 * (x.leaf + 256 * (x.unit + 1024 * (chunk + 128 * round)))
/-- The bundles of DISPATCH and RETURN go into WORK as they land: those of slot `s` at s × CAP with their tags (R298), returned rows at the
row and rank they name (R299). A bundle that its job cannot take is not placed. -/
def State.sqPlace (s : State) (k g idx : Nat) (o : OpenStep) (j : JobRec) : State :=
  let ps := (s.jobPeers k g j).zipIdx
  forEach ((s.jobSeats g j).flatMap fun x => ps.map fun q => (x, q)) (fun (x, q, slot) s =>
    let key := sentKey x slot 0 0
    match (s.squ k).jobs.find? fun y => y.g == g && y.idx == idx, s.bundleFrom k g o idx q.appl x (fun _ => true) with
    | some job, some b =>
      if job.fail.isSome || job.sent.contains key || (s.badBundle g o j b).isSome then s else
      let (st, s) := s.sqPut ((List.range b.count).flatMap fun i =>
        let r := slot * j.cap + i
        if j.kind = 3 then [(x.pos, j.dst + r * j.rowBytes, b.row i), (x.pos, j.src + 16 * r, b.tagBytes i)]
        else [(x.pos, j.dst + ((b.tag i).1 * s.returnK k g j x.pos + (b.tag i).2.1) * j.rowBytes, b.row i)])
      if st != .ok then s.sqFail k g idx st else s.modJob k g idx fun y => { y with sent := y.sent ++ [key] }
    | _, _ => s) s

/-- The router block of a DISPATCH job at a leaf (R298) over the landed rows in their slots, with K = 1; their gates are free values
(the spec states none, log entry 4), fixed by the place and the tag of the row, so that a re-run lands the same (R144). The counts by expert
come with it. -/
def State.receive (s : State) (k g : Nat) (o : OpenStep) (idx : Nat) (j : JobRec) (x : Seat) : List (Nat × Nat × List Byte) × List Nat :=
  let ps := s.jobPeers k g j
  let bs := ps.zipIdx.filterMap fun (q, slot) => (s.bundleFrom k g o idx q.appl x fun _ => true).map fun b => (slot, b)
  let b0 := s.rblk x.pos j.router
  let landed := bs.flatMap fun (slot, b) => (List.range b.count).map fun i => (slot * j.cap + i, b, i)
  let gate (r : Nat) (t : Nat × Nat × Nat) : Nat := Config.boundChoice 0x402 [idx, x.pos, r, t.1, t.2.1, t.2.2] % 2 ^ 32
  let rows := landed.map fun (r, b, i) => (r, [((b.tag i).2.2, gate r (b.tag i))])
  let cap := ps.length * j.cap
  let none_ := (List.range cap).filterMap fun r => if (tblFind r rows).isSome then none else some (r, ([] : List (Nat × Nat)))
  let grp (count below : Nat → Nat) : List Byte := (List.range (4 * b0.e)).flatMap fun i =>
    leBytes 2 (below (i % b0.e)) ++ leBytes 2 (count (i % b0.e)) ++ s.ldBytes (scr x.pos (b0.at j.router 1 + 16 * i + 4)) 12
  let fet (_ _ : Nat → Nat) : List Byte := s.ldBytes (scr x.pos (b0.at j.router 2)) (16 * b0.e)
  ((routerPuts j.router cap 1 b0.e cap 0 cap (rows ++ none_) grp fet).map fun w => (x.pos, w.1, w.2), rowCounts b0.e rows)
/-- The landed counts of each unit of a DISPATCH job: those of its leaves together, for a unit's command is one for all of them (R292). -/
def unitCounts (units : Nat) (reps : List (Seat × List Nat)) : List (List Nat) :=
  (List.range units).map fun u => (reps.filter fun r => r.1.unit == u).foldl (fun acc r =>
    if acc.isEmpty then r.2 else (acc.zip r.2).map fun (a, b) => a + b) []
/-- All bundles of a DISPATCH have landed (R298): the router blocks are written, the counts go to STEPSEQ, and the experts owned here that
have no row are counted (R292). -/
def State.dispatchLand (s : State) (k g idx : Nat) (o : OpenStep) (j : JobRec) : State :=
  let each := (s.jobSeats g j).map fun x => (x, s.receive k g o idx j x)
  let puts := each.flatMap fun y => y.2.1
  let reps := each.map fun y => (y.1, y.2.2)
  let (st, s) := s.sqPut puts
  if st != .ok then s.sqFail k g idx st
  else
    let cs := unitCounts j.units reps
    let nulls := (cs.map fun c => (c.zipIdx.filter fun (n, e) => n == 0 && s.ownPeer (s.ownerOf k g e)).length).sum
    ((s.modOpen g fun o => { o with counts := o.counts ++ cs.zipIdx.map fun (c, u) => (idx, (j.first + u, c)) }).modJob k g idx
      fun y => { y with landed := true }).bump (pg .squall k) F.SQUALL.NULL_EXPERTS nulls

/-- What DISPATCH and RETURN do now (R295 to R299): send the bundles whose peer is ready, place what has landed, and finish. -/
def State.bundleStep (s : State) (k g idx : Nat) (o : OpenStep) (j : JobRec) (job : SJob) : State :=
  let ps := s.jobPeers k g j
  let ready (b : Bundle) : Bool := match ps[b.dst]? with | some q => s.sqReadyOf k g job (s.sqHop k g j q) | none => false
  let (now, later) := job.outs.partition ready
  let s := s.modJob k g idx fun x => { x with outs := later }
  let s := forEach now (fun b s => match ps[b.dst]? with
    | some q => s.sqSend k g job (s.sqHop k g j q) s.applNum b.leaf b.stage b.seq b.bytes
    | none => s) s
  let s := if job.landed then s else s.sqPlace k g idx o j
  match (s.squ k).jobs.find? fun y => y.g == g && y.idx == idx with
  | none => s
  | some y =>
    let all := (s.jobSeats g j).all fun x => (List.range ps.length).all fun slot => y.sent.contains (sentKey x slot 0 0)
    if y.fail.isSome || y.landed || !all then s
    else if j.kind = 3 then s.dispatchLand k g idx o j
    else s.modJob k g idx fun x => { x with landed := true }
/-- What a collective does now (R300, R301): send what its rows and its peers allow, and take the result once it is there. -/
def State.collStep (s : State) (k g idx : Nat) (o : OpenStep) (j : JobRec) (job : SJob) : State :=
  let ps := s.jobPeers k g j
  let seats := s.jobSeats g j
  let all := seats.flatMap fun x => ((s.coll k g o idx j x).sends j.kind j.tree).map fun y => (x, y)
  let open_ := all.zipIdx.filter fun ((x, d, c, r, _), _) => !job.sent.contains (sentKey x d c r)
  let now := open_.filter fun ((_, d, _, _, v), _) => v.isSome && (match ps[d]? with | some q => s.sqReadyOf k g job q | none => false)
  let s := s.modJob k g idx fun y => { y with sent := y.sent ++ now.map fun ((x, d, c, r, _), _) => sentKey x d c r }
  let s := forEach now (fun ((x, d, c, r, v), i) s => match ps[d]? with
    | some q =>
      let rows := v.getD []
      s.sqSend k g job q s.applNum x.leaf 0 ((all.take i).filter fun y => y.2.1 == d).length
        (bundleBytes o.grant.step o.grant.gen idx s.applNum q.appl 0 x.leaf (4 * j.elems) c r
          ((List.range rows.length).map fun i => rowTag i 0 0) (rows.map fun w => w.flatMap (leBytes 4)))
    | none => s) s
  let res := seats.map fun x => (x.pos, (s.coll k g o idx j x).result j.kind j.tree)
  if now.length != open_.length || res.any fun x => x.2.isNone then s
  else
    let (st, s) := s.sqPut (res.flatMap fun (pos, r) => (r.getD []).flatMap fun (row, l) => l.zipIdx.map fun (w, i) =>
      (pos, j.dst + j.dstStride * (row + i), w.flatMap (leBytes 4)))
    if st != .ok then s.sqFail k g idx st else s.modJob k g idx fun x => { x with landed := true }
/-- A DISPATCH, RETURN or collective job goes on: it sends what it can, and takes its results as they are there. -/
def State.sqStep (s : State) (k : Nat) (j0 : SJob) : State :=
  let g := j0.g
  let idx := j0.idx
  match s.openOf g, (s.squ k).jobs.find? fun x => x.g == g && x.idx == idx with
  | some o, some job =>
    let j := s.sqJob k g idx
    if job.fail.isSome || j.kind < 3 then s else
    let bad (s : State) : Option (Status × Nat) := ((s.squ k).landed.filter fun b => b.of g o.grant.step o.grant.gen idx && b.done).findSome?
      fun b => (s.badBundle g o j b).map fun e => (e, b.orig)
    let fail (x : Status × Nat) (s : State) : State :=
      (if x.1 = .noSpace then s.setEvt (pg .squall k) F.EVT.SQUALL.CAPACITY else s).sqFail k g idx x.1 x.2
    if j.kind < 5 then
      let s := s.bundleStep k g idx o j job
      match bad s, (s.squ k).jobs.find? fun x => x.g == g && x.idx == idx with
      | some e, some job => if job.fail.isSome then s else fail e s
      | _, _ => s
    else match bad s with
      | some e => fail e s
      | none => if job.landed then s else s.collStep k g idx o j job
  | _, _ => s

/-- The gateway's part (R297, R303): stage-1 bundles go on with STAGE 2, returns unchanged, once the destination is ready. -/
def State.sqForward (s : State) (k : Nat) : State :=
  let x := s.squ k
  forEach x.forward (fun b s =>
    let j := s.sqJob k b.g b.job
    let job : SJob := ⟨b.g, b.job, b.step, b.gen, 0, [], none, false, []⟩
    match s.openOf b.g with
    | none => (s.setSqu k { s.squ k with forward := (s.squ k).forward.erase b }).sqStale k
    | some o =>
      if o.cause.isSome then s
      else if !(o.grant.step == b.step && o.grant.gen == b.gen) then (s.setSqu k { s.squ k with forward := (s.squ k).forward.erase b }).sqStale k
      else match (s.jobPeers k b.g j).find? fun q => q.appl == b.dstAppl with
        | none => s.setSqu k { s.squ k with forward := (s.squ k).forward.erase b }
        | some q =>
          if s.sqReadyOf k b.g job q then
            let s := s.setSqu k { s.squ k with forward := (s.squ k).forward.erase b }
            let stage := if b.stage = 1 then 2 else b.stage
            s.sqSend k b.g job q b.orig b.leaf stage b.seq (b.bytes.take 12 ++ leBytes 1 stage ++ b.bytes.drop 13)
          else s) s
/-- Everything that the jobs of a SQUALL can do now. -/
def State.sqPump (s : State) (k : Nat) : State :=
  let s := s.sqForward k
  forEach (s.squ k).jobs (fun j s => s.sqStep k j) s

/-- An answer reaches Squall (R290, R291): a fetch lands and labels its granules, a failure fails the job. -/
def State.sqDone (s : State) (x : Done) : State :=
  let q := x.req
  match (List.range 2).find? fun k => pg .squall k == q.unit with
  | none => s
  | some k =>
    if q.pkt.op = 0x01 then
      if x.st = .ok then
        if s.tagOpen q.pos q.pkt.step q.pkt.gen then
          let s := (s.put (scr q.pos q.off) x.data).granEnd q.pos q.off q.pkt.len (some q.pkt.gen)
          s.bump (pg .squall k) F.SQUALL.FETCH_BYTES x.data.length
        else (s.granAbort q.pos q.off q.pkt.len).tileStale q.pos
      else (s.granAbort q.pos q.off q.pkt.len).sqFail k q.a q.b x.st
    else if x.st = .ok then s
    else
      let peer := ((s.jobPeers k q.a (s.sqJob k q.a q.b)).find? fun w => w.pkg == q.pkt.dstPkg && w.dom == q.pkt.dstDom).map (·.appl)
      s.sqFail k q.a q.b x.st (peer.getD 0xFFFF)

/-- A job ends with a status (R290, R305). -/
def State.sqEnd (s : State) (k g idx : Nat) (st : Status) (peer : Nat) : State :=
  let p := pg .squall k
  let j := s.sqJob k g idx
  let x := s.squ k
  let s := s.sqDropReqs (sqReq g idx)
  let s := (s.setSqu k { s.squ k with jobs := x.jobs.filter fun y => !(y.g == g && y.idx == idx) }).sqSettle k
  let s := s.modOpen g fun o => { o with jobs := o.jobs.map (fun y => if y.1 == idx then (idx, some st) else y),
                                         fails := if st = .ok then o.fails else o.fails ++ [(st, j.layer)] }
  if st = .ok then (s.markJob g j true).bump p F.SQUALL.JOBS_DONE
  else
    let s := ((s.bump p F.SQUALL.JOBS_FAILED).wr p F.SQUALL.FAIL_JOB idx).wr p F.SQUALL.FAIL_STATUS st.code
    let s := ((s.wr p F.SQUALL.FAIL_GROUP g).wr p F.SQUALL.FAIL_PEER peer).setEvt p F.EVT.SQUALL.JOB_FAIL
    if st = .timeout then s.setEvt p F.EVT.SQUALL.TIMEOUT else s
/-- A job completes (R290): its outputs have landed and its requests are answered, or it has failed. -/
def State.sqJobComplete (s : State) (k g idx : Nat) : State :=
  match (s.squ k).jobs.find? fun x => x.g == g && x.idx == idx with
  | none => s
  | some j =>
    match j.fail with
    | some (st, peer) => s.sqEnd k g idx st peer
    | none =>
      let waits := (s.fab.reqs ++ s.fab.wait ++ s.fab.done.map (·.req)).any fun r => sqReq g idx r && !r.retired
      let fwd := (s.squ k).forward.any fun b => b.of g j.step j.gen idx
      if j.landed && j.outs.isEmpty && !waits && !fwd then s.sqEnd k g idx .ok 0xFFFF else s
/-- A job has not completed within TIMEOUT_US of its launch (R288, R290). -/
def State.sqJobTimeout (s : State) (k g idx : Nat) : State :=
  match (s.squ k).jobs.find? fun x => x.g == g && x.idx == idx with
  | none => s
  | some j =>
    let t := (s.sqJob k g idx).timeout
    (s.reach (j.t0 + (if t = 0 then 10000 else t) * 1000)).sqEnd k g idx .timeout 0xFFFF

/-- UNIT_RESET of a SQUALL (R305): its counters, READY notices and PLAN_VALID of every group go; SQ_GROUPS stays. The steps of
the groups it serves have been killed before. The other registers return to their reset values (DEDUCED, log entry 35). -/
def State.squallReset (s : State) (k : Nat) : State :=
  let p := pg .squall k
  let s := (List.range 8).foldl (fun s g => ((s.wrB g p F.SQUALL.PLAN_VALID 0).wrB g p F.SQUALL.PLAN_STATUS 0).busyClear (busyKey p g)) s
  let s := (forEach (List.range 8) (fun g s => s.setReg g p 0x110 0) s).regsReset p [0x108, 0x128, 0x130, 0x138, 0x140, 0x148]
  (s.sqDropReqs fun r => r.kind == 1 && r.unit == p).setSqu k SqSt.init |>.sqSettle k

end Sys2Proof.Machine
end

