-- ==== Sys2Proof/Machine/Fill.lean ====
section
/-! DEFINITION. Updraft's fills (R222 to R230): one entry of an armed use is read, checked, widened and written. -/

namespace Sys2Proof.Machine

/-- Change the use of a step and layer. -/
def State.modUse (s : State) (g step layer : Nat) (f : Use → Use) : State :=
  let x := s.ud g
  s.setUd g { x with uses := x.uses.map fun w => if w.step == step && w.layer == layer then f w else w }
/-- A fill fails (R230): FILL_FAIL and ERR_UNCORR are set, the error is captured and its test begins (R454), the source joins
the lead's bad-range list, and the step that the use belongs to is killed and held. -/
def State.fillFail (s : State) (g u : Nat) (w : Use) (e : Nat) (ent : FillEnt) (code : Option Nat) (st : Status) : State :=
  let p := pg .updraft u
  let base := s.tblBase g
  let loc := w.layer % 1024 + e * 1024
  let s := forEach (s.fillRanges ent (s.listMode base w.layer w.mode)) (fun (pos, off, len) s => s.granAbort pos off len) s
  let s := ((s.bumpSat p F.UPDRAFT.FILL_FAILS).setEvt p F.EVT.UPDRAFT.FILL_FAIL).setEvt p F.EVT.COM.ERR_UNCORR
  let s := (match code with | some c => s.capture p c st loc | none => s.captureOpen p st loc).dueTest p 0x201 loc
  let x := s.ud g
  let s :=
    if x.bad.length < 16 then (s.setUd g { x with bad := x.bad ++ [(ent.src, ent.len)] }).leadWr g F.UPDRAFT.BAD_RANGES (x.bad.length + 1)
    else s.setEvt p F.EVT.UPDRAFT.FILL_FAIL
  let s := ((s.modUse g w.step w.layer fun y => { y with failed := some st, todo := y.todo.filter (· != e) }).udRun g).stepErr g
  match s.openOf g with
  | some o => if o.grant.step = w.step then s.fillHold g st else s
  | none => s
/-- The leaf's tag admits a fill of a generation (R86). -/
def State.fillOpen (s : State) (pos gen : Nat) : Bool :=
  let p := pg .tile pos
  s.rd p F.TILE.GENERATION == gen || (s.on p F.TILE.NEXT_VALID && s.rd p F.TILE.NEXT_GENERATION == gen)
/-- What keeps a fill from its target (R224, R449): PERM, the closed wrapper of the target or of a leaf, or RANGE. -/
def State.fillTarget (s : State) (g : Nat) (ent : FillEnt) (m : Nat) : Option Status :=
  let t := typeOf ent.target
  if !(t == .tile || t == .gang) || absentPg s.cfg ent.target || s.groupOf ent.target != some g || s.leaves ent.target == [] then some .perm
  else if s.on ent.target F.COM.ISOLATED || (s.leaves ent.target).any (fun k => s.on (pg .tile k) F.COM.ISOLATED) then some .isolated
  else if (s.fillRanges ent m).any fun (pos, off, len) => !(inRegion (s.tl pos).regions [1] off len) then some .range
  else none
/-- FILL_ENTRY (R222 to R230): the instance `u` fills entry `e` of its group's earliest armed use of `layer` that still lacks it.
A fill that meets a granule in use (R124) or a page of an earlier generation (R239) waits. -/
def State.fillEntry (s : State) (u layer e : Nat) (es : List MemErr) : State :=
  match s.udGroup u with
  | none => s
  | some g =>
    let p := pg .updraft u
    let us := s.uds_ g
    let w? := (s.ud g).uses.find? fun w => w.layer == layer && w.armed && w.failed.isNone && w.todo.contains e
    match w? with
    | none => s
    | some w =>
      if nth 8 us (e % us.length) != u || !s.on p F.UPDRAFT.ENABLE || s.on p F.COM.ISOLATED || s.stored p = .halted then s else
      let base := s.tblBase g
      let m := s.listMode base layer w.mode
      let ent := s.fillEnt base layer m e
      let s := s.touch (base + (s.lrList base layer m).1 + 32 * e) 32 8 false
      match s.fillTarget g ent m with
      | some st => s.fillFail g u w e ent (if st = .isolated then none else some 0x03) st
      | none =>
        if s.rangeHeld ent.src ent.len || (s.fillRanges ent m).any (fun (pos, off, len) => s.writeWaits pos off len) then s else
        match s.genJudge ent.src ent.len w.gen with
        | .hold => s
        | .stale => s.fillFail g u w e ent none .staleTag
        | .serve =>
          let (st, bs, s) := s.memRead ent.src ent.len 8 es
          if st = .poison then s.fillFail g u w e ent (some 0x02) .poison
          else if st != .ok then s.fillFail g u w e ent none st
          else
            let (r, s) := match s.checkUnit 1 u with | some c => s.checkSpan c bs (some ent.check) | none => (ent.check, s)
            if r != ent.check then
              if w.retried.contains e then s.fillFail g u w e ent (some 0x01) .checkFail
              else ((s.bumpSat p F.UPDRAFT.CHECK_RETRIES).setEvt p F.EVT.UPDRAFT.FILL_RETRY).modUse g w.step layer fun y => { y with retried := e :: y.retried }
            else
              let s := forEach (s.fillWrites ent m bs) (fun (pos, off, data) s =>
                if s.fillOpen pos w.gen then (s.put (scr pos off) data).granEnd pos off data.length (some w.gen)
                else (s.tileStale pos).granAbort pos off data.length) s
              ((s.bump p F.UPDRAFT.FILLS_DONE).modUse g w.step layer fun y => { y with todo := y.todo.filter (· != e) }).udRun g

end Sys2Proof.Machine
end

