-- ==== Sys2Proof/Machine/RtuBase.lean ====
section
/-! DEFINITION. The measurement registers and the log (R482, R483), and the verification of a shard manifest (R474). -/

namespace Sys2Proof.Machine

/-- A byte list as a fixed number of bytes, zeros after its end. -/
def padTo (n : Nat) (b : List Byte) : List Byte := b.take n ++ List.replicate (n - b.length) 0
/-- The RTU is in RTU_STATE OPERATIONAL. -/
def State.rtuOn (s : State) : Bool := s.rd (pg .rtu 0) F.RTU.RTU_STATE == 1
/-- A measurement register (R482). -/
def State.mrOf (s : State) (k : Nat) : List Byte := tblGet (fun _ => List.replicate 32 0) s.rtu.mr k
/-- Write a log entry and extend its register (R482, R483). -/
def State.measure (s : State) (k event : Nat) (digest detail : List Byte) : State :=
  let p := pg .rtu 0
  let n := s.rd p F.RTU.LOG_TOTAL
  let e := [BitVec.ofNat 8 k, BitVec.ofNat 8 event, 0, 0] ++ leBytes 4 n ++ leBytes 8 s.now ++ padTo 32 digest ++ padTo 16 detail
  let log := s.rtu.log ++ [e]
  let full := decide (4096 < log.length)
  let log := if full then log.drop 1 else log
  let mr := tblSet (fun _ => List.replicate 32 0) s.rtu.mr k (Config.shake256 (s.mrOf k ++ e) 32)
  let s := { s with rtu := { s.rtu with log := log, mr := mr } }
  let s := (s.wr p F.RTU.LOG_TOTAL (n + 1)).wr p F.RTU.LOG_HELD log.length
  if full then s.setEvt p F.EVT.RTU.LOG_WRAPPED else s

/-- The digest of the microcode that a tile runs, and that is in force on a group (R490). -/
def State.microBoot (s : State) : List Byte := (tblFind 1000 s.rtu.micro).getD []
def State.microOf (s : State) (g : Nat) : List Byte := (tblFind g s.rtu.micro).getD s.microBoot
def State.microOn (s : State) (k : Nat) : List Byte := (tblFind (8 + k) s.rtu.micro).getD s.microBoot
/-- Microcode comes into force on a group (`k` below 8), on a tile, or from the boot image. -/
def State.setMicro (s : State) (k : Nat) (d : List Byte) : State := { s with rtu := { s.rtu with micro := tblInsert k d (tblErase k s.rtu.micro) } }
/-- A tile receives the microcode of a group that it is to serve (R490). -/
def State.microTile (s : State) (g k : Nat) : State := s.setMicro (8 + k) (s.microOf g)
/-- The floors, and what the fuses say of a key slot (R471). -/
def State.slotIs (s : State) (k purpose : Nat) : Bool := s.cfg.purpose / 4 ^ k % 4 == purpose && s.rtu.fuses.revoked / 2 ^ k % 2 == 0
/-- A commit or revocation is blowing fuses, and verifications wait (R477): one of kind 8 and above waits itself. -/
def State.blowing (s : State) : Bool := s.rtu.blow.any fun x => x.1 < 8
/-- A signature check is counted (R495). -/
def State.countVerify (s : State) (ok : Bool) : State :=
  let p := pg .rtu 0
  if ok then s.bump p F.RTU.VERIFIES else (s.bumpSat p F.RTU.VERIFY_FAILS).setEvt p F.EVT.RTU.SIG_FAIL
/-- The sub-checks of R474 on the manifest at `b`. -/
def State.mfstVerify (s : State) (b : Nat) : Status × State :=
  let off := s.memLd (b + 92) 4
  let len := s.memLd (b + 96) 4
  if !s.rtuOn then (.checkFail, s)
  else match s.rangeFail b 128 with
  | some e => (e, s)
  | none =>
  if s.badRead b 128 then (.poison, s)
  else if len != 29792 || (s.rangeFail b (off + len)).isSome then (.badArg, s)
  else if s.badRead b (off + len) then (.poison, s)
  else
    let slots := (List.range 4).filter fun k => s.slotIs k 2
    let msg := s.memBytes b off
    let sig := s.memBytes (b + off) len
    if slots.isEmpty then (.perm, s)
    else if !(slots.any fun k => Config.slhVerify (s.cfg.keyPk.getD k []) msg sig) then (.checkFail, s.countVerify false)
    else if s.memLd (b + 12) 4 < s.rtu.fuses.mfstSvn then (.version, (s.countVerify true).setEvt (pg .rtu 0) F.EVT.RTU.SIG_FAIL)
    else (.ok, s.countVerify true)
/-- A manifest that passes is measured (R482); a restoration adds 0x80 to the event (R483). -/
def State.measureMfst (s : State) (g b target : Nat) (restore : Bool) : State :=
  s.measure (8 + g) (if restore then 0x88 else 0x08) (Config.shake256 (s.memBytes b (s.memLd (b + 92) 4)) 32)
    (leBytes 2 (s.memLd (b + 6) 2) ++ leBytes 2 (s.memLd (b + 8) 2) ++ leBytes 4 (s.memLd (b + 12) 4) ++ leBytes 1 target)

end Sys2Proof.Machine
end

