-- ==== Sys2Proof/Machine/Load.lean ====
section
/-! DEFINITION. Loading a shard (R163 to R165, R233 to R238, R437): the manifest, the checks of a load, pulls, conversion, and the
ends of a load. -/

namespace Sys2Proof.Machine

/-- The manifest of a group (R233). -/
def State.mfBase (s : State) (g : Nat) : Nat := s.leadRd g F.UPDRAFT.MANIFEST_BASE * 64
def State.mfGen (s : State) (g : Nat) : Nat := s.memLd (s.mfBase g + 6) 2
/-- The SVN of a manifest. -/
def State.mfSvn (s : State) (g : Nat) : Nat := s.memLd (s.mfBase g + 12) 4
def State.mfLayout (s : State) (g : Nat) : Nat := s.memLd (s.mfBase g + 48) 32

/-- A shard entry (R234). -/
structure Shard where
  appl : Nat
  tg : Nat
  first : Nat
  chunks : Nat
  gm : Nat
  bt : Nat
  deriving DecidableEq, Repr
/-- The shard entry of this package and a group. -/
def State.shard (s : State) (g : Nat) : Option Shard :=
  let b := s.mfBase g
  let t := b + s.memLd (b + 80) 4
  ((List.range (s.memLd (b + 10) 2)).map fun i =>
    let a := t + 32 * i
    (⟨s.memLd a 2, s.memLd (a + 2) 1 % 8, s.memLd (a + 4) 4, s.memLd (a + 8) 4, s.memLd (a + 16) 8, s.memLd (a + 24) 8⟩ : Shard)).find?
    fun x => x.appl == s.applNum && x.tg == g

/-- A chunk entry (R234). -/
structure Chunk where
  src : Nat
  dest : Nat
  bytes : Nat
  conv : Nat
  bt : Bool
  high : Bool
  globl : Bool
  layer : Nat
  crc : Nat
  digest : List Byte
  deriving DecidableEq, Repr
/-- Chunk entry `i` of a group's manifest. -/
def State.chunk (s : State) (g i : Nat) : Chunk :=
  let b := s.mfBase g
  let a := b + s.memLd (b + 84) 4 + 64 * i
  let f := s.memLd (a + 20) 1
  ⟨s.memLd a 8, s.memLd (a + 8) 8 % 2 ^ 44, s.memLd (a + 16) 4, f % 16, f / 16 % 2 == 1, f / 32 % 2 == 1, f / 64 % 2 == 1,
   s.memLd (a + 21) 2 % 1024, s.memLd (a + 24) 8, s.memBytes (a + 32) 32⟩
/-- The chunk indices of a group's shard. -/
def State.shardChunks (s : State) (g : Nat) : List Nat :=
  match s.shard g with | some x => (List.range x.chunks).map (x.first + ·) | none => []
/-- Source bytes of a panel of a conversion (R234). -/
def panelIn (c : Nat) : Nat := if c = 1 then 8704 else 16896
/-- Panels of a converting chunk. -/
def Chunk.panels (c : Chunk) : Nat := c.bytes / panelIn c.conv
/-- Bytes that a chunk writes. -/
def Chunk.out (c : Chunk) : Nat :=
  if c.conv = 0 then c.bytes else c.panels * (if c.conv = 1 then 8704 else 17408) + p64 (4 * c.panels)
/-- The chunks of a shard are ordered (R234). -/
def chunksOrdered : List Chunk → Bool
  | a :: b :: t => ((a.globl || (!b.globl && decide (a.layer ≤ b.layer)))) && chunksOrdered (b :: t)
  | _ => true

/-- The pages of a size. -/
def pagesOf (n : Nat) : Nat := (n + 0x1FFFFF) / 0x200000
/-- The base pages of the parts that a load writes (R235): GDDR7 part and board-tier part. -/
def State.loadBases (s : State) (g target : Nat) (x : Shard) : Nat × Nat :=
  if target = 1 then
    let b := s.leadRd g F.UPDRAFT.STAGE % 2 ^ 24
    (b, b + pagesOf x.gm)
  else (s.leadRd g F.UPDRAFT.IMG_GM_BASE, s.leadRd g F.UPDRAFT.IMG_BT % 2 ^ 24)
/-- The pages that a load of a shard claims. -/
def State.loadPages (s : State) (g target : Nat) (x : Shard) : List Nat :=
  let (a, b) := s.loadBases g target x
  if target = 2 then [] else (List.range (pagesOf x.gm)).map (a + ·) ++ (List.range (pagesOf x.bt)).map (b + ·)
/-- The pages of the live image, and of the staging range. -/
def State.imagePages (s : State) (g : Nat) : List Nat :=
  let bt := s.leadRd g F.UPDRAFT.IMG_BT
  (List.range (s.leadRd g F.UPDRAFT.IMG_GM_PAGES)).map (s.leadRd g F.UPDRAFT.IMG_GM_BASE + ·) ++
  (List.range (bt / 2 ^ 32)).map (bt % 2 ^ 24 + ·)
def State.stagePages (s : State) (g : Nat) : List Nat :=
  let st := s.leadRd g F.UPDRAFT.STAGE
  (List.range (st / 2 ^ 32)).map (st % 2 ^ 24 + ·)
/-- Pages leave the group's POOL as weight pages, or come to it with a label (R235, R239). -/
def State.pagesFree (s : State) (g : Nat) (ps : List Nat) : State :=
  let x := s.pl g
  s.setPl g { x with pages := x.pages.filter fun y => !ps.contains y.1 }
def State.pagesClaim (s : State) (g : Nat) (ps : List Nat) (label : Option Nat) : State :=
  let x := s.pl g
  s.setPl g { x with pages := ps.foldl (fun l k => tblInsert k label (tblErase k l)) x.pages }
/-- A page is free in the group's POOL: eight free units of its ranges (R207). -/
def PoolSt.pageFree (x : PoolSt) (released : List Nat) (k : Nat) : Bool :=
  let used := (x.used).filter fun u => !released.contains (u / 8)
  (List.range 8).all fun j => (inUnits x.gmR (8 * k + j) || inUnits (x.btR 0) (8 * k + j) || inUnits (x.btR 1) (8 * k + j)) && !used.contains (8 * k + j)
/-- Write a page count beside a base. -/
def State.pagesWr (s : State) (g : Nat) (f : Fld) (n : Nat) : State := s.leadWr g f (s.leadRd g f % 2 ^ 24 + n * 2 ^ 32)

/-- The page of the RTU. -/
def rtuPg : Nat := pg .rtu 0
/-- The RTU's services that run on: firmware verification, persisting, applying. -/
def rtuKey (k : Nat) : Nat := busyKey rtuPg k
/-- The manifest of a load is being verified. -/
def State.loadVerifying (s : State) : Bool := (List.range 8).any fun g => s.leadRd g F.UPDRAFT.LOAD_STATE == 1
/-- The RTU is RUNNING while a service runs (R496). -/
def State.rtuSettle (s : State) : State :=
  s.runIff rtuPg (s.on rtuPg F.RTU.FW_BUSY || !s.rtu.blow.isEmpty || s.rtu.akNew.isSome || !s.rtu.attest.isEmpty || s.loadVerifying)
/-- A verification runs: of a staged image or of a load's manifest (R477). -/
def State.verifying (s : State) : Bool := s.busy.contains (rtuKey 0) || s.loadVerifying
/-- A verification is to start: a commit or revocation that waited for one that has ended is blowing its fuses by now (R477). -/
def State.blowOn (s : State) : State :=
  if s.verifying then s else { s with rtu := { s.rtu with blow := s.rtu.blow.map fun x => (x.1 % 8, x.2) } }
/-- The load ends in a status, with LOAD_STATE `st`. -/
def State.loadState (s : State) (g st : Nat) (x : Status) : State :=
  (((s.leadWr g F.UPDRAFT.LOAD_STATE st).leadWr g F.UPDRAFT.LOAD_STATUS x.code).udRun g).rtuSettle
/-- A session may be named as LOAD_CTRL.SESSION: it has SHARD_SERVER (R424). -/
def State.mayServe (s : State) (i : Nat) : Bool := Nat.land (s.sess i).perm 128 != 0
/-- LOAD_START (R235 checks 1 and 2): the word written at 0x1A8. A session without SHARD_SERVER is refused after them, with PERM (R424, log entry
207). -/
def State.loadStart (s : State) (u : Nat) (v : Word) : State :=
  let p := pg .updraft u
  match s.udGroup u with
  | none => s.answer .illegalState
  | some g =>
    if s.leadUd g != some p then s.answer .illegalState else
    let target := bits v 1 0
    let ls := s.rd p F.UPDRAFT.LOAD_STATE
    let fail (st : Status) : State := (s.wr p F.UPDRAFT.LOAD_STATUS st.code).answer st
    if target = 3 then fail .badArg
    else if ls = 1 || ls = 2 || (target == 0 && (s.uds_ g).any fun w => s.on (pg .updraft w) F.UPDRAFT.ENABLE)
        || (target == 1 && s.rd p F.UPDRAFT.SWAP_STATE != 0) || (target == 2 && !s.on p F.UPDRAFT.CURRENT_VALID) then fail .illegalState
    else if !s.checkAt 2 u 64 then fail .badArg
    else if s.established (bits v 27 16) && !s.mayServe (bits v 27 16) then fail .perm
    else
      let s := ((s.wr p F.UPDRAFT.TARGET target).wr p F.UPDRAFT.SESSION (bits v 27 16)).wr p F.UPDRAFT.PULL_TIMEOUT (bits v 47 32)
      s.blowOn.loadState g 1 .ok
/-- Ask for one chunk (R236, R437). -/
def State.pullReq (s : State) (g c tries : Nat) : State :=
  let ch := s.chunk g c
  let body := s.memBytes (s.mfBase g + 16) 32 ++ leBytes 8 ch.src ++ leBytes 4 ch.bytes ++ leBytes 4 c ++ leBytes 2 (s.mfGen g)
    ++ leBytes 2 s.applNum ++ leBytes 1 g ++ leBytes 11 0
  let i := s.leadRd g F.UPDRAFT.SESSION
  if s.mayServe i then s.gctSend i 0x38 (4 * c + tries) 0 body else s
/-- The lead is HALTED, and so starts nothing (R55). -/
def State.leadHalted (s : State) (g : Nat) : Bool := match s.leadUd g with | some p => s.stored p == .halted | none => false
/-- Request chunks while fewer than four are in flight (R236). -/
def State.pullMore (s : State) (g : Nat) : Nat → State
  | 0 => s
  | n + 1 =>
    let x := s.ud g
    match x.todo with
    | c :: rest =>
      if 4 ≤ x.flight.length || s.leadHalted g then s else
      let t := (tblFind c x.tries).getD 0
      let s := (s.setUd g { x with todo := rest, flight := x.flight ++ [(c, 4 * c + t, s.now)] }).pullReq g c t
      s.pullMore g n
    | [] => s
/-- The local offset to which a chunk goes. -/
def State.chunkDest (s : State) (g target : Nat) (ch : Chunk) : Nat :=
  match s.shard g with
  | none => 0
  | some x => let (a, b) := s.loadBases g target x; (if ch.bt then b else a) * 0x200000 + ch.dest
/-- A chunk's destination meets a listed bad range. -/
def State.chunkBad (s : State) (g c : Nat) : Bool :=
  let ch := s.chunk g c
  16 ≤ (s.ud g).bad.length || (s.ud g).bad.any fun r => overlap r.1 r.2 (s.chunkDest g 2 ch) ch.out
/-- Checks 4 to 8 of R235. A chunk of another MX type is refused with VERSION (R163); where in the order of R235 that refusal stands is DESIGN
CHOICE (log entry 208): after the RANGE of the shard entry, before the BAD_ARG of the chunks' order. -/
def State.loadChecks (s : State) (g target : Nat) : Status :=
    let b := s.mfBase g
    let chs := (s.shardChunks g).map (s.chunk g)
    if s.memLd b 4 != 0x4D535244 || s.memLd (b + 4) 2 != 1 then .version else
    match s.shard g with
    | none => .range
    | some x =>
      if chs.any (fun c => 4 < c.conv) then .version
      else if !chunksOrdered chs || chs.any (fun c => c.bytes = 0 || 0x400000 < c.bytes || (c.conv != 0 && c.bytes % panelIn c.conv != 0)) then .badArg
      else if target = 1 && !(laterThan 16 (s.mfGen g) (s.leadRd g F.UPDRAFT.CURRENT)) then .staleTag
      else if target = 1 && s.mfLayout g != (s.ud g).layout then .version
      else if target = 2 && s.mfGen g != s.leadRd g F.UPDRAFT.CURRENT then .staleTag
      else if (chs.any fun c => c.bt) && absentUnit s.cfg .btier 0 then .absent
      else
        let released := if target = 0 then s.imagePages g else []
        if (s.loadPages g target x).any fun k => !((s.pl g).pageFree released k) then .noSpace else .ok
/-- The last chunk has been written, or there was none to pull (R238). -/
def State.loadDone (s : State) (g : Nat) : State :=
  let target := s.leadRd g F.UPDRAFT.TARGET
  let gen := s.mfGen g
  let s := (s.loadState g 3 .ok).leadEvt g F.EVT.UPDRAFT.LOAD_DONE
  if target = 0 then
    ((s.setUd g { s.ud g with layout := s.mfLayout g, svn := s.mfSvn g, barred := false }).leadWr g F.UPDRAFT.CURRENT gen).leadWr g F.UPDRAFT.CURRENT_VALID 1
  else if target = 1 then
    ((s.setUd g { s.ud g with svnNext := s.mfSvn g }).leadWr g F.UPDRAFT.STAGED gen).leadWr g F.UPDRAFT.STAGED_VALID 1
  else (s.setUd g { s.ud g with bad := [] }).leadWr g F.UPDRAFT.BAD_RANGES 0
/-- The verification of a load ends (R235, R474): a manifest that passes is measured (R482), the other checks follow, pages are claimed, and the
pulls begin. A verification waits while fuses are being blown (R477). -/
def State.loadVerified (s : State) (u : Nat) : State :=
  let p := pg .updraft u
  match s.udGroup u with
  | none => s
  | some g =>
    if s.leadUd g != some p || s.rd p F.UPDRAFT.LOAD_STATE != 1 || s.blowing then s else
    let target := s.rd p F.UPDRAFT.TARGET
    let b := s.mfBase g
    let s := s.touch b (s.memLd (b + 92) 4 + s.memLd (b + 96) 4) 8 false
    match s.mfstVerify b with
    | (.ok, s) =>
      let s := s.measureMfst g b target false
      let st := s.loadChecks g target
      if st != .ok then s.loadState g 0 st else
      match s.shard g with
      | none => s
      | some x =>
        let s := if target = 0 then (s.pagesFree g (s.imagePages g)).wr p F.UPDRAFT.CURRENT_VALID 0 else s
        let s := s.pagesClaim g (s.loadPages g target x) (some (s.mfGen g))
        let s := if target = 0 then (s.wr p F.UPDRAFT.IMG_GM_PAGES (pagesOf x.gm)).pagesWr g F.UPDRAFT.IMG_BT (pagesOf x.bt)
          else if target = 1 then
            (s.pagesFree g ((s.stagePages g).filter fun k => !(s.loadPages g 1 x).contains k)).pagesWr g F.UPDRAFT.STAGE (pagesOf x.gm + pagesOf x.bt)
          else s
        let todo := (s.shardChunks g).filter fun c => target != 2 || s.chunkBad g c
        let s := s.setUd g { s.ud g with todo := todo, flight := [], tries := [], crcs := if target = 1 then [] else (s.ud g).crcs }
        let s := ((s.wr p F.UPDRAFT.CHUNKS_DONE 0).wr p F.UPDRAFT.CHUNKS_TOTAL todo.length).loadState g 2 .ok
        if todo.isEmpty then s.loadDone g else s.pullMore g 4
    | (st, s) => s.loadState g 0 st

/-! ### Conversion -/

/-- The element bytes of MX block `i` of a panel, in Driat order (R163). -/
def mxElems (c : Chunk) (panel : List Byte) (i : Nat) : List Byte :=
  if c.conv = 1 then
    ((panel.drop (16 * i)).take 16).map fun (b : Byte) => if c.high then BitVec.ofNat 8 (b.toNat / 16 + b.toNat % 16 * 16) else b
  else (panel.drop (32 * i)).take 32
/-- The class of an MX block (R164): NaN, zero, or its effective exponent. -/
inductive MxClass where
  | nan | zero | exp (x : Int)
  deriving DecidableEq, Repr
/-- Class a block by its scale byte and elements. -/
def mxClass (c : Chunk) (x : Nat) (es : List Byte) : MxClass :=
  let codes := if c.conv = 1 then es.flatMap fun (b : Byte) => [b.toNat % 16, b.toNat / 16] else es.map fun (b : Byte) => b.toNat
  let f := (fmtOf (if c.conv = 1 then 0 else if c.conv = 2 then 2 else if c.conv = 3 then 3 else 4)).getD .fp4
  if x = 0xFF || codes.any (fun k => !(elemVal f k).isFin) then .nan
  else if codes.all (fun k => (elemVal f k).isZero) then .zero
  else .exp ((x : Int) - 127 - (if c.conv = 4 then 6 else 0))
/-- The scale code of R164 step 4, and whether the block is flushed. -/
def mxScale (d : Int) : Nat × Bool :=
  if -14 ≤ d then (((d + 15).toNat * 8), false)
  else if d = -15 then (4, false) else if d = -16 then (2, false) else if d = -17 then (1, false) else (0, true)
/-- Convert one panel (R164): its lines, its FP32 panel scale, and the blocks flushed. -/
def mxPanel (c : Chunk) (panel : List Byte) : List Byte × Nat × Nat :=
  let nb := if c.conv = 1 then 16 else 32
  let cls := (List.range 512).map fun i => (mxElems c panel i, mxClass c ((panel.drop (512 * nb + i)).headD 0).toNat (mxElems c panel i))
  let emax := cls.foldl (fun (m : Option Int) x => match x.2, m with
    | .exp e, none => some e | .exp e, some k => some (max e k) | _, m => m) none
  let one (x : List Byte × MxClass) : List Byte × Nat × Bool := match x.2, emax with
    | .nan, _ => (x.1, 0xFF, false)
    | .zero, _ => (x.1, 0, false)
    | .exp e, some m => let (sc, fl) := mxScale (e - m + 16); (x.1, sc, fl)
    | .exp _, none => (x.1, 0, false)
  let out := cls.map one
  let per := if c.conv = 1 then 16 else 8
  let lines := (List.range (512 / per)).flatMap fun l =>
    let bs := (out.drop (per * l)).take per
    bs.flatMap (·.1) ++ bs.map (fun b => BitVec.ofNat 8 b.2.1) ++ List.replicate (16 - per) 0
  (lines, match emax with | some m => toFp32 (.ofQ (Q.pow2 (m - 16))) | none => 0x3F800000, (out.filter fun b => b.2.2).length)
/-- The bytes that a chunk writes, and the blocks flushed (R164, R234). -/
def Chunk.convert (c : Chunk) (data : List Byte) : List Byte × Nat :=
  if c.conv = 0 then (data, 0)
  else
    let ps := (List.range c.panels).map fun i => mxPanel c ((data.drop (panelIn c.conv * i)).take (panelIn c.conv))
    (ps.flatMap (·.1) ++ padTo (p64 (4 * c.panels)) (ps.flatMap fun p => leBytes 4 p.2.1), (ps.map (·.2.2)).sum)

/-! ### The ends of a chunk and of a load -/

/-- The load of a group goes directly over the live pages as a swap copy's pull (R243). -/
def State.copyPull (s : State) (g : Nat) : Bool := s.leadRd g F.UPDRAFT.SWAP_STATE == 4
/-- A swap copy stops (R243). -/
def State.swapStuck (s : State) (g c : Nat) (st : Status) : State :=
  let s := (s.setUd g { s.ud g with stuck := some c }).leadEvt g F.EVT.UPDRAFT.SWAP_STUCK
  match s.leadUd g with | some p => s.capture p 0x05 st c | none => s
/-- A chunk has failed (R236): it is requested again, and its third failure fails the load or stops the copy. Once a load is no longer
PULLING no further chunk is requested: the chunk waits for RESUME. -/
def State.chunkFail (s : State) (g c : Nat) (st : Status) : State :=
  let x := s.ud g
  let n := (tblFind c x.tries).getD 0 + 1
  let s := s.setUd g { x with flight := x.flight.filter (·.1 != c), tries := tblInsert c n (tblErase c x.tries) }
  if !s.copyPull g && s.leadRd g F.UPDRAFT.LOAD_STATE != 2 then s.setUd g { s.ud g with todo := c :: (s.ud g).todo }
  else if n < 3 then
    let s := match s.leadUd g with | some p => s.bumpSat p F.UPDRAFT.RETRIES | none => s
    let s := s.setUd g { s.ud g with flight := (s.ud g).flight ++ [(c, 4 * c + n, s.now)] }
    s.pullReq g c n
  else
    let s := s.setUd g { s.ud g with tries := tblErase c (s.ud g).tries }
    if s.copyPull g then s.swapStuck g c st
    else
      let s := s.setUd g { s.ud g with todo := c :: (s.ud g).todo }
      let s := ((s.leadWr g F.UPDRAFT.FAILED_CHUNK c).loadState g 4 st).leadEvt g F.EVT.UPDRAFT.LOAD_FAIL
      match s.leadUd g with | some p => s.capture p 0x04 st c | none => s
/-- Blocks flushed by a conversion are counted (R237). -/
def State.countFlushed (s : State) (g n : Nat) : State :=
  match s.leadUd g with
  | some p => if n = 0 then s else (s.bumpSat p F.UPDRAFT.FLUSHED_BLOCKS n).setEvt p F.EVT.UPDRAFT.BLOCKS_FLUSHED
  | none => s
/-- A chunk has landed with status OK: both checks, the conversion and the write (R236). It answers whether it was written. With no
CHECK unit attached any longer its CRC64 is taken as matching, and DIGEST alone decides (log entry 181). -/
def State.chunkWrite (s : State) (g u c : Nat) (dest : Nat) (data : List Byte) : Status × State :=
  let ch := s.chunk g c
  let (r, s) := match s.checkUnit 2 u with | some k => s.checkSpan k data (some ch.crc) | none => (ch.crc, s)
  if r != ch.crc then (.checkFail, s)
  else if !s.rtuOn || Config.shake256 data 32 != ch.digest then (.checkFail, s.setEvt (pg .rtu 0) F.EVT.RTU.SIG_FAIL)
  else
    let (out, fl) := ch.convert data
    let (st, s) := s.memWrite dest out 8
    let s := if st = .ok then { s.countFlushed g fl with ret := s.ret } else s
    (st, if st = .ok && s.leadRd g F.UPDRAFT.TARGET = 1 && !s.copyPull g then
      s.setUd g { s.ud g with crcs := tblInsert c (crc32c out) (tblErase c (s.ud g).crcs) } else s)
/-- The group and lead instance whose load has a pull of this session and message id in flight, with the chunk. -/
def State.pullOf (s : State) (sess id : Nat) : Option (Nat × Nat × Nat) :=
  (List.range 8).findSome? fun g =>
    match s.leadUd g with
    | some p => if s.rd p F.UPDRAFT.SESSION = sess then ((s.ud g).flight.find? fun x => x.2.1 == id).map fun x => (g, instOf p, x.1) else none
    | none => none

end Sys2Proof.Machine
end

