-- ==== Sys2Proof/Machine/Swap.lean ====
section
/-! DEFINITION. The in-place swap (R239 to R244): PREPARE, COMMIT, CANCEL, the switch, SWAP_READY, the copy, and the controls and
time limits of loads and copies (R236, R237, R243). -/

namespace Sys2Proof.Machine

/-- The package indices of SWAP_MEMBERS. -/
def State.swapMembers (s : State) (g : Nat) : List Nat :=
  let w := s.leadRd g F.UPDRAFT.MEMBERS0 + s.leadRd g F.UPDRAFT.MEMBERS1 * 2 ^ 64
  (List.range 128).filter fun i => w / 2 ^ i % 2 == 1
/-- The lead instance's group, where the instance is a lead. -/
def State.leadGroup (s : State) (u : Nat) : Option Nat :=
  match s.udGroup u with | some g => if s.leadUd g = some (pg .updraft u) then some g else none | none => none
/-- A swap write is refused with a status (R240). -/
def State.swapFail (s : State) (u : Nat) (st : Status) : State :=
  (s.wr (pg .updraft u) F.UPDRAFT.SWAP_STATUS st.code).answer st

/-- SWAP_PREPARE (R240): the word written at 0x1C0. -/
def State.swapPrepare (s : State) (u : Nat) (v : Word) : State :=
  let p := pg .updraft u
  match s.leadGroup u with
  | none => s.answer .illegalState
  | some g =>
    let sp := pg .stepseq g
    if s.rd p F.UPDRAFT.SWAP_STATE != 0 then s.swapFail u .illegalState
    else if !s.on p F.UPDRAFT.STAGED_VALID || bits v 15 0 != s.rd p F.UPDRAFT.STAGED then s.swapFail u .staleTag
    else if s.on sp F.STEPSEQ.LC_VALID && !laterThan 32 (s.rd p F.UPDRAFT.SWAP_TARGET) (s.rd sp F.STEPSEQ.LC_STEP) then s.swapFail u .staleTag
    else if bits v 17 16 = 3 || !(s.swapMembers g).contains s.pkgIdx then s.swapFail u .badArg
    else
      let s := ((s.wr p F.UPDRAFT.NEW_GEN (bits v 15 0)).wr p F.UPDRAFT.POLICY (bits v 17 16)).wr p F.UPDRAFT.SWAP_STATE 1
      let s := ((s.wr p F.UPDRAFT.SWAP_STATUS 0).wr p F.UPDRAFT.COPY_FRONT 0).wr p F.UPDRAFT.GLOBALS_DONE 0
      s.setUd g { s.ud g with early := [], awaited := [] }
/-- SWAP_COMMIT (R240). -/
def State.swapCommit (s : State) (u : Nat) : State :=
  let p := pg .updraft u
  match s.leadGroup u with
  | none => s.answer .illegalState
  | some _ =>
    if s.rd p F.UPDRAFT.SWAP_STATE != 1 then s.swapFail u .illegalState
    else (s.wr p F.UPDRAFT.SWAP_STATE 2).wr p F.UPDRAFT.SWAP_STATUS 0
/-- SWAP_CANCEL (R240). Grants that were held for the swap meet the state that it leaves (R241). -/
def State.swapCancel (s : State) (u : Nat) : State :=
  let p := pg .updraft u
  match s.leadGroup u with
  | none => s.answer .illegalState
  | some _ =>
    let st := s.rd p F.UPDRAFT.SWAP_STATE
    if st != 1 && st != 2 then s.swapFail u .illegalState
    else (s.wr p F.UPDRAFT.SWAP_STATE 0).wr p F.UPDRAFT.SWAP_STATUS 0

/-- The layers and GLOBAL chunks still to copy show in COPY_FRONT and GLOBALS_DONE (R243); at the end of the copy the generation
changes (R244). -/
def State.copyFront (s : State) (g : Nat) : State :=
  match s.leadUd g with
  | none => s
  | some p =>
    let chs := (s.ud g).copy.map (s.chunk g)
    let layers := s.rd p F.UPDRAFT.LAYERS_M1 + 1
    let left := chs.filter fun c => !c.globl
    let s := s.wr p F.UPDRAFT.GLOBALS_DONE (if chs.any (·.globl) then 0 else 1)
    let front := left.foldl (fun m c => min m c.layer) layers
    let s := s.wr p F.UPDRAFT.COPY_FRONT front
    if !chs.isEmpty then s else
      let s := (s.wr p F.UPDRAFT.CURRENT (s.rd p F.UPDRAFT.NEW_GEN)).wr p F.UPDRAFT.STAGED_VALID 0
      let s := (s.pagesFree g (s.stagePages g)).pagesWr g F.UPDRAFT.STAGE 0
      let s := s.setUd g { s.ud g with svn := (s.ud g).svnNext }
      ((s.wr p F.UPDRAFT.SWAP_STATE 0).setEvt p F.EVT.UPDRAFT.SWAP_DONE).udRun g
/-- Every member has reported (R242): the copy begins, GLOBAL chunks first. -/
def State.copyBegin (s : State) (g : Nat) : State :=
  if s.leadRd g F.UPDRAFT.SWAP_STATE = 3 && (s.ud g).awaited.isEmpty then
    let cs := s.shardChunks g
    let (a, b) := cs.partition fun c => (s.chunk g c).globl
    let s := (s.leadWr g F.UPDRAFT.SWAP_STATE 4).setUd g { s.ud g with copy := a ++ b, again := [], stuck := none, todo := [], flight := [], tries := [] }
    (s.copyFront g).udRun g
  else s
/-- READY_AWAITED shows the members still awaited. -/
def State.setAwaited (s : State) (g : Nat) (l : List Nat) : State :=
  ((s.setUd g { s.ud g with awaited := l }).leadWr g F.UPDRAFT.READY_AWAITED l.length).copyBegin g
/-- The switch (R242): the first step of generation NEW opens. -/
def State.swapSwitch (s : State) (g step gen : Nat) : State :=
  match s.leadUd g with
  | none => s
  | some p =>
    if s.rd p F.UPDRAFT.SWAP_STATE != 2 || s.rd p F.UPDRAFT.NEW_GEN != gen then s else
    let s := ((s.wr p F.UPDRAFT.SWAP_STATE 3).wr p F.UPDRAFT.SWITCH_STEP step).setEvt p F.EVT.UPDRAFT.SWAP_SWITCHED
    let s := s.measureMfst g (s.mfBase g) 1 false
    let s := if s.rd p F.UPDRAFT.POLICY = 1 then
        forEach ((s.pl g).seqs.map (·.2)) (fun q s => s.setPl g ((s.pl g).dropSeq (((s.pl g).sq (slotOf q.handle)).getD q))) s
      else s
    let ms := s.swapMembers g
    let s := forEach (ms.filter (· != s.pkgIdx)) (fun m s =>
      let k : Pkt := { op := 0x61, tagged := true, srcDom := s.ownDom, dstDom := s.ownDom, srcPkg := s.pkgIdx, dstPkg := m, step := step, gen := gen, unit := p }
      (s.launch none (s.stampGrp g k)).2) s
    let lost (m : Nat) : Bool := s.isLost m
    s.setAwaited g (ms.filter fun m => m != s.pkgIdx && !(s.ud g).early.contains m && !lost m)
/-- A SWAP_READY reaches this package (R242, R385). -/
def State.swapReady (s : State) (l : Nat) (q : Pkt) : State :=
  let g? := (List.range 8).find? fun g => s.jobOf g == q.job && (s.leadUd g).isSome
  let refused : State := (s.bumpSat (linkRouter l) F.FROUTER.MGMT_REFUSED).setEvt (linkRouter l) F.EVT.FROUTER.MGMT_REFUSED
  match g? with
  | none => refused
  | some g =>
    let x := s.ud g
    let st := s.leadRd g F.UPDRAFT.SWAP_STATE
    if st < 1 || 3 < st || s.leadRd g F.UPDRAFT.NEW_GEN != q.gen || !(s.swapMembers g).contains q.srcPkg then refused
    else if st = 3 then (if x.awaited.contains q.srcPkg then s.setAwaited g (x.awaited.filter (· != q.srcPkg)) else refused)
    else if x.early.contains q.srcPkg then refused else s.setUd g { x with early := x.early ++ [q.srcPkg] }
/-- A member that is lost is removed from the count (R242). -/
def State.swapLost (s : State) (m : Nat) : State :=
  forEach (List.range 8) (fun g s =>
    let x := s.ud g
    if s.leadRd g F.UPDRAFT.SWAP_STATE = 3 && x.awaited.contains m then s.setAwaited g (x.awaited.filter (· != m)) else s) s

/-- A chunk of the copy has been written (R239, R243, R244): pages whose last byte is written take the new generation. -/
def State.copyWritten (s : State) (g c : Nat) : State :=
  let x := s.ud g
  let s := s.setUd g { x with copy := x.copy.filter (· != c), again := x.again.filter (· != c), stuck := none, tries := tblErase c x.tries }
  let left := (s.ud g).copy.map fun k => let ch := s.chunk g k; (s.chunkDest g 0 ch, ch.out)
  let gen := s.leadRd g F.UPDRAFT.NEW_GEN
  let ps := (s.imagePages g).filter fun k => !(left.any fun y => overlap y.1 y.2 (k * 0x200000) 0x200000)
  ((s.pagesClaim g ps (some gen)).copyFront g).udRun g
/-- SWAP_COPY_CHUNK (R243): the next chunk is read from the staging range and checked. A second mismatch pulls it again. -/
def State.copyChunk (s : State) (u : Nat) (es : List MemErr) : State :=
  match s.leadGroup u with
  | none => s
  | some g =>
    let x := s.ud g
    match x.copy with
    | [] => s
    | c :: _ =>
      if s.leadRd g F.UPDRAFT.SWAP_STATE != 4 || x.stuck.isSome || !x.flight.isEmpty || s.on (pg .updraft u) F.COM.ISOLATED
          || s.stored (pg .updraft u) = .halted then s else
      let ch := s.chunk g c
      if s.rangeHeld (s.chunkDest g 1 ch) ch.out || s.rangeHeld (s.chunkDest g 0 ch) ch.out then s else
      let (st, bs, s) := s.memRead (s.chunkDest g 1 ch) ch.out 8 es
      if st = .ok && tblFind c x.crcs = some (crc32c bs) then
        let (w, s) := s.memWrite (s.chunkDest g 0 ch) bs 8 es
        if w = .ok then s.copyWritten g c else s.swapStuck g c w
      else if !x.again.contains c then s.setUd g { x with again := c :: x.again }
      else (s.setUd g { x with flight := [(c, 4 * c, s.now)], tries := tblErase c x.tries }).pullReq g c 0

/-- PULL_DATA (R236, R437): a chunk arrives on a session. One that matches no outstanding request is discarded. -/
def State.pullData (s : State) (m : Msg) (es : List MemErr) : State :=
  match s.pullOf m.session m.id with
  | none => s.bump (s.anchorPg m.session) F.GCT.DROPPED
  | some (g, u, c) =>
    let ch := s.chunk g c
    let hdr := s.memBytes (s.mfBase g + 16) 32 ++ leBytes 8 ch.src ++ leBytes 4 ch.bytes ++ leBytes 4 c ++ leBytes 2 (s.mfGen g)
      ++ leBytes 2 s.applNum ++ leBytes 1 g ++ leBytes 11 0
    if m.body.take 64 != hdr || (m.status = 0 && m.body.length != 64 + ch.bytes) then s.bump (s.anchorPg m.session) F.GCT.DROPPED
    else if m.status != 0 then s.chunkFail g c .checkFail
    else
      let swap := s.copyPull g
      let dest := s.chunkDest g (if swap then 0 else s.leadRd g F.UPDRAFT.TARGET) ch
      let s := s.memErrs true es
      match s.chunkWrite g u c dest (m.body.drop 64) with
      | (.ok, s) =>
        let x := s.ud g
        let s := s.setUd g { x with flight := x.flight.filter (·.1 != c) }
        if swap then s.copyWritten g c
        else
          let s := s.leadWr g F.UPDRAFT.CHUNKS_DONE (s.leadRd g F.UPDRAFT.CHUNKS_DONE + 1)
          let s := if s.leadRd g F.UPDRAFT.LOAD_STATE = 2 then s.pullMore g 4 else s
          if s.leadRd g F.UPDRAFT.LOAD_STATE = 2 && (s.ud g).todo.isEmpty && (s.ud g).flight.isEmpty then s.loadDone g else s
      | (st, s) => s.chunkFail g c st
/-- PULL_TIMEOUT_EXPIRY (R236): a chunk is not complete within PULL_TIMEOUT of its request. -/
def State.pullTimeout (s : State) (u c : Nat) : State :=
  match s.leadGroup u with
  | none => s
  | some g =>
    match (s.ud g).flight.find? fun x => x.1 == c with
    | none => s
    | some x => (s.reach (x.2.2 + s.leadRd g F.UPDRAFT.PULL_TIMEOUT * 1000000)).chunkFail g c .timeout
/-- LOAD_RESUME (R237, R243): a failed load goes on, and a stuck copy retries its chunk. -/
def State.loadResume (s : State) (u : Nat) : State :=
  match s.leadGroup u with
  | none => s.answer .illegalState
  | some g =>
    let x := s.ud g
    if x.stuck.isSome && s.copyPull g then s.setUd g { x with stuck := none, again := [], flight := [], tries := [] }
    else if s.leadRd g F.UPDRAFT.LOAD_STATE = 4 then
      let s := (s.setUd g { x with todo := (x.todo ++ x.flight.map (·.1)).mergeSort (fun a b => decide (a ≤ b)), flight := [], tries := [] }).loadState g 2 .ok
      s.pullMore g 4
    else s.answer .illegalState
/-- LOAD_ABORT (R237): the load stops, and its pages are released. -/
def State.loadAbort (s : State) (u : Nat) : State :=
  match s.leadGroup u with
  | none => s.answer .illegalState
  | some g =>
    let ls := s.leadRd g F.UPDRAFT.LOAD_STATE
    if ls != 1 && ls != 2 && ls != 4 then s.answer .illegalState else
    let target := s.leadRd g F.UPDRAFT.TARGET
    let s := if ls = 1 then s
      else if target = 0 then ((s.pagesFree g (s.imagePages g)).leadWr g F.UPDRAFT.IMG_GM_PAGES 0).pagesWr g F.UPDRAFT.IMG_BT 0
      else if target = 1 then ((s.pagesFree g (s.stagePages g)).pagesWr g F.UPDRAFT.STAGE 0).leadWr g F.UPDRAFT.STAGED_VALID 0
      else s
    (s.setUd g { s.ud g with todo := [], flight := [], tries := [] }).loadState g 0 (if ls = 4 then .ok else .killed)

/-- A UNIT_RESET of an UPDRAFT (R248): its armed uses and fills are abandoned and ENABLE is cleared; a lead whose load is PULLING
leaves it FAILED with ISOLATED. -/
def State.updraftReset (s : State) (u : Nat) : State :=
  let p := pg .updraft u
  let s := s.wr p F.UPDRAFT.ENABLE 0
  match s.udGroup u with
  | none => s
  | some g =>
    let x := s.ud g
    let mine (w : Use) : Bool := match s.openOf g with | some o => o.grant.step == w.step | none => false
    let s := forEach x.uses (fun w s => s.useAbort g w) s
    let s := (s.setUd g { x with uses := (x.uses.filter mine).map fun w => if w.released then { w with todo := [] } else { w with armed := false, todo := [], failed := none } }).udRun g
    if s.leadGroup u = some g && s.rd p F.UPDRAFT.LOAD_STATE = 2 then
      let x := s.ud g
      let l := (x.todo ++ x.flight.map (·.1)).mergeSort fun a b => decide (a ≤ b)
      let s := s.setUd g { x with todo := l, flight := [], tries := [] }
      ((s.wr p F.UPDRAFT.FAILED_CHUNK (l.headD 0)).loadState g 4 .isolated).setEvt p F.EVT.UPDRAFT.LOAD_FAIL
    else if s.leadGroup u = some g && s.rd p F.UPDRAFT.LOAD_STATE = 1 then s.loadState g 0 .isolated
    else s.setUd g { s.ud g with flight := if s.leadGroup u = some g then [] else (s.ud g).flight }

end Sys2Proof.Machine
end

