-- ==== Sys2Proof/Machine/Grant.lean ====
section
/-! DEFINITION. The step program and its check (R253 to R257), step grants (R258 to R260), pre-emption by an URGENT grant (R275) and
the step report (R276). -/

namespace Sys2Proof.Machine

/-- A STEPSEQ after reset: the words at 0x100 and 0x118 in force are their reset values (R277). -/
def StepSt.init : StepSt := ⟨[], none, 0, none, 0, false, 0x40000, 0x3000000000064⟩
/-- The STEPSEQ of a group. -/
def State.ss (s : State) (g : Nat) : StepSt := (tblFind g s.steps).getD StepSt.init
/-- Replace it. -/
def State.setSs (s : State) (g : Nat) (x : StepSt) : State := { s with steps := tblInsert g x (tblErase g s.steps) }

/-! ### The program -/

/-- A patch record (R255). -/
structure Patch where
  desc : Nat
  sec : Nat
  unit : Nat
  kind : Nat
  field : Nat
  arg : Nat
  rsv : Bool
  deriving DecidableEq, Repr
/-- The patches of a group's program, in table order. -/
def State.progPatches (s : State) (g : Nat) : List Patch :=
  let b := s.progBase g
  let t := b + s.memLd (b + 52) 4
  (List.range (s.memLd (b + 56) 4)).map fun i =>
    let a := t + 16 * i
    let w := s.memLd (a + 6) 2
    ⟨s.memLd a 4, s.memLd (a + 4) 2, w % 512, s.memLd (a + 8) 1, s.memLd (a + 9) 1, s.memLd (a + 12) 4, w / 512 != 0 || s.memLd (a + 10) 2 != 0⟩
/-- The patch kinds of R256 that write a list. -/
def isList (k : Nat) : Bool := decide (0x10 ≤ k) && decide (k ≤ 0x15)
/-- The longest list of a kind that a grant within MAX_ROWS and MAX_ENTRIES can give (R256, R257). -/
def listMax (kind cls rows ents leaves : Nat) : Nat :=
  match kind with
  | 0x10 | 0x11 => 4 * rows
  | 0x12 => 16 * (min ents rows + rows / 64)
  | 0x13 => 32 * ents + 4 * rows
  | 0x14 => 2 * rows
  | _ => if cls = 0x10 then 16 * min rows ents else if cls = 0x31 then 32 * leaves * ents else 0
/-- The rings of a unit's enabled queues, and of its lead tile's: offset and length. -/
def State.ringRanges (s : State) (p : Nat) : List (Nat × Nat) :=
  ([p, pg .tile (s.lead p)].eraseDups).flatMap fun q => (List.range 4).flatMap fun k =>
    if s.qOn q k then [(s.ringBase q k, 64 * s.ringSize q k), (s.cplBase q k, 32 * s.ringSize q k)] else []
/-- A region of the active layout of a unit: base and size in bytes. -/
def State.regionOf (s : State) (p j : Nat) : Nat × Nat := let r := nth (0, 0) (s.tl (s.lead p)).regions j; (r.1 * 65536, r.2 * 65536)

/-- The checks of R257, in their order. A part of the program that cannot be read lies outside it. -/
def State.progFail (s : State) (g : Nat) : Status :=
  let b := s.progBase g
  let f (o n : Nat) : Nat := s.memLd (b + o) n
  let bad (a n : Nat) : Option Status := if n = 0 then none else if (s.rangeFail a n).isSome then some .badArg else if s.badRead a n then some .poison else none
  let layers := f 6 2
  let units := f 8 2 % 1024
  let secs := 6 * layers + 2
  match bad b 64 with
  | some e => e
  | none =>
  if f 0 4 != 0x53505247 || f 4 2 != 1 then .version
  else if f 8 2 / 1024 != 0 || f 12 2 / 8192 != 0 || f 14 2 / 2 != 0 || f 60 4 != 0 || layers = 0 || 1024 < layers || units = 0 || 512 < units
      || f 10 2 = 0 || f 12 2 % 8192 = 0 || 4096 < f 12 2 % 8192 then .badArg
  else match bad (b + f 48 4) (8 * secs * units) with
  | some e => e
  | none =>
    let rec_ (sec u : Nat) : Nat × Nat := let a := b + f 48 4 + 8 * (sec * units + u); (s.memLd a 4, s.memLd (a + 4) 4)
    let cells := (List.range secs).flatMap fun sec => (List.range units).map fun u => (sec, u)
    match cells.findSome? fun (sec, u) => bad (b + (rec_ sec u).1) (64 * (rec_ sec u).2) with
    | some e => e
    | none =>
    match bad (b + f 52 4) (16 * f 56 4) with
    | some e => e
    | none =>
    let ps := s.progPatches g
    if ps.any (·.rsv) then .badArg
    else
      let lead := s.leadUd g
      let okTable := match lead with | some p => s.tableOk (instOf p) && s.rd p F.UPDRAFT.LAYERS_M1 + 1 == layers | none => false
      if !okTable || (s.curGen g).isNone || (s.ud g).layout != f 16 32 then .version
      else if (List.range layers).any (fun l => (rec_ (1 + 6 * l + s.lrDefault (s.tblBase g) l) 0).2 == 0)
          || cells.any (fun (sec, u) => (rec_ sec u).2 != 0 && (rec_ sec 0).2 == 0) then .badArg
      else if (List.range units).any fun u => !s.mapValid g u then .noSpace
      else
        let shape (p : Patch) : Bool := decide (p.sec < secs) && decide (p.unit < units) && decide (p.desc < (rec_ p.sec p.unit).2)
          && decide (16 ≤ p.field) && decide (p.field ≤ 63)
          && ([0x01, 0x02, 0x03, 0x20, 0x21].contains p.kind || isList p.kind || (p.kind == 0x30 && decide (p.arg ≤ 3)))
        let area (p : Patch) : Bool :=
          let page := s.mapPage g p.unit
          let (qb, qn) := s.regionOf page 0
          let cls := s.memLd (b + (rec_ p.sec p.unit).1 + 64 * p.desc) 1
          let n := listMax p.kind cls (f 10 2) (f 12 2) (s.leaves page).length
          decide (p.arg + n ≤ qn) && !((s.ringRanges page).any fun r => overlap (qb + p.arg) n r.1 r.2)
        match ps.find? fun p => !shape p || (isList p.kind && !area p) with
        | some p => if shape p then .range else .badArg
        | none => if f 14 2 % 2 = 1 && absentUnit s.cfg .squall 0 && absentUnit s.cfg .squall 1 then .absent else .ok

/-- What PROGRAM_CHECK reads of a program: the header, and where that is one, the section table, the descriptors and the patch table. -/
def State.progReads (s : State) (g : Nat) : List (Nat × Nat) :=
  let b := s.progBase g
  let f (o n : Nat) : Nat := s.memLd (b + o) n
  let units := f 8 2 % 1024
  let secs := 6 * f 6 2 + 2
  if f 0 4 != 0x53505247 || f 4 2 != 1 || f 6 2 = 0 || 1024 < f 6 2 || units = 0 || 512 < units then [(b, 64)]
  else (b, 64) :: (b + f 48 4, 8 * secs * units)
    :: ((List.range (secs * units)).map fun i => let a := b + f 48 4 + 8 * i; (b + s.memLd a 4, 64 * s.memLd (a + 4) 4))
    ++ [(b + f 52 4, 16 * f 56 4)]
/-- PROGRAM_CHECK (R257, R546). -/
def State.progCheck (s : State) (g : Nat) : State :=
  let p := pg .stepseq g
  if (s.openOf g).isSome || !(s.heldOf g).isEmpty then (s.wr p F.STEPSEQ.PROGRAM_STATUS Status.illegalState.code).answer .illegalState
  else s.busySet (busyKey p 0)
/-- PROGRAM_CHECK ends (R257). -/
def State.progCheckDone (s : State) (g : Nat) : State :=
  let p := pg .stepseq g
  if !s.busy.contains (busyKey p 0) then s else
  let s := s.busyClear (busyKey p 0)
  let st := s.progFail g
  let b := s.progBase g
  let s := s.readAll 12 (s.progReads g)
  let s := s.wr p F.STEPSEQ.PROGRAM_STATUS st.code
  if st = .ok then
    (((s.wr p F.STEPSEQ.PROGRAM_VALID 1).wr p F.STEPSEQ.MAX_ROWS (s.memLd (b + 10) 2)).wr p F.STEPSEQ.LAYERS_M1 (s.memLd (b + 6) 2 - 1)).wr
      p F.STEPSEQ.UNITS_M1 (s.memLd (b + 8) 2 % 1024 - 1)
  else s.wr p F.STEPSEQ.PROGRAM_VALID 0
/-- A write of PROGRAM_BASE (R257, R278, R289): the plan of the group is no longer valid in either SQUALL. -/
def State.progBaseWrite (s : State) (g : Nat) (v : Word) : State :=
  let p := pg .stepseq g
  if (s.openOf g).isSome || !(s.heldOf g).isEmpty then s.answer .illegalState
  else
    let s := ((s.setReg 0 p 0x108 (v &&& 0x1FFFFFFFFFC0)).wr p F.STEPSEQ.PROGRAM_VALID 0).busyClear (busyKey p 0)
    forEach [0, 1] (fun k s => s.planClear k g) s

/-! ### Units of the map -/

/-- A page of the map is unbound, serves the group and has its wrapper open (R250). -/
def State.mapServes (s : State) (g p : Nat) : Bool :=
  !s.on p F.COM.BOUND && s.groupOf p == some g && (s.tree p).all fun x => !s.on x F.COM.ISOLATED
/-- Every unit of the program is in service (R250). -/
def State.inService (s : State) (g : Nat) : Bool :=
  (List.range (s.unitCount g)).all fun u =>
    let p := s.mapPage g u
    s.mapValid g u && s.mapServes g p && (s.ust p == .idle || s.ust p == .running)

/-! ### Reports -/

/-- A record of a step report (R276). -/
structure RepRec where
  handle : Nat
  st : Status
  reason : Nat
  acc : Nat := 0
  emitted : Nat := 0
  closed : Bool := false
  len : Nat := 0
  tsn : Nat := 0
  deriving DecidableEq, Repr
/-- The bytes of a record. -/
def RepRec.bytes (r : RepRec) : List Byte :=
  leBytes 4 r.handle ++ leBytes 1 r.st.code ++ leBytes 1 r.reason ++ leBytes 1 (r.acc % 64) ++ leBytes 1 (r.emitted + (if r.closed then 128 else 0))
  ++ leBytes 4 r.len ++ leBytes 4 r.tsn
/-- Send a step report (R276): `cfg` is the SS_CFG word in force; opened at `t`. -/
def State.sendReport (s : State) (g : Nat) (cfg : Word) (x : Grant) (outcome : Nat) (st : Status) (epoch t retag rows tokens reruns : Nat)
    (recs : List RepRec) : State :=
  if bits cfg 18 18 = 0 then s else
  let hdr := leBytes 4 x.step ++ leBytes 2 x.gen ++ leBytes 1 (g + (if x.urgent then 8 else 0) + 16 * outcome) ++ leBytes 1 st.code
    ++ leBytes 4 x.cookie ++ leBytes 4 epoch ++ leBytes 8 t ++ leBytes 8 s.now ++ leBytes 4 retag ++ leBytes 2 rows ++ leBytes 2 recs.length
    ++ leBytes 4 tokens ++ leBytes 1 (reruns % 16) ++ leBytes 1 0 ++ leBytes 18 0
  s.gctSend (bits cfg 43 32) 0x2A 0 0 (hdr ++ recs.flatMap RepRec.bytes)
/-- A held grant is discarded with a DISPLACED report (R275, R276), under the words that the last step open brought into force (R278). -/
def State.displaced (s : State) (g : Nat) (x : Grant) : State :=
  s.sendReport g (s.ss g).cfg x 3 .ok 0 0 0 0 0 0 []

/-! ### Held grants -/

/-- The place of a step number after LAST_OPENED (R22, R260). -/
def State.stepOrd (s : State) (g n : Nat) : Nat := (n + 2 ^ 33 - s.rd (pg .stepseq g) F.STEPSEQ.LAST_OPENED - 1) % 2 ^ 32
/-- TILE_NEXT of every unit of the map shows the lowest held grant (R260). -/
def State.showNext (s : State) (g : Nat) : State :=
  let x := (s.heldOf g).head?
  forEach ((s.mapPages g).flatMap s.tree) (fun p s =>
    match x with
    | some x => ((s.wr p F.TILE.NEXT_STEP x.step).wr p F.TILE.NEXT_GENERATION x.gen).wr p F.TILE.NEXT_VALID 1
    | none => ((s.wr p F.TILE.NEXT_STEP 0).wr p F.TILE.NEXT_GENERATION 0).wr p F.TILE.NEXT_VALID 0) s
/-- The same after units of a map have been reset or replaced. -/
def State.showHeld (s : State) : State :=
  forEach (List.range 8) (fun g s => if (s.heldOf g).isEmpty then s else s.showNext g) s
/-- The held grants change: HELD shows the lowest first, by serial order (R22). -/
def State.setHeld (s : State) (g : Nat) (l : List Grant) : State :=
  let l := l.mergeSort fun a b => !laterThan 32 a.step b.step
  let p := pg .stepseq g
  let show_ (h : Nat) (s : State) : State :=
    let w : Nat := match l[h]? with
      | some x => x.step + x.gen * 2 ^ 32 + 2 ^ 48 + (if x.urgent then 2 ^ 49 else 0) + (if x.retag then 2 ^ 50 else 0)
      | none => 0
    s.setReg 0 p (0x130 + 8 * h) (BitVec.ofNat 64 w)
  (((show_ 1 (show_ 0 (s.setSs g { s.ss g with held := l }))).sqPrune g).showNext g)

/-! ### Arrival of a grant -/

/-- The grant that a body holds (R258); bytes that are missing count as 0. -/
def grantOf (b : List Byte) : Grant :=
  let n := rqF b 10 2 % 8192
  let ent (i : Nat) : GEntry :=
    let f (o k : Nat) : Nat := rqF b (192 + 16 * i + o) k
    ⟨f 0 4, f 4 2 % 8192, f 6 1 % 64, f 6 1 / 64 % 2 == 1, f 6 1 / 128 == 1, f 7 1 % 2 == 1, f 7 1 / 2 % 2 == 1, f 8 2 % 4096, f 8 2 / 2 ^ 15 == 1, f 12 4⟩
  { step := rqF b 0 4, gen := rqF b 4 2, urgent := rqF b 6 1 / 8 % 2 == 1, cookie := rqF b 20 4, retag := false, skip := rqF b 64 128,
    entries := (List.range n).map ent, drafts := (List.range (rqF b 16 4 / 4)).map fun k => rqF b (192 + 16 * n + 4 * k) 4, free := false }
/-- The reserved fields of a grant body are zero (R258). -/
def grantRsvOk (b : List Byte) : Bool :=
  let n := rqF b 10 2 % 8192
  rqF b 6 1 / 16 == 0 && rqF b 7 1 == 0 && rqF b 10 2 / 8192 == 0 && rqF b 24 40 == 0
  && (List.range n).all fun i =>
    let f (o k : Nat) : Nat := rqF b (192 + 16 * i + o) k
    f 4 2 / 8192 == 0 && f 7 1 / 4 == 0 && f 8 2 / 4096 % 8 == 0 && f 10 2 == 0
/-- An entry has one of the four forms (R258): those with NEW = 0 say nothing of PROMPT and DRAFTS. -/
def entryOk (bytes : Nat) (e : GEntry) : Bool :=
  decide (e.new ≤ 4096) &&
  (if e.new = 0 then true
   else if e.prompt then e.drafts == 0
   else e.new == e.drafts + 1 && decide (e.draftOff + 4 * e.drafts ≤ bytes))
/-- Check 3 of R259. -/
def State.grantFormOk (s : State) (g : Nat) (b : List Byte) : Bool :=
  let x := grantOf b
  let n := x.entries.length
  let total := (x.entries.map (·.new)).sum
  grantRsvOk b && decide (n ≤ s.memLd (s.progBase g + 12) 2 % 8192) && decide (n ≤ 4096) && rqF b 12 4 == total
  && decide (total ≤ s.rd (pg .stepseq g) F.STEPSEQ.MAX_ROWS) && rqF b 16 4 % 4 == 0 && b.length == 192 + 16 * n + rqF b 16 4
  && (x.entries.all (entryOk (rqF b 16 4))) && (x.entries.map (·.handle)).eraseDups.length == n
/-- The partition of the group refuses grants (R410). -/
def State.partRefuses (s : State) (g : Nat) : Bool :=
  let st := s.stored (pg .partition (s.rd (pg .tgroup g) F.TGROUP.PARTITION))
  s.on (pg .tgroup g) F.TGROUP.PART_VALID && (st == .draining || st == .halted)
/-- What check 6 of R259 says of a generation. -/
inductive GenTest where
  | pass | wait | refuse (st : Status)
  deriving DecidableEq, Repr
/-- Check 6 of R259: the generation is current, or R241 admits it; a step number that is unordered against SWAP_TARGET is refused where
the order decides (R22). -/
def State.genTest (s : State) (g step gen : Nat) : GenTest :=
  match s.leadUd g with
  | none => .refuse .staleTag
  | some p =>
    let st := s.rd p F.UPDRAFT.SWAP_STATE
    let cur := s.curGen g == some gen
    let new := s.rd p F.UPDRAFT.NEW_GEN == gen
    let before := laterThan 32 (s.rd p F.UPDRAFT.SWAP_TARGET) step
    let drain := s.rd p F.UPDRAFT.POLICY == 2
    if st = 0 then (if cur then .pass else .refuse .staleTag)
    else if st ≤ 2 then
      if new then
        if before || unordered 32 (s.rd p F.UPDRAFT.SWAP_TARGET) step then .refuse .staleTag else if st = 1 then .wait
        else if drain && s.slots.any (fun e => e.2.st == 1 && e.2.tg == g) then .refuse .illegalState else .pass
      else if cur && (before || drain) then .pass else .refuse .staleTag
    else if new then .pass else .refuse .staleTag
/-- The held grants that an URGENT grant displaces (R275): from the open step's number to U + 1. -/
def State.displaces (s : State) (g : Nat) (x : Grant) : List Grant :=
  let u1 := (x.step + 1) % 2 ^ 32
  if !x.urgent then [] else
  (s.heldOf g).filter fun h => !h.urgent && !laterThan 32 h.step u1 && !unordered 32 h.step u1
    && (match s.openOf g with | some o => h.step == o.grant.step || laterThan 32 h.step o.grant.step | none => true)
/-- The checks of R259, in their order. -/
def State.grantTest (s : State) (g : Nat) (b : List Byte) : GenTest :=
  let p := pg .stepseq g
  let x := grantOf b
  let st := s.ssState g
  let rest := (s.heldOf g).filter fun h => !(s.displaces g x).contains h
  let squallOk := !s.usesSquall g || (match s.squallOf g with | some k => s.planValid k g | none => false)
  let late (a : Nat) : Bool := laterThan 32 x.step a
  if s.on p F.COM.ISOLATED then .refuse .isolated
  else if rqF b 8 2 != s.jobOf g then .refuse .perm
  else if !(st == .idle || st == .running || st == .halted) || !s.on p F.STEPSEQ.PROGRAM_VALID || !squallOk || s.partRefuses g then .refuse .illegalState
  else if !s.grantFormOk g b then .refuse .badArg
  else if !s.inService g then .refuse .noSpace
  else if (s.on p F.STEPSEQ.LO_VALID && !late (s.rd p F.STEPSEQ.LAST_OPENED)) || (s.on p F.STEPSEQ.LC_VALID && !late (s.rd p F.STEPSEQ.LC_STEP))
      || rest.any (fun h => h.step == x.step || unordered 32 h.step x.step) then .refuse .staleTag
  else match s.genTest g x.step x.gen with
  | .pass => if 2 ≤ rest.length then .refuse .noSpace else .pass
  | t => t
/-- The response to a GRANT (R419). -/
def State.grantRsp (s : State) (m : Msg) (st : Status) : State :=
  (s.answer st).gctSend m.session 0x29 m.id st.code (leBytes 4 (rqF m.body 0 4) ++ leBytes 1 (rqF m.body 6 1 % 8) ++ leBytes 3 0)
/-- A step grant arrives (R259, R275): a closed wrapper answers ISOLATED (R449); it is refused as a whole, held until the swap is committed (R241), or held. -/
def State.grant (s : State) (m : Msg) : State :=
  let g := rqF m.body 6 1 % 8
  let p := pg .stepseq g
  match s.grantTest g m.body with
  | .refuse .isolated => s.grantRsp m .isolated
  | .refuse st => ((s.bump p F.STEPSEQ.GRANTS_REFUSED).setEvt p F.EVT.STEPSEQ.GRANT_REFUSED).grantRsp m st
  | .wait => { s with seqWait := s.seqWait ++ [{ m with typ := 0x28 }] }
  | .pass =>
    let x := grantOf m.body
    let gone := s.displaces g x
    let s := forEach gone (fun h s => s.displaced g h) s
    let rest := (s.heldOf g).filter fun h => !gone.contains h
    let free := (s.openOf g).isNone && rest.isEmpty && s.ssState g == .idle
    let s := s.setHeld g (rest ++ [{ x with free := free }])
    let s := match s.openOf g with
      | some o => if x.urgent && !o.grant.urgent && !s.on p F.STEPSEQ.HELD_STEP then s.stepKill g (.urgent x.step) else s
      | none => s
    s.grantRsp m .ok
/-- Grants that waited for SWAP COMMIT are judged again once the swap has left PREPARED (R241). `n` bounds the passes. -/
def State.grantPump (s : State) : Nat → State
  | 0 => s
  | n + 1 =>
    match s.seqWait.find? fun m => m.typ == 0x28 && s.leadRd (rqF m.body 6 1 % 8) F.UPDRAFT.SWAP_STATE != 1 with
    | none => s
    | some m => (({ s with seqWait := s.seqWait.erase m }).grant m).grantPump n

end Sys2Proof.Machine
end

