-- ==== Sys2Proof/Machine/Opening.lean ====
section
/-! DEFINITION. Opening a step (R250, R251, R260 to R263): the choice of the grant, the instant of the open, and the placement of the
entries. -/

namespace Sys2Proof.Machine

/-- The grant that STEPSEQ would open (R260): urgent ones first, then the lowest number. -/
def State.chosen (s : State) (g : Nat) : Option Grant :=
  match (s.heldOf g).find? (·.urgent) with | some x => some x | none => (s.heldOf g).head?
/-- A step may open now but for the wait of R260: no step is open, the STEPSEQ is in service and the tile group takes work (R55), Updraft is ready (R220), every unit
of the map is in service (R250), no SLICE window runs (R251) and no HALT is in force (R278). -/
def State.mayOpen (s : State) (g : Nat) : Bool :=
  let p := pg .stepseq g
  let st := s.ssState g
  (s.openOf g).isNone && (st == .idle || st == .running || st == .draining) && !s.on p F.COM.HALT && !s.on p F.COM.ISOLATED
  && !(s.rtu.ucode.any fun x => x.1 == g)
  && s.takesWork (pg .tgroup g) && s.on p F.STEPSEQ.PROGRAM_VALID && s.udReady g && s.inService g && (s.ss g).slice.isNone
/-- The chosen grant need not wait for a lower number (R40, R260): it follows LAST_OPENED, or came to an idle group. -/
def State.noGap (s : State) (g : Nat) (x : Grant) : Bool :=
  !s.on (pg .stepseq g) F.STEPSEQ.LO_VALID || s.stepOrd g x.step == 0 || x.free

/-- Every page of the tile map's units takes the tag (R261), or its STEP_OPEN clears. -/
def State.tagUnits (s : State) (g step gen : Nat) (open_ : Bool) : State :=
  forEach ((s.mapPages g).flatMap s.tree) (fun p s =>
    if open_ then ((s.wr p F.TILE.STEP_NUMBER step).wr p F.TILE.GENERATION gen).wr p F.TILE.STEP_OPEN 1 else s.wr p F.TILE.STEP_OPEN 0) s
/-- The sections of a step in their order (R254): prologue, the layers that are not skipped in their latched modes, epilogue. -/
def State.stepSections (s : State) (g : Nat) (x : Grant) : List Nat :=
  let n := s.progLayers g
  [0] ++ ((List.range n).filter fun l => !x.skips l).map (fun l => 1 + 6 * l + s.latchedMode g l) ++ [1 + 6 * n]
/-- The state to which a STEPSEQ returns with a step open, or without (R279): a DRAIN stays in force. -/
def State.ssEnter (s : State) (g : Nat) (st : UState) : State :=
  let p := pg .stepseq g
  s.enter p (if (st == .idle || st == .running) && s.on p F.COM.DRAIN then .draining else st)
/-- The words of Q0 and Q1 of a unit: base, control and completion base of each. -/
def State.queueWords (s : State) (p : Nat) : List Word :=
  (List.range 2).flatMap fun q => [s.reg 0 p (0x200 + 0x40 * q), s.reg 0 p (0x208 + 0x40 * q), s.reg 0 p (0x220 + 0x40 * q)]

/-! ### Placement -/

/-- The tokens that an entry can emit (R262). -/
def GEntry.canEmit (e : GEntry) : Nat := if e.noSample || e.new = 0 then 0 else if e.prompt then 1 else e.drafts + 1
/-- Tests 1 to 6 of R263 on one entry; none: POOL waits for room. `more`: the limit of EVICT_WAIT has not passed. `seen` is what the open
found of its slot: the pending prompt tokens (R315) and the free ring entries (R316). An entry of `scratch` fails test 7. -/
def State.placeEntry (s : State) (g : Nat) (e : GEntry) (seen : Nat × Nat) (scratch more : Bool) : Option Placed × State :=
  let i := slotOf e.handle
  let x := s.slot i
  let out (st : Status) (reason : Nat) : Option Placed := some ⟨st, reason, 0, []⟩
  match (if x.st = 1 && x.inc = incOf e.handle && x.tg = g then (s.pl g).find e.handle else none) with
  | none => (out (if x.st != 0 && laterThan 19 x.inc (incOf e.handle) then .staleTag else .range) 0x08, s)
  | some q =>
    if e.prompt && seen.1 < e.new then (out .badArg 0x09, s)
    else
      let (okB, s) := if e.new = 0 then (true, s) else s.budgetOk g x.cust
      if !okB then (out .deferred 0x04, s)
      else if seen.2 < e.canEmit then (out .deferred 0x05, s.setEvt (ctOf i) F.EVT.CONTRAIL.RING_FULL)
      else if e.adEn && !s.adapterOk i g e.slot then (out .perm 0x06, s)
      else if scratch then (some ⟨.deferred, 0x0B, q.len, []⟩, s)
      else
        let lost := q.handles.any fun h => ((s.pl g).blk h).map (·.st) == some .lost
        match s.placeSeq g q e.new more with
        | (.wait, s) => (none, s)
        | (.done pl, s) =>
          let reason := if pl.st = .ok then 0 else if pl.st = .range then 0x0A
            else if pl.reason = 2 then 0x02 else if pl.reason = 1 then (if lost then 0x07 else 0x03) else 0x01
          (some { pl with reason := reason }, s)

/-- The attention units of a program (R256): those with patches of the dealt kinds. -/
def State.attnUnits (s : State) (g : Nat) : List Nat :=
  let ps := (s.progPatches g).filter fun p => p.kind == 0x12 || p.kind == 0x20 || p.kind == 0x21
  (List.range (s.unitCount g)).filter fun u => ps.any fun p => p.unit == u
/-- The placed entries, dealt over the attention units (R98, R256): entry, placement, unit. The deal is over those that passed tests 1 to
6, and stands when one of them fails test 7. -/
def State.dealt (s : State) (g : Nat) (o : OpenStep) : List (GEntry × Placed × Nat) :=
  let us := s.attnUnits g
  let l := (o.grant.entries.zip o.places).filter fun x => x.2.st == .ok || x.2.reason == 0x0B
  us.zipIdx.flatMap fun (u, i) => let (f, c) := deal l.length us.length i; ((l.drop f).take c).map fun x => (x.1, x.2, u)
/-- The bytes that an entry takes in a KV region: whole blocks that cover its positions (R206, R256). -/
def State.kvBytes (s : State) (g : Nat) (e : GEntry) (pl : Placed) : Nat :=
  let x := s.pl g
  ceilDiv (pl.ctx + e.new) x.tok * (x.tok * x.recB)
/-- The largest offset from which an EXPAND patch of a unit places blocks; none where it has no such patch. -/
def State.kvArg (s : State) (g u : Nat) : Option Nat :=
  (((s.progPatches g).filter fun p => p.unit == u && (p.kind == 0x20 || p.kind == 0x21)).map (·.arg)).max?
/-- The entries that fail test 7 (R263): their blocks would pass the end of the unit's KV region. -/
def State.scratchFails (s : State) (g : Nat) (o : OpenStep) : List Nat :=
  let l := s.dealt g o
  (s.attnUnits g).flatMap fun u =>
    match s.kvArg g u with
    | none => []
    | some arg =>
      let size := (s.regionOf (s.mapPage g u) 2).2
      ((l.filter fun x => x.2.2 == u).foldl (fun (a : Nat × List Nat) (e, pl, _) =>
        let n := s.kvBytes g e pl
        if size < a.1 + n then (a.1, a.2 ++ [e.handle]) else (a.1 + n, a.2)) (arg, [])).2
/-- A placement is undone (R263): its fresh blocks are free again and its pins end, but for blocks that a sequence of `keep` shares. -/
def State.unplace (s : State) (g : Nat) (keep : List Nat) (e : GEntry) (pl : Placed) : State :=
  let x := pl.fresh.foldl (fun x h => x.freeBlk h) (s.pl g)
  let shared := keep.flatMap fun h => match x.find h with | some q => q.handles | none => []
  match x.find e.handle with
  | none => s.setPl g x
  | some q => s.setPl g ((q.handles.filter fun h => !shared.contains h).foldl
      (fun x h => match x.blk h with | some b => x.setBlk h { b with pin := false } | none => x) x)
/-- Test 7 (R263) fails entries that had been placed: the placement of those after the first of them is done again without them, since
leaving one out never affects the others. None: it fails no placed entry. -/
def State.placeAgain (s : State) (g : Nat) (o : OpenStep) : Option State :=
  let pairs := o.grant.entries.zip o.places
  let fails := s.scratchFails g o
  let bad := (pairs.filter fun x => fails.contains x.1.handle && x.2.st == .ok).map fun x => x.1.handle
  if bad.isEmpty then none
  else
    let n := pairs.findIdx fun x => bad.contains x.1.handle
    let keep := ((pairs.take n).filter fun x => x.2.st == .ok).map fun x => x.1.handle
    let s := forEach ((pairs.drop n).filter fun x => x.2.st == .ok) (fun x s => s.unplace g keep x.1 x.2) s
    some (s.setOpen g (some { o with places := o.places.take n, scratch := o.scratch ++ bad, waiting := none }))
/-- The adapter slots of the placed entries, each once (R330, R331). -/
def OpenStep.slots (o : OpenStep) : List Nat := ((o.placed.filter fun x => x.1.adEn).map fun x => x.1.slot).eraseDups
/-- What an entry left out counts besides DEFERRED_ENTRIES at POOL (R217, R218). -/
def State.leftOut (s : State) (g : Nat) (pl : Placed) : State := s.poolLeft g pl.reason
/-- Placement ends (R263, R330, R208): the counts of the entries left out, the adapters in use, the sequences that close. -/
def State.placeEnd (s : State) (g : Nat) : State :=
  match s.openOf g with
  | none => s
  | some o =>
    let p := pg .stepseq g
    let gone := o.uses.filter fun k => !o.slots.contains k
    let s := s.setOpen g (some { o with waiting := none, uses := o.slots })
    let out := (o.grant.entries.zip o.places).filter fun x => x.2.st != .ok
    let s := if out.isEmpty then s else (s.bump p F.STEPSEQ.DEFERRED_ENTRIES out.length).setEvt p F.EVT.STEPSEQ.DEFERRED_ENTRY
    let s := forEach out (fun x s => s.leftOut g x.2) s
    let s := forEach gone (fun k s => s.adUse k false) s
    forEach (o.placed.filter fun x => x.1.close) (fun x s => match (s.pl g).find x.1.handle with | some q => s.releaseSeq g q | none => s) s
/-- The limit of EVICT_WAIT has not passed (R210). -/
def State.moreWait (s : State) (g : Nat) (o : OpenStep) : Bool := decide (s.now < o.openTime + s.rd (pg .pool g) F.POOL.EVICT_WAIT * 1000)
/-- A waiting placement waits on (R210): no eviction has completed since, and the limit has not passed. -/
def State.stillWaits (s : State) (g : Nat) (o : OpenStep) : Bool :=
  o.waiting == some (s.rd (pg .pool g) F.POOL.EVICTED) && s.moreWait g o
/-- The step uses an adapter slot from the placement of the first entry that names it (R330). -/
def State.useSlot (s : State) (g : Nat) (e : GEntry) (pl : Placed) : State :=
  match s.openOf g with
  | none => s
  | some o =>
    if pl.st = .ok && e.adEn && !o.uses.contains e.slot then (s.setOpen g (some { o with uses := o.uses ++ [e.slot] })).adUse e.slot true else s
/-- Place entries in grant order until all are placed or POOL waits for room (R210, R263). `n` bounds the entries tried. -/
def State.placeRun (s : State) (g : Nat) : Nat → State
  | 0 => s
  | n + 1 =>
    match s.openOf g with
    | none => s
    | some o =>
      if o.cause.isSome || s.on (pg .stepseq g) F.STEPSEQ.HELD_STEP || s.stillWaits g o then s else
      match o.grant.entries[o.places.length]? with
      | none => s
      | some e =>
        match s.placeEntry g e (nth (0, 0) o.seen o.places.length) (o.scratch.contains e.handle) (s.moreWait g o) with
        | (none, s) => s.modOpen g fun o => { o with waiting := some (s.rd (pg .pool g) F.POOL.EVICTED) }
        | (some pl, s) =>
          let o' := { o with places := o.places ++ [pl], waiting := none }
          let s := (s.setOpen g (some o')).useSlot g e pl
          (if o.places.length + 1 = o.grant.entries.length then
            (match s.openOf g with
              | some o' => match s.placeAgain g o' with | some s => s | none => s.placeEnd g
              | none => s)
           else s).placeRun g n
/-- Placement has ended. -/
def OpenStep.ready (o : OpenStep) : Bool := decide (o.grant.entries.length ≤ o.places.length)

/-- Placement tries an entry at most once more for every entry that test 7 fails. -/
def placeFuel (x : Grant) : Nat := (x.entries.length + 1) * (x.entries.length + 2)

/-! ### The open -/

/-- The open of a step (R261): one instant at which the tag, the recipe table and the registers change; then its entries are placed. -/
def State.openGrant (s : State) (g : Nat) (x : Grant) : State :=
  let p := pg .stepseq g
  let s := ((s.wr p F.STEPSEQ.LAST_OPENED x.step).wr p F.STEPSEQ.LO_VALID 1).setHeld g ((s.heldOf g).filter (· != x))
  let s := s.setReg 0 p 0x128 (BitVec.ofNat 64 (x.step + x.gen * 2 ^ 32 + 2 ^ 48 + (if x.urgent then 2 ^ 49 else 0)))
  let s := s.haloLatch g (s.progLayers g) (s.resolveMode g)
  let s := s.tagUnits g x.step x.gen true
  let o : OpenStep :=
    { grant := x, openTime := s.now, epoch := s.rd (pg .halo g) F.HALO.RCP_EPOCH, cfg := s.reg 0 p 0x100, pace := s.reg 0 p 0x118,
      q := if x.urgent then 1 else 0, places := [], waiting := none, todo := s.stepSections g x, sent := [], cmds := [], done := [], fails := [],
      jobs := [], counts := [], staged := [], barriers := [], active := s.rd (pg .tgroup g) F.TGROUP.ACTIVE_TILES,
      qcfg := (s.mapPages g).map fun q => (q, s.queueWords q), cause := none, since := 0, retag := 0,
      seen := x.entries.map fun e => ((s.slot (slotOf e.handle)).pending, s.ringFree (slotOf e.handle)), scratch := [], uses := [], err := false }
  let wait := (s.ss g).layerWait && bits o.cfg 17 16 == 2
  let s := (s.setSs g { s.ss g with opened := some o, layerWait := wait, cfg := o.cfg, pace := o.pace }).ssEnter g .running
  let s := (s.swapSwitch g x.step x.gen).udOpen g x.step
  let s := s.sqPrune g
  let s := match (s.ud g).uses.findSome? fun w => if w.step == x.step then w.failed else none with
    | some st => s.fillHold g st
    | none => s
  let s := if x.entries.isEmpty then s.placeEnd g else s
  s.placeRun g (placeFuel x)
/-- STEP_OPEN (R260, R261): the chosen grant opens. -/
def State.stepOpen (s : State) (g : Nat) : State :=
  match s.chosen g with
  | none => s
  | some x => if s.mayOpen g && s.noGap g x then s.openGrant g x else s
/-- GAP_WAIT of a word at 0x118, in µs (R277). -/
def gapWait (w : Word) : Nat := bits w F.STEPSEQ.GAP_WAIT.hi F.STEPSEQ.GAP_WAIT.lo
/-- GAP_WAIT passes without a lower-numbered grant (R260); it is the one in force since the last step open (R278). -/
def State.gapExpiry (s : State) (g : Nat) : State :=
  let p := pg .stepseq g
  match s.chosen g with
  | none => s
  | some x =>
    if s.mayOpen g && !s.noGap g x then
      ((s.reach ((s.ss g).ended + gapWait (s.ss g).pace * 1000)).bump p F.STEPSEQ.GAP_OPENS).openGrant g x
    else s
/-- The limit of EVICT_WAIT expires (R210): the sequences still short of room are DEFERRED. -/
def State.evictWaitExpiry (s : State) (g : Nat) : State :=
  match s.openOf g with
  | none => s
  | some o =>
    if o.waiting.isNone then s else
    (s.reach (o.openTime + s.rd (pg .pool g) F.POOL.EVICT_WAIT * 1000)).placeRun g (placeFuel o.grant)
/-- The SLICE window of SLICE_US ends (R251). -/
def State.sliceEnd (s : State) (g : Nat) : State :=
  match (s.ss g).slice with
  | none => s
  | some t => (s.reach t).setSs g { s.ss g with slice := none }

end Sys2Proof.Machine
end

