-- ==== Sys2Proof/Machine/Section.lean ====
section
/-! DEFINITION. Dispatch of a step's sections (R251, R254 to R256, R262, R292, R331): the lists and patches of a section, its
descriptors, and their writing to the rings as room and armed uses allow. -/

namespace Sys2Proof.Machine

/-! ### What the lists hold -/

/-- Draft token `k` of an entry (R258): 32 bits from DRAFT_OFF on in the draft area. -/
def Grant.draft (x : Grant) (e : GEntry) (k : Nat) : Nat :=
  let o := e.draftOff + 4 * k
  (nth 0 x.drafts (o / 4) + nth 0 x.drafts (o / 4 + 1) * 2 ^ 32) / 256 ^ (o % 4) % 2 ^ 32
/-- The input tokens of an entry (R262). -/
def State.inputs (s : State) (x : Grant) (e : GEntry) : List Nat :=
  let i := slotOf e.handle
  if e.prompt then (List.range e.new).map (s.promptTok i)
  else (List.range e.new).map fun j => if j = 0 then (s.slot i).last else x.draft e (j - 1)
/-- The placed entries with the first of their rows. -/
def OpenStep.rowStarts (o : OpenStep) : List (GEntry × Placed × Nat) :=
  (o.placed.foldl (fun (a : Nat × List (GEntry × Placed × Nat)) x => (a.1 + x.1.new, a.2 ++ [(x.1, x.2, a.1)])) (0, [])).2
/-- The logit rows of an entry whose first row is `r` (R262). -/
def logitRows (e : GEntry) (r : Nat) : List Nat :=
  if e.noSample || e.new = 0 then [] else if e.prompt then [r + e.new - 1] else (List.range e.new).map (r + ·)
/-- The logit rows of the step. -/
def OpenStep.logits (o : OpenStep) : List Nat := o.rowStarts.flatMap fun (e, _, r) => logitRows e r

/-- The offset from ARG at which an entry's blocks lie in the KV region of its unit (R256). -/
def State.kvPlace (s : State) (g : Nat) (o : OpenStep) (u h : Nat) : Nat :=
  (((s.dealt g o).filter fun x => x.2.2 == u && x.2.1.st == .ok).takeWhile fun x => x.1.handle != h).foldl (fun a x => a + s.kvBytes g x.1 x.2.1) 0
/-- The placed entries dealt to a unit. -/
def State.dealtTo (s : State) (g : Nat) (o : OpenStep) (u : Nat) : List (GEntry × Placed) :=
  ((s.dealt g o).filter fun x => x.2.2 == u && x.2.1.st == .ok).map fun x => (x.1, x.2.1)
/-- The ARG under which the blocks of a section lie for a unit: of its own EXPAND patch, or the unit's first. -/
def State.kvBase (s : State) (g sec u : Nat) : Nat :=
  let ps := (s.progPatches g).filter fun p => p.unit == u && (p.kind == 0x20 || p.kind == 0x21)
  let arg := match ps.find? fun p => p.sec == sec with | some p => p.arg | none => match ps.head? with | some p => p.arg | none => 0
  (s.regionOf (s.mapPage g u) 2).1 + arg
/-- The ATTN row table of a unit (R125, R256): an entry with NEW above 64 takes several. -/
def State.rowTable (s : State) (g : Nat) (o : OpenStep) (sec u : Nat) : List (List Byte) :=
  (s.dealtTo g o u).flatMap fun (e, pl) =>
    let r := ((o.rowStarts.find? fun x => x.1.handle == e.handle).map fun x => x.2.2).getD 0
    let kv := s.kvBase g sec u + s.kvPlace g o u e.handle
    (List.range ((e.new + 63) / 64)).map fun k =>
      leBytes 4 (pl.ctx + 64 * k) ++ leBytes 2 (min 64 (e.new - 64 * k)) ++ leBytes 2 (r + 64 * k) ++ leBytes 4 kv ++ leBytes 4 0
/-- The SAMPLE records (R130, R256), with the drafts after them; `seen` is where SAMPLE sees the list. The grant carries no sampling
parameters: TOP_K, temperature, TOP_P and SEED of a handle are values from outside the spec (log entry 26). -/
def sampleList (o : OpenStep) (seen : Nat) : List Byte × Nat :=
  let l := o.rowStarts.filter fun x => x.1.canEmit != 0
  let first (h : Nat) : Nat := ((o.rowStarts.takeWhile fun x => x.1.handle != h).map fun x => (logitRows x.1 x.2.2).length).sum
  let step (a : List Byte × List Nat) (x : GEntry × Placed × Nat) : List Byte × List Nat :=
    let (e, pl, _) := x
    let d := if e.prompt then [] else (List.range e.drafts).map fun k => o.grant.draft e k
    let v (k n : Nat) : List Byte := leBytes n (Config.deviceValue k e.handle)
    (a.1 ++ leBytes 4 e.handle ++ leBytes 4 pl.ctx ++ leBytes 4 (first e.handle) ++ leBytes 2 d.length ++ v 1 2 ++ v 2 4 ++ v 3 4 ++ v 4 4
      ++ leBytes 4 (if d.isEmpty then 0 else seen + 32 * l.length + 4 * a.2.length), a.2 ++ d)
  let (recs, ds) := l.foldl step ([], [])
  (recs ++ ds.flatMap (leBytes 4), l.length)

/-! ### Adapters -/

/-- The slots of a step's rows in order of first appearance (R331). -/
def OpenStep.rowSlots (o : OpenStep) : List Nat := ((o.placed.filter fun x => x.1.adEn && x.1.new != 0).map fun x => x.1.slot).eraseDups
/-- The adapter record of a slot for a descriptor (R331): source, mode, K and N blocks. -/
def State.slotRec (s : State) (d slot : Nat) : Nat × Nat × Nat × Nat := s.adRec (s.adImage slot) (dLayer d) (dCmdId d % 16)
/-- Round up to a multiple of 64. -/
def up64 (n : Nat) : Nat := (n + 63) / 64 * 64
/-- W_i or P_i: the template's offset and the areas of the slots before slot `i` (R331); `per` gives the bytes of `c` loads in a mode. -/
def State.slotArea (s : State) (d leaves base : Nat) (slots : List Nat) (i : Nat) (per : Nat → Nat → Nat) : Nat :=
  base + ((slots.take i).map fun k =>
    let (_, m, kb, nb) := s.slotRec d k
    up64 (per m ((deal nb leaves 0).2 * kb))).sum
/-- W_OFF and PSCALE_OFF of the template (R331): those of the unit's GROUPED MMA for the same layer and record, which a FETCH LIST
shares (it has no such fields of its own). -/
def State.adTemplate (s : State) (g p d : Nat) : Nat × Nat :=
  ((s.progPatches g).findSome? fun x =>
    let e := s.progDesc g x.sec x.unit x.desc
    if x.kind = 0x15 && s.mapPage g x.unit = p && dClass e = 0x10 && dOp e = 1 && dLayer e = dLayer d && dCmdId e % 16 = dCmdId d % 16 then
      some (dfld e 32 0 32, dfld e 36 0 32) else none).getD (0, 0)
/-- The fetch list of a FETCH LIST, or the group list of a GROUPED MMA (R331): the entries, and their number. A
class that is neither takes none. -/
def State.adapterList (s : State) (g : Nat) (o : OpenStep) (p d : Nat) : List (List Byte) :=
  let slots := o.rowSlots
  let ls := (s.leaves p).length
  let ld (m c : Nat) : Nat := c * (modeLoad m).1
  let sc (m c : Nat) : Nat := c * (modeLoad m).2 * 4
  if dClass d = 0x31 && dOp d = 1 then
    (List.range ls).flatMap fun lf => slots.zipIdx.flatMap fun (k, i) =>
      let img := s.adImage k
      let (src, m, kb, nb) := s.slotRec d k
      let (f, c) := deal nb ls lf
      let absent := kb = 0 || nb = 0
      let ent (a off n : Nat) : List Byte := leBytes 8 (a + s.pkgIdx * 2 ^ 45) ++ leBytes 4 off ++ leBytes 4 (if absent then 0 else n)
      let tpl := s.adTemplate g p d
      [ent (img + src + ld m (f * kb)) (s.slotArea d ls tpl.1 slots i ld) (ld m (c * kb)),
       ent (img + src + ld m (nb * kb) + sc m (f * kb)) (s.slotArea d ls tpl.2 slots i sc) (sc m (c * kb))]
  else if dClass d = 0x10 && dOp d = 1 then
    let rows := o.rowStarts.flatMap fun (e, _, r) => (List.range e.new).map fun j => (r + j, if e.adEn then some e.slot else none)
    let runs := rows.foldl (fun (a : List (Nat × Nat × Option Nat)) (r, k) => match a with
      | (r0, n, k0) :: t => if k0 = k then (r0, n + 1, k0) :: t else (r, 1, k) :: a
      | [] => [(r, 1, k)]) []
    runs.reverse.filterMap fun (r, n, k) => match k with
      | none => none
      | some k =>
        let (_, _, kb, nb) := s.slotRec d k
        if kb = 0 || nb = 0 then none
        else
          let i := (slots.findIdx? (· == k)).getD 0
          some (leBytes 2 r ++ leBytes 2 n ++ leBytes 4 (s.slotArea d ls (dfld d 32 0 32) slots i ld)
            ++ leBytes 4 (s.slotArea d ls (dfld d 36 0 32) slots i sc) ++ leBytes 2 nb ++ leBytes 2 kb)
  else []

/-! ### Building a section -/

/-- Bytes `o` on of a descriptor, `n` of them, replaced; a field that would pass byte 63 is cut there. -/
def putD (d o n v : Nat) : Nat :=
  let n := min n (64 - o)
  d - dfld d o 0 (8 * n) * 256 ^ o + v % 256 ^ n * 256 ^ o
/-- The first 16-bit field of the class that begins beyond a byte (R256). -/
def countField (d field : Nat) : Option Nat := (((bodyBits d).filter fun r => r.2.1 == 0 && r.2.2 == 16 && decide (field < r.1)).map (·.1)).min?
/-- A NULL with the same header (R139, R256, R292). -/
def toNull (d : Nat) : Nat := putD (d % 256 ^ 16) 0 2 0

/-- A list patch (R256, R331): the bytes of the list and the number of its items. -/
def State.listOf (s : State) (g : Nat) (o : OpenStep) (x : Patch) (d off : Nat) : List Byte × Nat :=
  let pl := o.placed
  match x.kind with
  | 0x10 => let l := pl.flatMap fun e => s.inputs o.grant e.1; (l.flatMap (leBytes 4), l.length)
  | 0x11 => let l := pl.flatMap fun e => (List.range e.1.new).map (e.2.ctx + ·); (l.flatMap (leBytes 4), l.length)
  | 0x12 => let l := s.rowTable g o x.sec x.unit; (l.flatten, l.length)
  | 0x13 => sampleList o (if dClass d = 0x30 && dOp d = 0 && x.field = 16 then dfld d 24 0 27 else off)
  | 0x14 => (o.logits.flatMap (leBytes 2), o.logits.length)
  | _ => let l := s.adapterList g o (s.mapPage g x.unit) d; (l.flatten, l.length)
/-- The offset at which a list patch writes (R256): ARG from the base of the active QUEUES region. -/
def State.listOff (s : State) (g : Nat) (x : Patch) : Nat := (s.regionOf (s.mapPage g x.unit) 0).1 + x.arg
/-- The condition of a SKIP_IF (R256). -/
def OpenStep.skipIf (o : OpenStep) (arg : Nat) : Bool :=
  match arg with
  | 0 => o.logits.isEmpty
  | 1 => o.placed.all fun x => x.1.drafts == 0
  | 2 => o.rowSlots.isEmpty
  | _ => o.placed.all fun x => !x.1.prompt
/-- A patch that is not of an EXPAND kind, on the descriptor; SKIP_IF acts on the descriptor as a whole (`secDescs`). -/
def State.patchOn (s : State) (g : Nat) (o : OpenStep) (d : Nat) (x : Patch) : Nat :=
  let rows := (o.placed.map fun e => e.1.new).sum
  match x.kind with
  | 0x01 => putD d x.field 2 rows
  | 0x02 => putD d x.field 2 (o.placed.filter fun e => e.1.new != 0).length
  | 0x03 => putD d x.field 2 o.logits.length
  | 0x30 | 0x20 | 0x21 => d
  | _ =>
    let off := s.listOff g x
    let n := (s.listOf g o x d off).2
    let d' := putD d x.field 4 off
    match countField d x.field with | some f => putD d' f 2 n | none => d'
/-- The copies of an EXPAND descriptor (R256): one for each block that holds committed positions, or for each writable range (R211). -/
def State.expand (s : State) (g : Nat) (o : OpenStep) (d : Nat) (x : Patch) : List Nat :=
  let layer := (x.sec - 1) / 6
  if x.sec = 0 || s.progLayers g ≤ layer then [] else
  let pool := s.pl g
  let blk := pool.tok * pool.recB
  let addr (h : Nat) : Option Nat := (pool.blk h).map blockAddr
  (s.dealtTo g o x.unit).flatMap fun (e, pl) =>
    let at_ := (s.regionOf (s.mapPage g x.unit) 2).1 + x.arg + s.kvPlace g o x.unit e.handle
    let q := pool.find e.handle
    let old (i : Nat) : Option Nat := (q.bind fun q => tblFind (mapKey pool layer i) q.map).bind addr
    if x.kind = 0x20 then
      (List.range (ceilDiv pl.ctx pool.tok)).filterMap fun i => (old i).map fun a => putD (putD d 16 8 a) 24 4 (at_ + i * blk)
    else
      let n0 := ceilDiv pl.ctx pool.tok
      let per := pl.fresh.length / max pool.layers 1
      let part := if pl.ctx % pool.tok = 0 then [] else
        ((old (pl.ctx / pool.tok)).map fun a =>
          putD (putD d 16 4 (at_ + pl.ctx * pool.recB)) 24 8 (a + pl.ctx % pool.tok * pool.recB)).toList
      part ++ ((pl.fresh.drop (layer * per)).take per).zipIdx.filterMap fun (h, i) =>
        (addr h).map fun a => putD (putD d 16 4 (at_ + (n0 + i) * blk)) 24 8 a
/-- The tag of the step in a descriptor that is TAGGED (R255). -/
def tagD (d step gen : Nat) : Nat := if dTagged d then putD (putD d 4 4 step) 8 2 gen else d
/-- The expert counts reported for a descriptor of a section (R292, R298): the count of the expert whose command it is. A DISPATCH
job gives those of the experts that this package owns. -/
def State.expertCount (s : State) (g : Nat) (o : OpenStep) (layer u d : Nat) : Option Nat :=
  match s.squallOf g with
  | none => none
  | some k => o.counts.findSome? fun (job, v, cs) =>
      let j := s.sqJob k g job
      let c := dCmdId d
      if v = u && j.layer = layer && decide (j.expBase ≤ c) && decide (c < j.expBase + (j.proj + 1) * cs.length) && j.kind ≤ 3
          && (j.kind != 3 || s.ownPeer (s.ownerOf k g ((c - j.expBase) % cs.length))) then
        cs[(c - j.expBase) % cs.length]? else none
/-- The layer field of a job that stands for a section: the layer, prologue or epilogue (R288). -/
def State.secLayer (s : State) (g sec : Nat) : Nat :=
  if sec = 0 then 0xFFFE else if (sec - 1) / 6 = s.progLayers g then 0xFFFF else (sec - 1) / 6
/-- The descriptors of a section for a unit as they go to the ring, each with its index in the program. Where a SKIP_IF holds, a NULL with the
same header goes, whatever the other patches (R256). -/
def State.secDescs (s : State) (g : Nat) (o : OpenStep) (sec u : Nat) : List (Nat × Nat) :=
  let ps := (s.progPatches g).filter fun x => x.sec == sec && x.unit == u
  (s.progDescs g sec u).flatMap fun (i, d) =>
    let mine := ps.filter fun x => x.desc == i
    let d := mine.foldl (s.patchOn g o) d
    let ds := if mine.any fun x => x.kind == 0x30 && o.skipIf x.arg then [toNull d]
      else mine.foldl (fun l x => if x.kind = 0x20 || x.kind = 0x21 then l.flatMap fun d => s.expand g o d x else l) [d]
    ds.map fun d =>
      let d := tagD d o.grant.step o.grant.gen
      (i, match s.expertCount g o (s.secLayer g sec) u d with | some 0 => toNull d | _ => d)
/-- The lists of a section are written into the QUEUES regions (R255, R256). -/
def State.secLists (s : State) (g : Nat) (o : OpenStep) (sec : Nat) : State :=
  forEach ((s.progPatches g).filter fun x => x.sec == sec && isList x.kind) (fun x s =>
    let off := s.listOff g x
    let s := if x.kind = 0x10 then s.readAll 12 ((o.placed.filter fun e => e.1.prompt).map fun e =>
        let i := slotOf e.1.handle; (s.promptAddr i (s.slot i).phead, 4 * e.1.new)) else s
    let bs := (s.listOf g o x (s.progDesc g x.sec x.unit x.desc) off).1
    if bs.isEmpty then s else s.put (scr (s.lead (s.mapPage g x.unit)) off) bs) s

/-! ### Dispatch -/

/-- The trigger after which a unit's descriptors wait for the report of a Squall job (R292): its index in the section's stream. -/
def State.waitsAfter (s : State) (g : Nat) (o : OpenStep) (sec u : Nat) : Option Nat :=
  match s.squallOf g with
  | none => none
  | some k =>
    if !s.planValid k g then none else
    ((s.planJobs k g).filterMap fun (i, j) =>
      if (j.kind = 1 || j.kind = 3) && j.layer = s.secLayer g sec && j.first ≤ u && u < j.first + j.units
          && !(o.counts.any fun x => x.1 == i && x.2.1 == u) then
        ((s.progDescs g sec u).find? fun x => dCmdId x.2 == j.trigger).map (·.1) else none).min?
/-- The next descriptor of a unit may be rung (R225, R254, R292): the use of its layer is armed, and no report is awaited. -/
def State.mayRing (s : State) (g : Nat) (o : OpenStep) (sec u : Nat) (x : Nat × Nat) : Bool :=
  let l := dLayer x.2
  (decide (s.progLayers g ≤ l) || o.grant.skips l || s.useArmed g o.grant.step l)
  && (match s.waitsAfter g o sec u with | some i => decide (x.1 ≤ i) | none => true)
/-- A command whose completion releases a use (R226). -/
def isMma (d : Nat) : Bool := dTagged d && (dClass d == 0x10 || dClass d == 0x40)
/-- The commands of the open step that no unit's ring holds yet: those of its sections that are still to be dispatched. -/
def State.toRing (s : State) (g : Nat) (o : OpenStep) : List Nat :=
  o.todo.zipIdx.flatMap fun (sec, i) => (List.range (s.unitCount g)).flatMap fun u =>
    ((s.secDescs g o sec u).drop (if i = 0 then (tblFind u o.sent).getD 0 else 0)).map (·.2)
/-- Every tagged MMA and TMMA of the step with this LAYER has completed, whichever section holds it (R226). -/
def State.mmaDone (s : State) (g : Nat) (o : OpenStep) (layer : Nat) : Bool :=
  !(o.cmds.any fun c => c.mma && c.layer == layer) && !((s.toRing g o).any fun d => isMma d && dLayer d == layer)
/-- Armed uses of the open step whose commands are done are released (R226). -/
def State.udRelease (s : State) (g : Nat) : State :=
  match s.openOf g with
  | none => s
  | some o =>
    let x := s.ud g
    if o.places.length < o.grant.entries.length then s else
    s.setUd g { x with uses := x.uses.map fun w =>
      if w.step == o.grant.step && w.armed && w.layer < s.progLayers g && s.mmaDone g o w.layer then { w with released := true } else w }
/-- Write as many descriptors of a section to the ring of a unit as may go (R90, R254). `n` bounds them. -/
def State.ringUnit (s : State) (g sec u : Nat) : Nat → State
  | 0 => s
  | n + 1 =>
    match s.openOf g with
    | none => s
    | some o =>
      let p := s.mapPage g u
      let k := (tblFind u o.sent).getD 0
      match (s.secDescs g o sec u)[k]? with
      | none => s
      | some x =>
        let t := s.rd p (qf F.TILE.TAIL o.q)
        if !s.qOn p o.q || s.ringSize p o.q ≤ idx16 t (s.rd p (qf F.TILE.CPL_HEAD o.q)) || !s.mayRing g o sec u x then s
        else
          let s := s.touch (s.progBase g + (s.section_ g sec u).1 + 64 * x.1) 64 12 false
          match (s.put (s.descAddr p o.q t) (leBytes 64 x.2)).writeTail p o.q (t + 1) false with
          | (.ok, s) =>
            let c : StepCmd := ⟨p, o.q, t, sec, dLayer x.2, dCmdId x.2, isMma x.2⟩
            (s.modOpen g fun o => { o with sent := tblInsert u (k + 1) (tblErase u o.sent), cmds := o.cmds ++ [c] }).ringUnit g sec u n
          | (_, _) => s
/-- STEPSEQ dispatches: the step's placement has ended and nothing stops it (R251, R261, R269, R278). A re-run waits until Updraft has armed the
step's first use again (R228). -/
def State.mayDispatch (s : State) (g : Nat) (o : OpenStep) : Bool :=
  let p := pg .stepseq g
  let st := s.stored p
  o.ready && o.cause.isNone && !s.on p F.STEPSEQ.HELD_STEP && (st == .running || st == .draining) && !(s.ss g).layerWait
  && !(s.on p F.COM.HALT && o.sent.isEmpty) && !s.on p F.COM.ISOLATED
  && (s.rd p F.STEPSEQ.RERUNS == 0 || s.useArmed g o.grant.step 0)
/-- SECTION_DISPATCH (R254): the next section, as far as rings and uses allow; what is left goes with a later dispatch. -/
def State.sectionDispatch (s : State) (g : Nat) : State :=
  match s.openOf g with
  | none => s
  | some o =>
    match o.todo with
    | [] => s
    | sec :: rest =>
      if !s.mayDispatch g o then s else
      let us := List.range (s.unitCount g)
      let s := if o.sent.isEmpty then (s.secLists g o sec).modOpen g fun o => { o with sent := us.map fun u => (u, 0) } else s
      let s := s.modOpen g fun o => { o with sent := o.sent.mergeSort fun a b => decide (a.1 ≤ b.1) }
      let s := forEach us (fun u s => s.ringUnit g sec u ((s.secDescs g o sec u).length + 1)) s
      match s.openOf g with
      | none => s
      | some o' =>
        if us.all fun u => decide ((s.secDescs g o' sec u).length ≤ (tblFind u o'.sent).getD 0) then
          let s := s.modOpen g fun o => { o with todo := rest, sent := [] }
          if bits o'.cfg 17 16 = 2 then s.setSs g { s.ss g with layerWait := true } else s
        else s
/-- LAYER_WAIT (R251): the commands of the dispatched section have completed. The wait after an epilogue goes on when its step has
committed, and then holds back the next step's prologue. -/
def State.inLayerWait (s : State) (g : Nat) : Bool :=
  (s.ss g).layerWait && (match s.openOf g with | some o => o.cmds.isEmpty && o.cause.isNone | none => true)
/-- LAYER_GO (R251, R277). -/
def State.layerGo (s : State) (g : Nat) : State :=
  if s.inLayerWait g then s.setSs g { s.ss g with layerWait := false } else s.answer .illegalState

end Sys2Proof.Machine
end

