-- ==== Sys2Proof/Machine/Commit.lean ====
section
/-! DEFINITION. The end of a step: its commands' records (R90, R269), commit (R266, R267), abort, the outcome of a kill and the re-run
(R269 to R275), the NOTICEs to homes (R377), and the STEPSEQ's own states (R278, R279). -/

namespace Sys2Proof.Machine

/-! ### Completion records -/

/-- The record of a dispatched command has been written (R90). -/
def State.recDone (s : State) (c : StepCmd) : Bool :=
  let t := idx16 (s.rd c.page (qf F.TILE.CPL_TAIL c.q)) c.idx
  (s.sq c.page).ahead.contains (c.q, c.idx) || (decide (0 < t) && decide (t ≤ 32768))
/-- The status code in the record of a command (R105). -/
def State.recStatus (s : State) (c : StepCmd) : Nat :=
  s.ld (scr (s.lead c.page) (s.cplBase c.page c.q + c.idx % s.ringSize c.page c.q * 32)) 1
/-- A status from its code (R19). -/
def statusOf (n : Nat) : Status :=
  match n with
  | 0 => .ok | 1 => .killed | 2 => .illegalState | 3 => .badArg | 4 => .absent | 5 => .noSpace | 6 => .deferred | 7 => .staleTag
  | 8 => .perm | 9 => .range | 10 => .poison | 11 => .homeLost | 12 => .isolated | 13 => .timeout | 14 => .checkFail | _ => .version
/-- The token results that a SAMPLE of the step has staged (R131, R265): the accepted drafts, then the token drawn. -/
def State.samples (s : State) (p d : Nat) : List Staged :=
  (s.rowShares 16 p 0 (dfld d 18 0 16)).flatMap fun (pos, lo, n) => (List.range n).map fun k =>
    let i := lo + k
    let x := s.sampleParam pos d i
    let a := scr pos (dfld d 36 0 32 + 16 * i)
    let acc := s.ld (a + 8) 1 % 64
    ⟨x.handle, (List.range acc).map (fun j => s.ld (scr pos (x.doff + 4 * j)) 4) ++ [s.ld a 4], s.ld (a + 4) 4, acc⟩
/-- What STEPSEQ takes from the record of a command (R226, R266, R269). -/
def State.collectCmd (s : State) (g : Nat) (c : StepCmd) : State :=
  let st := statusOf (s.recStatus c)
  let d := s.desc c.page c.q c.idx
  s.modOpen g fun o =>
    let o := { o with cmds := o.cmds.erase c }
    match st with
    | .ok =>
      let o := { o with done := o.done ++ [(c.page, c.sec * 65536 + c.cmd)] }
      if dClass d = 0x22 then
        let l := s.samples c.page d
        { o with staged := (o.staged.filter fun x => !(l.any fun y => y.handle == x.handle)) ++ l }
      else o
    | .killed => { o with fails := if o.cause.isSome then o.fails else o.fails ++ [(.killed, c.layer)] }
    | st => { o with fails := o.fails ++ [(st, c.layer)] }
/-- The action that the failures of a step ask for (R269): the rows of its table, read from the bottom up. A command that a kill of
its tile alone stopped asks for a re-run (R270). -/
def causeOf (fails : List (Status × Nat)) : Option Cause :=
  let soft : List Status := [.killed, .homeLost, .timeout, .staleTag, .poison, .checkFail]
  match fails.find? fun x => !soft.contains x.1 with
  | some (st, l) => some (.abortHalt st l)
  | none =>
    match fails.find? fun x => x.1 == .poison || x.1 == .checkFail with
    | some (st, l) => some (.hold st l)
    | none =>
      match fails.find? fun x => x.1 != .killed with
      | some (st, _) => some (.abort st)
      | none => if fails.isEmpty then none else some .rerun
/-- STEPSEQ reads the records of the step's commands (R90), and acts on those that failed (R269). -/
def State.stepCollect (s : State) (g : Nat) : State :=
  match s.openOf g with
  | none => s
  | some o =>
    let fin := o.cmds.filter s.recDone
    let s := forEach fin (fun c s => s.collectCmd g c) s
    let s := if fin.isEmpty then s else
      (forEach (fin.map fun c => (c.page, c.q)).eraseDups
        (fun x s => s.wr x.1 (qf F.TILE.CPL_HEAD x.2) (s.rd x.1 (qf F.TILE.CPL_TAIL x.2))) s).udRelease g
    match s.openOf g with
    | none => s
    | some o => if s.on (pg .stepseq g) F.STEPSEQ.HELD_STEP then s else match causeOf o.fails with | some c => s.stepKill g c | none => s
/-- The commands of a unit that has been reset have no record to come (R109, R451). -/
def State.dropCmds (s : State) (g p : Nat) : State := s.modOpen g fun o => { o with cmds := o.cmds.filter fun c => c.page != p }

/-! ### What every end of a step does -/

/-- A NOTICE goes to every home that acknowledged a staged request of the step and is not lost (R267, R377, R405), as a request that holds a tag
slot until its NOTICE_ACK (R369). -/
def State.sendNotices (s : State) (g : Nat) (commit : Bool) : State :=
  let p := pg .stepseq g
  match s.openOf g with
  | none => s
  | some o =>
    let mine := s.fab.acked.filter fun x => x.1.1 == g
    let s := { s with fab := { s.fab with acked := s.fab.acked.filter fun x => x.1.1 != g } }
    forEach mine (fun x s =>
      let home := x.1.2
      let k : Pkt := { op := 0x07, tagged := true, srcDom := s.ownDom, dstDom := s.ownDom, dstPkg := home, srcPkg := s.pkgIdx, step := o.grant.step,
                       gen := o.grant.gen, unit := p, index := x.2, ext := extOf 38 1 (if commit then 1 else 2) }
      let k := s.stampGrp g k
      if home = s.pkgIdx then s.notice (pktGrp k) commit
      else if s.isLost home then s
      else
        let n : Notice := ⟨home, pktGrp k, k⟩
        ({ s with fab := { s.fab with notices := s.fab.notices ++ [n] } } : State).issue (mkReq p k 4 g 0 0)) s
/-- The step is no longer open (R261, R267, R279). After a commit in FINE mode what follows the epilogue still waits for LAYER_GO (R251). -/
def State.stepEnd (s : State) (g : Nat) (committed : Bool) : State :=
  let p := pg .stepseq g
  let took (b : Bundle) : Bool := match s.openOf g with
    | some o => o.grant.step == b.step && o.grant.gen == b.gen && o.jobs.any fun j => j.1 == b.job && j.2 == some .ok
    | none => false
  let s := (s.tagUnits g 0 0 false).setReg 0 p 0x128 0
  ((s.setSs g { s.ss g with opened := none, ended := s.now, layerWait := (s.ss g).layerWait && committed }).ssEnter g .idle).sqPrune g took
/-- The records of the report of a step that does not commit (R276). -/
def State.abortRecs (s : State) (g : Nat) (o : OpenStep) : List RepRec :=
  o.grant.entries.zipIdx.map fun (e, i) =>
    let len := match (s.pl g).find e.handle with | some q => q.len | none => 0
    match o.places[i]? with
    | some pl => { handle := e.handle, st := pl.st, reason := if pl.st = .ok then 0 else pl.reason, len := len }
    | none => { handle := e.handle, st := .ok, reason := 0, len := len }
/-- The open step is aborted (R267): `outcome` 1 ABORTED or 2 PREEMPTED. -/
def State.stepAbort (s : State) (g : Nat) (st : Status) (outcome retag : Nat) (reported : Bool := true) : State :=
  let p := pg .stepseq g
  match s.openOf g with
  | none => s
  | some o =>
    let reruns := s.rd p F.STEPSEQ.RERUNS
    let s := (s.sendNotices g false).poolAbort g
    let s := forEach o.uses (fun k s => s.adUse k false) s
    let s := (((s.haloDiscard g).udAbandon g).sqAbandon g false)
    let s := (s.bump p F.STEPSEQ.ABORTS).setEvt p F.EVT.STEPSEQ.STEP_ABORTED
    let s := if reported then s.sendReport g o.cfg o.grant outcome st o.epoch o.openTime retag o.rows 0 reruns (s.abortRecs g o) else s
    s.stepEnd g false
/-- STEPSEQ enters HALTED with a cause (R250, R269). -/
def State.haltWith (s : State) (g : Nat) (st : Status) (layer : Nat) : State :=
  let p := pg .stepseq g
  ((((s.wr p F.STEPSEQ.HALT_CAUSE st.code).wr p F.STEPSEQ.HALT_LAYER layer).wr p F.COM.HALT 0).wr p F.COM.DRAIN 0).enter p .halted
/-- Every held grant is discarded with a DISPLACED report (R250). -/
def State.displaceAll (s : State) (g : Nat) : State := (forEach (s.heldOf g) (fun x s => s.displaced g x) s).setHeld g []

/-! ### Commit -/

/-- The conditions of R266, with those of R261 and R278 on STEPSEQ itself: every descriptor and every job is done, nothing has failed, and
no unit of the group has reported an uncorrectable error since the open. An error of a tile kills the step (R270), and so it leaves a
cause; one of another unit of the group stands in `err` until the step is run again (log entry 184). -/
def State.mayCommit (s : State) (g : Nat) (o : OpenStep) : Bool :=
  let p := pg .stepseq g
  let st := s.stored p
  o.ready && o.todo.isEmpty && o.sent.isEmpty && o.cmds.isEmpty && o.fails.isEmpty && o.cause.isNone && (o.jobs.all fun j => j.2 == some .ok)
  && !o.err && !s.on p F.STEPSEQ.HELD_STEP && !s.on p F.COM.HALT && (st == .running || st == .draining)
/-- The commit of one entry that was placed (R212, R265, R267, R323, R330): its record in the report. -/
def State.commitEntry (s : State) (g : Nat) (o : OpenStep) (e : GEntry) (pl : Placed) : RepRec × State :=
  let i := slotOf e.handle
  let x := s.slot i
  let res := if e.canEmit = 0 then none else o.staged.find? fun y => y.handle == e.handle
  let toks := match res with | some y => y.toks.take e.canEmit | none => []
  let acc := match res with | some y => if e.prompt then 0 else y.acc | none => 0
  let used := if e.prompt then e.new else 0
  let len := if e.new = 0 then pl.ctx else if e.prompt then pl.ctx + e.new else pl.ctx + max toks.length 1
  let s := match (s.pl g).find e.handle with | some q => s.commitSeq g q pl len o.grant.step | none => s
  let s := if e.close then s.poolClose g e.handle else s
  let s := s.debit g x.cust (16 * toks.length + s.rd (pg .contrail 0) (F.CONTRAIL.PROMPT_WEIGHT.el g) * used)
  let s := if e.adEn && x.pin.isNone then s.pinTake i e.slot else s
  let s := if e.turnEnd && x.kind = 2 then s.pinDrop i else s
  let (first, s) := s.ringCommit i toks used ((res.map (·.logp)).getD 0) e.close
  ({ handle := e.handle, st := .ok, reason := 0, acc := acc, emitted := toks.length, closed := e.close, len := len, tsn := first }, s)
/-- A SLICE window begins after SLICE_STEPS commits (R251), under the words in force for the step (R278). -/
def State.sliceBegin (s : State) (g : Nat) (o : OpenStep) : State :=
  let steps := bits o.pace 31 16
  let us := bits o.pace 47 32
  let x := s.ss g
  if bits o.cfg 17 16 != 1 || steps = 0 || us = 0 then s
  else if steps ≤ x.commits + 1 then s.setSs g { x with commits := 0, slice := some (s.now + us * 1000) }
  else s.setSs g { x with commits := x.commits + 1 }
/-- STEP_COMMIT (R266, R267): the commit point, and what follows it. -/
def State.stepCommit (s : State) (g : Nat) : State :=
  let p := pg .stepseq g
  match s.openOf g with
  | none => s
  | some o =>
    if !s.mayCommit g o then s else
    let reruns := s.rd p F.STEPSEQ.RERUNS
    let s := ((s.wr p F.STEPSEQ.LC_STEP o.grant.step).wr p F.STEPSEQ.LC_GEN o.grant.gen).wr p F.STEPSEQ.LC_VALID 1
    let s := s.bump p F.STEPSEQ.COMMITS
    let (recs, s) := (o.grant.entries.zip o.places).foldl (fun (a : List RepRec × State) (e, pl) =>
      if pl.st = .ok then let (r, s) := a.2.commitEntry g o e pl; (a.1 ++ [r], s)
      else (a.1 ++ [{ handle := e.handle, st := pl.st, reason := pl.reason, len := match (a.2.pl g).find e.handle with | some q => q.len | none => 0 }], a.2))
      ([], s)
    let s := forEach o.uses (fun k s => s.adUse k false) s
    let s := ((s.haloCommit g o.grant.step).udCommit g o.grant.step).sliceBegin g o
    let s := s.sendNotices g true
    let s := if (s.heldOf g).isEmpty then s.setEvt p F.EVT.STEPSEQ.STARVED else s
    let s := s.sendReport g o.cfg o.grant 0 .ok o.epoch o.openTime 0 o.rows (recs.map (·.emitted)).sum reruns recs
    s.stepEnd g true

/-! ### The outcome of a kill -/

/-- Q0 and Q1 of a unit that has lost them to a reset are enabled again as they stood at the open (R270). -/
def State.enableAgain (s : State) (o : OpenStep) : State :=
  forEach o.qcfg (fun (p, ws) s =>
    forEach [0, 1] (fun q s =>
      let w (k : Nat) : Word := nth 0 ws (3 * q + k)
      if s.qOn p q || bits (w 1) 4 4 = 0 then s
      else (((s.setReg 0 p (0x200 + 0x40 * q) (w 0)).setReg 0 p (0x220 + 0x40 * q) (w 2)).setReg 0 p (0x208 + 0x40 * q) (w 1)).zeroIdx p q) s) s
/-- The step is run again (R272, R273): under the same tag and placement, on Q1; or it is aborted when RERUN_MAX is reached. -/
def State.stepRerun (s : State) (g : Nat) : State :=
  let p := pg .stepseq g
  match s.openOf g with
  | none => s
  | some o =>
    if bits o.pace 51 48 ≤ s.rd p F.STEPSEQ.RERUNS then
      ((s.wr p F.STEPSEQ.HELD_STEP 0).setEvt p F.EVT.STEPSEQ.RERUN_LIMIT).stepAbort g .killed 1 0
    else
      let s := s.enableAgain o
      let s := ((s.bump p F.STEPSEQ.RERUNS).bump p F.STEPSEQ.RERUN_COUNT).wr p F.STEPSEQ.HELD_STEP 0
      let s := s.setOpen g (some { o with q := 1, todo := s.stepSections g o.grant, sent := [], cmds := [], done := [], fails := [], jobs := [],
                                          counts := [], staged := [], barriers := [], cause := none, since := 0, err := false })
      let s := (s.setSs g { s.ss g with layerWait := false }).tagUnits g o.grant.step o.grant.gen true
      ((s.haloDiscard g).sqAbandon g true).ssEnter g .running
/-- What STEPSEQ finds of the units of the map once the kill is complete (R250, R270). -/
inductive MapTest where
  | ready | wait | isolated | noSpace
  deriving DecidableEq, Repr
/-- The test of a map entry: tested, reset and isolated units are waited for; an entry whose unit has left the group gives ISOLATED,
one whose unit is out of service NO_SPACE. -/
def State.mapTest (s : State) (g u : Nat) : MapTest :=
  let p := s.mapPage g u
  let st := s.stored p
  if !s.mapValid g u then .noSpace
  else if st = .offline || s.on p F.COM.BOUND || s.groupOf p != some g then .isolated
  else if (s.tree p).any (fun x => s.on x F.COM.ISOLATED || s.stored x == .reset || s.stored x == .test) || st = .killing then .wait
  else if st = .idle || st = .running then .ready else .noSpace
/-- The worst of the map. -/
def State.mapTests (s : State) (g : Nat) : MapTest :=
  let l := (List.range (s.unitCount g)).map (s.mapTest g)
  if l.contains .isolated then .isolated else if l.contains .noSpace then .noSpace else if l.contains .wait then .wait else .ready
/-- A tile that serves the group is under the test of an error, or awaits it (R270). -/
def State.errorTests (s : State) (g : Nat) : Bool := (s.servers g).any fun k => (s.ua (pg .tile k)).test == 1
/-- A step is aborted for want of a unit (R250, R270): held grants are displaced, and STEPSEQ is HALTED. -/
def State.stepNoUnit (s : State) (g : Nat) (st : Status) : State :=
  (((s.wr (pg .stepseq g) F.STEPSEQ.HELD_STEP 0).stepAbort g st 1 0).displaceAll g).haltWith g st 0
/-- STEP_KILL_RESOLVE (R269 to R272, R275): every unit has written its KILLED records, and STEPSEQ decides. -/
def State.killResolve (s : State) (g : Nat) : State :=
  let p := pg .stepseq g
  match s.openOf g with
  | none => s
  | some o =>
    match o.cause with
    | none => s
    | some c =>
      if !s.killsDone g then s else
      match c with
      | .noUnit st => s.stepNoUnit g st
      | .abortHalt st l => ((s.wr p F.STEPSEQ.HELD_STEP 0).stepAbort g st 1 0).haltWith g st l
      | .abort st => (s.wr p F.STEPSEQ.HELD_STEP 0).stepAbort g st 1 0
      | .urgent u =>
        let s := (s.bump p F.STEPSEQ.PREEMPTS).setEvt p F.EVT.STEPSEQ.PREEMPTED
        let u1 := (u + 1) % 2 ^ 32
        let s := s.stepAbort g .killed 2 u1
        s.setHeld g ({ o.grant with step := u1, retag := true, free := false } :: s.heldOf g)
      | .hold st l =>
        match s.mapTests g with
        | .isolated => s.stepNoUnit g .isolated
        | _ =>
          let s := s.modOpen g fun o => { o with cause := none, cmds := [] }
          ((s.wr p F.STEPSEQ.HELD_STEP 1).haltWith g st l).setEvt p F.EVT.STEPSEQ.STEP_HELD
      | .rerun | .wait =>
        if c = .wait && s.errorTests g then s else
        match s.mapTests g with
        | .wait => s
        | .isolated => s.stepNoUnit g .isolated
        | .noSpace => s.stepNoUnit g .noSpace
        | .ready => s.stepRerun g
/-- ABORT_STEP (R269, R274): the report of a held step takes the status that holds it, of another KILLED (log entry 40). -/
def State.abortStep (s : State) (g : Nat) : State :=
  match s.openOf g with
  | none => s.answer .illegalState
  | some o => match o.cause with
    | some (.urgent _) => s.answer .illegalState
    | _ =>
      let p := pg .stepseq g
      s.stepKill g (.abort (if s.on p F.STEPSEQ.HELD_STEP then statusOf (s.rd p F.STEPSEQ.HALT_CAUSE) else .killed))
/-- ISOLATION_LIMIT_EXPIRY (R270): a unit of the map is still isolated 50 ms after the kill. -/
def State.isolationLimit (s : State) (g : Nat) : State :=
  match s.openOf g with
  | none => s
  | some o =>
    match o.cause with
    | some .wait | some .rerun =>
      if (s.mapPages g).any fun p => (s.tree p).any fun x => s.on x F.COM.ISOLATED then
        (s.reach (o.since + 50000000)).stepKill g (.noUnit .isolated)
      else s
    | _ => s

/-! ### The STEPSEQ as a unit -/

/-- RESUME of a HALTED STEPSEQ (R269, R278): a held step is run again; otherwise it goes on. -/
def State.ssResume (s : State) (g : Nat) : State :=
  let p := pg .stepseq g
  if s.stored p != .halted then s
  else if s.on p F.STEPSEQ.HELD_STEP then
    (match s.mapTests g with
      | .ready => (s.enter p .killing).stepRerun g
      | _ => s.modOpen g (fun o => { o with cause := some .rerun, since := s.now }) |>.enter p .killing)
  else s.ssEnter g (if (s.openOf g).isSome then .running else .idle)
/-- HALT and DRAIN of a STEPSEQ take effect (R278): at a section boundary, or once no step is open and no grant is held. -/
def State.stepSettle (s : State) (g : Nat) : State :=
  let p := pg .stepseq g
  let st := s.stored p
  let rest := match s.openOf g with
    | none => true
    | some o => o.ready && o.sent.isEmpty && o.cmds.isEmpty && o.cause.isNone && o.fails.isEmpty
  if s.on p F.COM.HALT && (st == .idle || st == .running) && rest then (s.wr p F.COM.HALT 0).enter p .halted
  else if st == .draining && (s.openOf g).isNone && (s.heldOf g).isEmpty then (s.wr p F.COM.DRAIN 0).enter p .halted
  else s
/-- UNIT_RESET of a STEPSEQ (R279): the open step is killed and aborted and the held grants go, with no report; PROGRAM_VALID is
cleared; the map and LAST_OPENED stay, and the other registers return to their reset values (DEDUCED, log entry 35). -/
def State.stepseqReset (s : State) (g : Nat) : State :=
  let p := pg .stepseq g
  let s := match s.openOf g with
    | none => s
    | some _ => ((s.stepKill g (.abort .killed)).wr p F.STEPSEQ.HELD_STEP 0).stepAbort g .killed 1 0 false
  let s := s.setHeld g []
  let s := (s.setSs g { s.ss g with slice := none, commits := 0, layerWait := false }).busyClear (busyKey p 0)
  s.regsReset p [0x100, 0x108, 0x110, 0x118, 0x120, 0x148, 0x150, 0x158, 0x160, 0x168]
/-- A tile that map entries name is retired (R250): its substitute takes its place, and its queues Q0 and Q1 for the re-run of an open
step (R112, R270); or with none the group stops. -/
def State.mapRetired (s : State) (t : Nat) (sub : Option Nat) : State :=
  forEach (List.range 8) (fun g s =>
    let p := pg .stepseq g
    let us := (List.range 512).filter fun u => s.mapValid g u && s.mapPage g u == t
    if us.isEmpty then s else
    match sub with
    | some n =>
      let s := s.modOpen g fun o => { o with qcfg := o.qcfg.map fun (q, ws) => (if q = t then n else q, ws) }
      (forEach us (fun u s => s.wrB u p F.STEPSEQ.MAP_PAGE n) s).setEvt p F.EVT.STEPSEQ.MAP_CHANGED
    | none =>
      let s := (forEach us (fun u s => s.wrB u p F.STEPSEQ.MAP_VALID 0) s).setEvt p F.EVT.STEPSEQ.MAP_CHANGED
      if (s.openOf g).isSome then s.stepKill g (.noUnit .noSpace) else (s.displaceAll g).haltWith g .noSpace 0) s

end Sys2Proof.Machine
end

