-- ==== Sys2Proof/Machine/Train.lean ====
section
/-! DEFINITION. The FLINK: training (R339, R340), identity and verdicts (R347 to R351), replay (R345, R346), lane sparing and
recalibration (R356 to R358), link faults (R359) and the actions of its page (R361). -/

namespace Sys2Proof.Machine

/-- Capture an error whose code and location the chapter gives, but no status: the status is free (log entry 4). -/
def State.captureFree (s : State) (p code loc : Nat) : State := let (c, s) := s.free; s.capture p code (statusOf (c % 16)) loc

/-- A per-lane field of the page, shown by LANE_INDEX (R360). -/
def State.laneRd (s : State) (l p : Nat) (f : Fld) : Nat := s.rdB p (pg .flink l) f
/-- Write a per-lane field. -/
def State.laneWr (s : State) (l p : Nat) (f : Fld) (v : Nat) : State := s.wrB p (pg .flink l) f v
/-- The physical lane of a logical lane of the receive direction. -/
def State.laneOf (s : State) (l k : Nat) : Nat := s.rd (pg .flink l) F.FLINK.LANE_MAP / 16 ^ k % 16
/-- The logical lanes in use. -/
def State.lanesOn (s : State) (l : Nat) : List Nat := List.range (s.rd (pg .flink l) F.FLINK.WIDTH)

/-- Every lane leaves the map; FAILED lanes stay FAILED. -/
def State.lanesDown (s : State) (l : Nat) : State :=
  let p := pg .flink l
  let bad := s.rd p F.FLINK.FAILED
  let s := forEach (List.range 9) (fun k s => s.laneWr l k F.FLINK.LANE_STATE (if bad / 2 ^ k % 2 = 1 then 3 else 5)) s
  ((((s.wr p F.FLINK.WIDTH 0).wr p F.FLINK.SPARE_FREE 0).wr p F.FLINK.SPARE_LANE 0xF).wr p F.FLINK.RECAL_BUSY 0)

/-- Training begins (R339): what FL_CFG and FL_VC_ALLOC hold takes effect (R361). -/
def State.flTrain (s : State) (l : Nat) : State :=
  let p := pg .flink l
  let f := s.fl l
  let s := (s.setFl l { FlinkSt.init with cfg := (s.reg 0 p 0x100).toNat, alloc := s.rd p F.FLINK.VC_ALLOC, back := f.back,
                                          handed := f.handed, unsent := f.unsent, nextAuto := f.nextAuto })
  (((s.lanesDown l).wr p F.FLINK.ACT_VALID 0).flEnter l .detect).flBlocks l (List.range 9) 1 false false

/-- The link is DOWN: what it was doing ends. -/
def State.flDown (s : State) (l : Nat) : State :=
  let f := s.fl l
  let s := s.setFl l { f with steer := none, recal := none, own := none, far := none, buf := [], rxUsed := [0, 0, 0, 0, 0], waiting := false }
  ((s.lanesDown l).wr (pg .flink l) F.FLINK.QUAR_CAUSE 0).flEnter l .down

/-- A link fault (R359): what is unacknowledged or unsent is handed back to the FROUTER, in order. -/
def State.linkFault (s : State) (l loc : Nat) : State :=
  let p := pg .flink l
  let f := s.fl l
  let held := (f.sent.map (fun x => x.2.2) ++ f.ready).filter fun x => x.vc < 8 && x.part + 1 == x.frames
  let back := held.map (fun x => { x with part := 0 }) ++ f.unsent
  let s := s.setFl l { f with sent := [], ready := [], unsent := [], back := f.back ++ back, handed := true, credits := [0, 0, 0, 0, 0] }
  let s := ((s.flDown l).bumpSat p F.FLINK.FAULTS).setEvt p F.EVT.FLINK.LINK_DOWN
  s.captureFree p 0x03 loc

/-- Training fails or exceeds a limit (R339, R340). -/
def State.trainFail (s : State) (l : Nat) : State := (s.flDown l).bumpSat (pg .flink l) F.FLINK.RETRAINS

/-- The bits of a mask that are 1 among the nine lanes, rising. -/
def laneBits (m : Nat) : List Nat := (List.range 9).filter fun k => m / 2 ^ k % 2 == 1

/-- Markers are received on the lanes of a mask (R339). -/
def State.linkDetect (s : State) (l lanes : Nat) : State :=
  let n := (laneBits lanes).length
  if !s.flHas l || s.lst l != .detect || !s.on (pg .flink l) F.FLINK.ENABLE then s
  else if 8 ≤ n || (4 ≤ n && s.width4 l) then (s.flEnter l .equalize).flBlocks l (List.range 9) 2 false true else s

/-- The far end's receiver has asked for presets (R338, R339): which it asked for on each lane is a free value (log entry 187), and the blocks
that follow show them in use. -/
def State.presetsAsked (s : State) (l : Nat) : State :=
  (forEach (List.range 9) (fun k s =>
    let (r, s) := s.free
    if r % 16 = 15 then s else s.setFl l { s.fl l with txPreset := setNth (r % 16) (s.fl l).txPreset k }) s).flBlocks l (List.range 9) 2 false true
/-- The receiver has adapted and accepts the lanes of a mask (R338, R339), after presets were exchanged; FAILED lanes are taken out (R363). -/
def State.linkRxReady (s : State) (l lanes : Nat) : State :=
  if !s.flHas l || s.lst l != .equalize then s
  else
    let s := s.presetsAsked l
    ((s.setFl l { s.fl l with laneOk := lanes % 512 - Nat.land (lanes % 512) (s.rd (pg .flink l) F.FLINK.FAILED) }).flEnter l .align).flBlocks
    l (List.range 9) 3 true false

/-- The lanes in use and the spare that follow from a mask (R340); none where training fails. -/
def laneMap (mask : Nat) (x4 : Bool) : Option (List Nat × Option Nat) :=
  let b := laneBits mask
  if 8 ≤ b.length then some (b.take 8, b[8]?)
  else if 4 ≤ b.length && x4 then some (b.take 4, none) else none

/-- What the lane words of the far end say of presets (R338, R360): each names the lane by its number, the preset in use on it, and the preset
that this end's lane of the same number is asked to use. -/
def State.wordPresets (s : State) (l : Nat) (words : List Nat) : State :=
  forEach words (fun w s =>
    let k := w / 2 ^ 36 % 16
    if 9 ≤ k then s
    else
      let s := s.laneWr l k F.FLINK.TX_PRESET (w / 2 ^ 29 % 16)
      let req := w / 2 ^ 25 % 16
      if req = 15 then s else s.setFl l { s.fl l with txPreset := setNth req (s.fl l).txPreset k }) s
/-- ALIGN ends in both directions, and frames start (R338 to R340, R358): `words` are the last lane words received, one for each lane the far
end uses, and each shows RX_READY; the first gives LANE_OK, which every lane carries alike. The last training blocks have BLOCK_COUNT 0xFF,
and the spare goes on with STATE = SPARE. Both directions run at the lower width. -/
def State.linkAlign (s : State) (l : Nat) (words : List Nat) : State :=
  let p := pg .flink l
  if !s.flHas l || s.lst l != .align || words.isEmpty || words.any (fun w => w / 2 ^ 24 % 2 == 0) then s else
  let far := words.headD 0 / 2 ^ 11 % 512
  let s := (s.wordPresets l words).flBlocks l (List.range 9) 3 true false (some 0xFF)
  match laneMap (s.fl l).laneOk (s.width4 l), laneMap far (s.width4 l) with
  | some (rx, rs), some (tx, ts) =>
    let w := min rx.length tx.length
    let rs := if w = 8 then rs else none
    let ts := if w = 8 then ts else none
    let map := ((rx.take w).zipIdx.map fun (ln, k) => ln * 16 ^ k).sum
    let f := s.fl l
    let s := s.setFl l { f with farOk := far, txMap := tx.take w, txSpare := ts, txNext := 0, expect := 0, sent := [], excess := [], frameAt := s.now }
    let s := (s.wr p F.FLINK.LANE_MAP map).wr p F.FLINK.WIDTH w
    let s := forEach (rx.take w) (fun k s => s.laneWr l k F.FLINK.LANE_STATE 0) s
    let s := match rs with
      | some k => ((s.laneWr l k F.FLINK.LANE_STATE 1).wr p F.FLINK.SPARE_FREE 1).wr p F.FLINK.SPARE_LANE k
      | none => s
    let s := ((s.flEnter l .param).flBlocks l ts.toList 4 true false).flFiller l
    s.sendIdent l
  | _, _ => s.trainFail l

/-- The limit of a training state in ns (R339). -/
def trainLimit : LState → Option Nat
  | .equalize => some 20000000
  | .align => some 200000
  | .param => some 100000
  | _ => none
/-- A training state exceeds its limit (R339, R363). -/
def State.trainTimeout (s : State) (l : Nat) : State :=
  if !s.flHas l then s else
  match trainLimit (s.lst l) with
  | none => s
  | some t =>
    let s := s.reach ((s.fl l).stateAt + t)
    (s.captureFree (pg .flink l) 0x04 (s.lst l).code).trainFail l
/-- An enabled link has been DOWN for 10 ms (R339). -/
def State.downWait (s : State) (l : Nat) : State :=
  let p := pg .flink l
  if !s.flHas l || s.lst l != .down || !s.on p F.FLINK.ENABLE || s.stored p = .reset || s.stored p = .test || s.on p F.COM.ISOLATED then s
  else (s.reach ((s.fl l).stateAt + 10000000)).flTrain l

/-! ### Identity -/

/-- IDENT arrives (R348 to R350): its fields from byte 2 on. X4_OK of 0 at x4 fails the training, and of 1 makes the link DEGRADED (R358). The
negotiated revision is that of compatible ends (R350). -/
def State.rxIdent (s : State) (l : Nat) (b : List Nat) : State :=
  let p := pg .flink l
  if !s.flHas l || !s.flFramed l then s else
  let rev := beF b 0 1 % 16
  let trunk := beF b 1 1 % 2
  let appl := beF b 2 2
  let link := beF b 5 1 % 32
  let s := ((((((s.wr p F.FLINK.ACT_APPL_PKG appl).wr p F.FLINK.ACT_LINK link).wr p F.FLINK.ACT_PKG_INDEX (beF b 4 1 % 128)).wr
    p F.FLINK.ACT_TRUNK trunk).wr p F.FLINK.ACT_REV rev).wr p F.FLINK.ACT_VALID 1)
  if s.rd p F.FLINK.WIDTH = 4 && beF b 1 1 / 2 % 2 = 0 then s.trainFail l else
  let s := if s.rd p F.FLINK.WIDTH = 4 && s.lst l = .param && (s.fl l).own.isNone then s.setEvt p F.EVT.FLINK.DEGRADED else s
  let neg := min rev (s.protoCap l)
  let s := if revOk (s.protoCap l) rev then
      let s := s.wr p F.FLINK.NEG_REV neg
      if neg < s.protoCap l then s.setEvt p F.EVT.FLINK.REV_LOW else s
    else s
  let bufs := (List.range 5).map fun v => beF b (9 + v) 1
  let v := s.verdict l rev appl link trunk
  let f := s.fl l
  let s := s.setFl l { f with farBuf := bufs, credits := if s.lst l = .param then bufs.map (· * 1024) else f.credits, own := some v }
  let (r, s) := s.ackRev l rev
  (s.flCtrl l 0x02 [v, r]).flJudge l
/-- IDENT_ACK arrives (R349, R351). -/
def State.rxIdentAck (s : State) (l verdict : Nat) : State :=
  if !s.flHas l || !s.flFramed l then s else (s.setFl l { s.fl l with far := some verdict }).flJudge l
/-- IDENT is sent again while no IDENT_ACK has come (R347). -/
def State.identResend (s : State) (l : Nat) : State :=
  if !s.flHas l || s.lst l != .param || (s.fl l).far.isSome then s else s.sendIdent l

/-! ### Replay -/

/-- Frames are sent again from an FSEQ on (R346); a ninth time makes a link fault. -/
def State.replayFrom (s : State) (l q : Nat) : State :=
  let f := s.fl l
  let again (x : Nat × Nat × LPkt) : Bool := decide ((x.1 + 1024 - q % 1024) % 1024 < 512)
  if f.sent.any fun x => again x && decide (8 ≤ x.2.1) then s.linkFault l 1
  else
    let s := (s.setFl l { f with sent := f.sent.map fun x => if again x then (x.1, x.2.1 + 1, x.2.2) else x, ackAt := s.now }).bumpSat
      (pg .flink l) F.FLINK.REPLAYS
    forEach (f.sent.filter again) (fun x s => s.flOut l x.1 x.2.2) s
/-- REPLAY_REQ arrives (R346). -/
def State.rxReplay (s : State) (l q : Nat) : State := if !s.flHas l || !s.flFramed l then s else s.replayFrom l q
/-- ACK has not advanced for 2 µs (R346). -/
def State.ackStall (s : State) (l : Nat) : State :=
  if !s.flHas l || !s.flFramed l then s else
  match (s.fl l).sent with
  | [] => s
  | x :: _ => (((s.reach ((s.fl l).ackAt + 2000)).bumpSat (pg .flink l) F.FLINK.REPLAY_TIMEOUTS)).replayFrom l x.1

/-! ### Lanes -/

/-- The receiver asks for a logical lane on the spare (R356, R357). -/
def State.steerBegin (s : State) (l k : Nat) (recal : Bool) : State :=
  let p := pg .flink l
  let s := s.laneWr l (s.rd p F.FLINK.SPARE_LANE) F.FLINK.LANE_STATE 4
  ((s.wr p F.FLINK.SPARE_FREE 0).setFl l { s.fl l with steer := some (k, 0, recal) }).flCtrl l 0x10 [k]
/-- The receiver that adapts to a released lane asks for a preset of the far transmitter (R357), one of its own choice. -/
def State.eqAsk (s : State) (l ph : Nat) : State := let (v, s) := s.free; s.flCtrl l 0x14 [ph, v % 16]
/-- The logical lane is steered to the spare (R356, R357). A recalibration then begins with a request for a preset. -/
def State.steerDone (s : State) (l k : Nat) (recal : Bool) : State :=
  let p := pg .flink l
  let old := s.laneOf l k
  let sp := s.rd p F.FLINK.SPARE_LANE
  let m := s.rd p F.FLINK.LANE_MAP
  let s := (s.wr p F.FLINK.LANE_MAP (m - old * 16 ^ k + sp * 16 ^ k)).wr p F.FLINK.SPARE_LANE 0xF
  let s := s.laneWr l sp F.FLINK.LANE_STATE 0
  let f := s.fl l
  let s := s.setFl l { f with steer := none, recal := if recal then some old else f.recal, excess := f.excess.filter fun x => x.1 != old }
  let s := if recal then s.laneWr l old F.FLINK.LANE_STATE 2
    else ((s.wr p F.FLINK.FAILED (s.rd p F.FLINK.FAILED ||| 2 ^ old)).laneWr l old F.FLINK.LANE_STATE 3)
  let s := s.flCtrl l 0x12 [k, old]
  if recal then s.eqAsk l old else (s.setEvt p F.EVT.FLINK.SPARE_USED).captureFree p 0x01 old
/-- A frame passes under a mirror (R356, R357): `good` says that it is good with the spare in place of the mirrored lane. -/
def State.steerFrame (s : State) (l : Nat) (good : Bool) : State :=
  match (s.fl l).steer with
  | none => s
  | some (k, n, recal) =>
    if n = 0 then s
    else if !good then s.setFl l { s.fl l with steer := some (k, 1, recal) }
    else if n < (if recal then 64 else 8) then s.setFl l { s.fl l with steer := some (k, n + 1, recal) }
    else s.steerDone l k recal
/-- A lane of the receive direction fails (R356 to R358). -/
def State.laneFail (s : State) (l k : Nat) : State :=
  let p := pg .flink l
  if !s.flHas l || !s.flFramed l || !(s.lanesOn l).contains k then s else
  let same := match (s.fl l).steer with | some (j, _, recal) => j == k && !recal | none => false
  if same then s
  else if s.on p F.FLINK.SPARE_FREE then s.steerBegin l k false
  else
    let old := s.laneOf l k
    ((s.wr p F.FLINK.FAILED (s.rd p F.FLINK.FAILED ||| 2 ^ old)).linkFault l 2)

/-- MIRROR arrives (R356): the transmitter copies the logical lane onto its spare. -/
def State.rxMirror (s : State) (l k : Nat) : State :=
  let f := s.fl l
  if !s.flHas l || !s.flFramed l || f.txMap.length ≤ k || f.txSpare.isNone then s
  else (s.setFl l { f with txMirror := some k }).flCtrl l 0x11 [k, f.txNext / 256, f.txNext % 256]
/-- MIRROR_ON arrives (R356): the comparison starts. -/
def State.rxMirrorOn (s : State) (l k : Nat) : State :=
  if !s.flHas l || !s.flFramed l then s else
  match (s.fl l).steer with
  | some (j, 0, recal) => if j = k then s.setFl l { s.fl l with steer := some (j, 1, recal) } else s
  | _ => s
/-- STEERED arrives (R356): the logical lane stays on the spare, and the released lane sends training blocks, with
STATE = EQUALIZE (DESIGN CHOICE, log entry 187). -/
def State.rxSteered (s : State) (l k old : Nat) : State :=
  let f := s.fl l
  match f.txSpare with
  | some sp => if s.flHas l && s.flFramed l && nth 9 f.txMap k == old then
      (s.setFl l { f with txMap := setNth sp f.txMap k, txSpare := none, txMirror := none }).flBlocks l [old] 2 true false else s
  | none => s
/-- RELEASE arrives (R357): the recalibrated lane becomes the transmitter's spare, which sends STATE = SPARE blocks. -/
def State.rxRelease (s : State) (l old : Nat) : State :=
  let f := s.fl l
  if !s.flHas l || !s.flFramed l || f.txMap.contains old || 9 ≤ old then s
  else (s.setFl l { f with txSpare := some old }).flBlocks l [old] 4 true false
/-- EQ_REQ arrives (R357): the preset is set, EQ_SET answers, and the training blocks of a lane outside the map show it in use (R338). -/
def State.rxEqReq (s : State) (l k preset : Nat) : State :=
  if !s.flHas l || !s.flFramed l || 9 ≤ k then s
  else
    let s := (s.setFl l { s.fl l with txPreset := setNth (preset % 16) (s.fl l).txPreset k }).flCtrl l 0x15 [k, preset % 16]
    if (s.fl l).txMap.contains k then s else s.flBlocks l [k] (if (s.fl l).txSpare = some k then 4 else 2) true false
/-- EQ_SET arrives (R357, R360): the receiver that adapts to the lane may ask for another preset, which it decides by itself. -/
def State.rxEqSet (s : State) (l k preset : Nat) : State :=
  if !s.flHas l || !s.flFramed l || 9 ≤ k then s
  else
    let s := s.laneWr l k F.FLINK.TX_PRESET (preset % 16)
    if (s.fl l).recal != some k then s
    else let (v, s) := s.free; if v % 2 = 1 then s.eqAsk l k else s

/-- A recalibration may start (R357). -/
def State.mayRecal (s : State) (l k : Nat) : Bool :=
  let p := pg .flink l
  s.lst l == .active && !s.on p F.FLINK.RECAL_BUSY && s.on p F.FLINK.SPARE_FREE && (s.lanesOn l).contains k
/-- A recalibration of a logical lane starts (R357). -/
def State.recalBegin (s : State) (l k : Nat) : State := (s.wr (pg .flink l) F.FLINK.RECAL_BUSY 1).steerBegin l k true
/-- RECAL is written (R357, R361, R546); RECAL_LANE holds the lane. -/
def State.recal (s : State) (l : Nat) : State :=
  let p := pg .flink l
  let k := s.rd p F.FLINK.RECAL_LANE
  if s.mayRecal l k then s.recalBegin l k
  else (s.wr p F.FLINK.CTRL_STATUS Status.illegalState.code).answer .illegalState
/-- A lane's turn comes (R357): a lane whose recalibration failed once is tried again. -/
def State.autoRecal (s : State) (l : Nat) : State :=
  let p := pg .flink l
  if !s.flHas l || !s.on p F.FLINK.AUTO_RECAL || s.rd p F.FLINK.RECAL_PERIOD = 0 then s else
  let f := s.fl l
  match f.recalFails with
  | (ph, _) :: _ =>
    if s.lst l = .active && !s.on p F.FLINK.RECAL_BUSY then
      (((s.setFl l { f with recal := some ph }).wr p F.FLINK.RECAL_BUSY 1).laneWr l ph F.FLINK.LANE_STATE 2).eqAsk l ph
    else s
  | [] =>
    if s.mayRecal l f.nextAuto then (s.setFl l { f with nextAuto := (f.nextAuto + 1) % 8 }).recalBegin l f.nextAuto else s
/-- A lane's adaptation ends (R357); the status of one that failed is not stated. -/
def State.recalDone (s : State) (l : Nat) (ok : Bool) : State :=
  let p := pg .flink l
  let f := s.fl l
  match f.recal with
  | none => s
  | some ph =>
    if !s.flHas l then s else
    let s := s.wr p F.FLINK.RECAL_BUSY 0
    if ok then
      let s := s.setFl l { f with recal := none, recalFails := f.recalFails.filter fun x => x.1 != ph }
      let s := ((s.laneWr l ph F.FLINK.LANE_STATE 1).wr p F.FLINK.SPARE_LANE ph).wr p F.FLINK.SPARE_FREE 1
      let n := s.laneRd l ph F.FLINK.LANE_RECALS
      let s := (s.laneWr l ph F.FLINK.LANE_RECALS (min (n + 1) 0xFFFF)).wr p F.FLINK.CTRL_STATUS 0
      (s.flCtrl l 0x13 [ph]).setEvt p F.EVT.FLINK.RECAL_DONE
    else
      let again := f.recalFails.any fun x => x.1 == ph
      let (c, s) := s.free
      let s := s.wr p F.FLINK.CTRL_STATUS (c % 16)
      let s := if again then
          ((s.setFl l { f with recal := none, recalFails := f.recalFails.filter fun x => x.1 != ph }).wr p F.FLINK.FAILED
            (s.rd p F.FLINK.FAILED ||| 2 ^ ph)).laneWr l ph F.FLINK.LANE_STATE 3
        else (s.setFl l { f with recal := none, recalFails := f.recalFails ++ [(ph, 1)] }).laneWr l ph F.FLINK.LANE_STATE 5
      (s.setEvt p F.EVT.FLINK.RECAL_FAIL).captureFree p 0x02 ph

/-! ### Faults and actions -/

/-- No good frame has arrived for 4 µs (R359). -/
def State.noFrame (s : State) (l : Nat) : State :=
  if !s.flHas l || !s.flFramed l then s else (s.reach ((s.fl l).frameAt + 4000)).linkFault l 0
/-- RETRAIN or a reset of the unit (R339, R359). -/
def State.flRetrain (s : State) (l : Nat) : State :=
  let s := s.linkFault l 4
  if s.on (pg .flink l) F.FLINK.ENABLE then s.flTrain l else s
/-- ACCEPT (R351, R546). -/
def State.flAccept (s : State) (l : Nat) : State :=
  let p := pg .flink l
  let c := s.rd p F.FLINK.QUAR_CAUSE
  if s.lst l != .quarantined || c = 3 || c = 4 then (s.wr p F.FLINK.CTRL_STATUS Status.illegalState.code).answer .illegalState
  else
    let s := ((s.wr p F.FLINK.EXP_APPL_PKG (s.rd p F.FLINK.ACT_APPL_PKG)).wr p F.FLINK.EXP_LINK (s.rd p F.FLINK.ACT_LINK)).wr p F.FLINK.EXP_VALID 1
    (s.wr p F.FLINK.CTRL_STATUS 0).reJudge l
/-- NBR_EXPECT has been written (R351, R361). -/
def State.nbrExpect (s : State) (l : Nat) : State := if s.lst l = .quarantined then s.reJudge l else s
/-- FL_CFG is written (R360, R361): `v` is the whole word with the RW bits merged in. -/
def State.flCfgWrite (s : State) (l : Nat) (v : Word) : State :=
  let p := pg .flink l
  let cap := bits v 11 8
  if cap != 2 && cap != 3 then s.answer .badArg
  else
    let was := s.on p F.FLINK.ENABLE
    let s := s.setReg 0 p 0x100 v
    if !was && v.getLsbD 0 then s.flTrain l
    else if was && !v.getLsbD 0 then s.linkFault l 4 else s
/-- FL_VC_ALLOC is written (R361). -/
def State.vcAllocWrite (s : State) (l : Nat) (v : Word) : State :=
  let a (k : Nat) : Nat := bits v (8 * k + 7) (8 * k)
  if 64 < a 0 + a 1 + a 2 + a 3 + a 4 || a 1 = 0 || a 4 = 0 then s.answer .badArg else s.setReg 0 (pg .flink l) 0x128 v

end Sys2Proof.Machine
end

