-- ==== Sys2Proof/Machine/Router.lean ====
section
/-! DEFINITION. The FROUTER's part of faults, lost packages, partitions and management (R377 to R385, R396 to R405, R409 to R414):
link faults and handed-back packets, packets for other packages, LOST bits, and the writes of its tables. -/

namespace Sys2Proof.Machine

/-! ### Link faults -/

/-- A handed-back request that is not sent again is answered with TIMEOUT, each constituent of a combined one (R402). -/
def State.resendAbort (s : State) (l : Nat) (x : LPkt) : State :=
  let p := x.pkt
  let s := s.setEvt (linkRouter l) F.EVT.FROUTER.RESEND_ABORT
  match if p.combined then s.fab.windows.find? fun w => w.sent && w.pkt.unit == p.unit && w.pkt.tag == p.tag && w.pkt.srcPkg == p.srcPkg else none with
  | some w => s.splitAnswer w .timeout
  | none => s.sendAnswer x.inl p .timeout
/-- The FENCE that an engine owes a home after requests of it were sent again (R374 rule 3, R401): it goes before any further request to that
home, and, where no slot is free, stands before every request that waits. One that still waits to be sent serves. -/
def State.oweFence (s : State) (p : Pkt) : State :=
  if s.fab.wait.any (fenceTo p.unit p.dstPkg) then s
  else
    let r := mkReq p.unit { p with op := 0x06, addr := 0, index := 0, len := 0, ext := 0, pay := [], combined := false, count := 1 } 3 0 0 0
    if s.reqRoom r then s.issueNow r else { s with fab := { s.fab with wait := r :: s.fab.wait } }
/-- A handed-back packet is routed again (R401, R402). -/
def State.resend (s : State) (l : Nat) (x : LPkt) : State :=
  let p := x.pkt
  if p.op = 0x03 || p.op = 0x04 || p.op = 0x63 then s.resendAbort l x
  else match s.launch x.inl p with
    | (none, s) => s.bump (linkRouter l) F.FROUTER.REROUTES
    | (some st, s) => if isRequest p.op then s.sendAnswer x.inl p st else s
/-- The FROUTER handles a reported link fault (R401): what was handed back is routed again, then each engine that had a VC0 request of its own
among it sends a FENCE to that home. -/
def State.routeFault (s : State) (l : Nat) : State :=
  let f := s.fl l
  if !s.flHas l || !f.handed then s else
  let s := s.setFl l { f with back := [], handed := false }
  let s := forEach f.back (fun x s => s.resend l x) s
  let own := f.back.filter fun x => s.isOwn x.pkt && decide (x.pkt.op ≤ 0x07) && x.pkt.op != 0x03 && x.pkt.op != 0x04
    && s.fab.reqs.any fun r => r.unit == x.pkt.unit && r.pkt.tag == x.pkt.tag
  let s := forEach (own.map fun x => (x.pkt.unit, x.pkt.dstPkg)).eraseDups (fun (u, h) s =>
    match own.find? fun x => x.pkt.unit == u && x.pkt.dstPkg == h with | some x => s.oweFence x.pkt | none => s) s
  (s.wr (linkRouter l) F.FROUTER.LAST_FAULT_LINK l).setEvt (linkRouter l) F.EVT.FROUTER.ROUTE_SWITCH

/-! ### Packets for other packages -/

/-- A packet for another package is sent on, or refused (R393 to R398, R403). -/
def State.forward (s : State) (l : Nat) (p : Pkt) : State :=
  let other := p.dstDom != s.ownDom && (match vcOf p.op with | some vc => vc != 2 && vc != 4 | none => true)
  let s := if other then s.noteRefused (linkRouter l) false true else s
  match s.launchReq (some l) p with
  | (none, s) => s
  | (some st, s) => if isRequest p.op || st = .version then s.sendAnswer (some l) p st else s

/-- A link carries a packet on a VC (R351, R354); none in a state in which no packet arrives. -/
def State.carries (s : State) (l vc : Nat) : Option Bool :=
  match s.lst l with
  | .active => some (!s.trunk l || vc == 2 || vc == 4)
  | .quarantined => some (vc == 4)
  | _ => none
/-- A received packet is discarded under R351 or R354. -/
def State.vcDiscard (s : State) (l : Nat) : State :=
  (s.bumpSat (pg .flink l) F.FLINK.VC_DISCARDS).setEvt (pg .flink l) F.EVT.FLINK.VC_DISCARD
/-- A PRIVATE link carries VC0 to VC3 for the owning partition only (R392, R396). -/
def State.privateOk (s : State) (l vc : Nat) (p : Pkt) : Bool :=
  let (o, pr) := s.owner l
  !pr || o == p.part || vc == 4 || s.crosses p

/-! ### Answers, notices and timers -/

/-- The request that carries a NOTICE (R369). -/
def State.noticeReq (s : State) (n : Notice) : Option Req :=
  s.fab.reqs.find? fun r => r.pkt.op == 0x07 && r.pkt.dstPkg == n.home && pktGrp r.pkt == n.grp
/-- NOTICE_ACK ends the retransmission of its NOTICE, and frees its slot (R369, R377); one that matches none is discarded. -/
def State.noticeAck (s : State) (p : Pkt) : State :=
  match s.findReq p.unit p.tag with
  | none => s.staleArr p.unit
  | some r =>
    if r.pkt.op != 0x07 || !answers r.pkt p then s.staleArr p.unit
    else
      let s := s.freeReq r
      { s with fab := { s.fab with notices := s.fab.notices.filter fun n => !(n.home == r.pkt.dstPkg && n.grp == pktGrp r.pkt) } }
/-- A NOTICE has had no NOTICE_ACK within REQ_TIMEOUT of its last sending (R377). -/
def State.noticeRetry (s : State) (k : Nat) : State :=
  match s.fab.notices[k]?.bind s.noticeReq with
  | none => s
  | some r => s.renotice r
/-- A home that holds a request sends HOLD every 500 µs (R370). -/
def State.holdTimer (s : State) (k : Nat) : State :=
  match s.fab.held[k]? with
  | none => s
  | some x =>
    let s := s.reach (x.at_ + 500000)
    let s := { s with fab := { s.fab with held := setNth { x with at_ := s.now } s.fab.held k } }
    let p := x.pkt
    let h : Pkt := { answerTo p .ok with op := 0x23 }
    if s.isOwn p then s.ftHold { h with unit := p.unit, tag := p.tag } else (s.launch (x.inl.map (· % 32 + 32)) h).2
/-- A stage group has had no NOTICE within CB_TIMEOUT of its last staged request (R379). -/
def State.cbTimeout (s : State) (g : SGroup) : State :=
  if !(s.fab.cb.any fun e => e.grp == g) then s else
  let last := ((s.fab.stagedAt.find? fun x => x.1 == g).map (·.2)).getD 0
  (s.reach (last + s.rd frp F.FROUTER.CB_TIMEOUT * 1000000)).cbDiscard g
/-- A hot-line queue that has been empty for 1 µs is released (R381). -/
def State.hotRelease (s : State) (half line : Nat) : State :=
  if !s.fab.hot.contains (half, line) then s else
  let h := s.fab.hot.filter (· != (half, line))
  let s := ({ s with fab := { s.fab with hot := h, stalled := s.fab.stalled.filter fun x => s.homeHalf (x.2 * 256) != half } }).wr
    (pg .frouter half) F.FROUTER.HOT_QUEUES (h.filter fun (x : Nat × Nat) => x.1 == half).length
  s.creditsBack

/-! ### Lost packages -/

/-- A packet of set 8, for the usability of its ports (R392): management traffic. -/
def State.set8Up (s : State) (x : Nat) : Bool := (s.firstPort { op := 0x62 } 4 (s.rtPorts 8 x)).isSome
/-- The set 8 entry of a package has had no usable port for LOST_DELAY (R404). -/
def State.lostDelay (s : State) (x : Nat) : State :=
  if 128 ≤ x || !s.on frp F.FROUTER.AUTO_LOST || s.set8Up x then s else s.setLost x
/-- A LOST bit is cleared (R404). -/
def State.clearLost (s : State) (x : Nat) : State :=
  if !s.isLost x then s else
  let f := if x < 64 then F.FROUTER.LOST0 else F.FROUTER.LOST1
  (s.wr frp f (s.rd frp f - 2 ^ (x % 64))).setEvt frp F.EVT.FROUTER.PKG_BACK
/-- LOST_CTRL is written (R404, R407, R412). -/
def State.lostCtrl (s : State) (v : Word) : State :=
  let x := bits v 6 0
  let set := v.getLsbD 8
  let clr := v.getLsbD 9
  if set && clr then s.answer .badArg
  else if clr && !s.set8Up x then s.answer .illegalState
  else
    let s := s.wr frp F.FROUTER.LOST_INDEX x
    if set then s.setLost x else if clr then s.clearLost x else s
/-- What LOST bits do to swaps and Squall jobs (R242, R290, R405). -/
def State.lostSettle (s : State) : State :=
  if s.rd frp F.FROUTER.LOST0 = 0 && s.rd frp F.FROUTER.LOST1 = 0 then s else
  let s := forEach (List.range 8) (fun g s =>
    let x := s.ud g
    if s.leadRd g F.UPDRAFT.SWAP_STATE = 3 && x.awaited.any fun m => s.isLost m then s.setAwaited g (x.awaited.filter fun m => !s.isLost m) else s) s
  forEach [0, 1] (fun k s => forEach (s.squ k).jobs (fun j s =>
    if j.fail.isSome then s else
    match (s.jobPeers k j.g (s.sqJob k j.g j.idx)).find? fun q => q.dom == s.ownDom && s.isLost q.pkg with
    | some q => s.sqFail k j.g j.idx .homeLost q.appl
    | none => s) s) s

/-! ### Partitions -/

/-- The groups that name a partition (R409). -/
def State.partGroups (s : State) (k : Nat) : List Nat :=
  (List.range 8).filter fun g => s.on (pg .tgroup g) F.TGROUP.PART_VALID && s.rd (pg .tgroup g) F.TGROUP.PARTITION == k
/-- JOIN and LEAVE (R409, R410, R546). -/
def State.partCtrl (s : State) (k : Nat) (v : Word) : State :=
  let p := pg .partition k
  let own := (if s.pkgIdx < 64 then s.rd p F.PARTITION.MEMBERS0 else s.rd p F.PARTITION.MEMBERS1) / 2 ^ (s.pkgIdx % 64) % 2
  let done (st : Status) (s : State) : State := (s.wr p F.PARTITION.PT_STATUS st.code).answer st
  let st := s.stored p
  if v.getLsbD 0 && v.getLsbD 1 then done .illegalState s
  else if v.getLsbD 0 then
    if st != .offline then done .illegalState s else if own = 0 then done .badArg s else done .ok (s.enter p .idle)
  else if v.getLsbD 1 then
    if !(st == .idle || st == .halted) || !(s.partGroups k).isEmpty then done .illegalState s else done .ok (s.enter p .offline)
  else s
/-- MEMBERS is written (R410); a partition that an error in MEMBERS halted is in service again (R453). -/
def State.membersWrite (s : State) (k off : Nat) (v : Word) : State :=
  let st := s.stored (pg .partition k)
  let p := pg .partition k
  if !(st == .offline || st == .halted) then s.answer .illegalState
  else
    let s := s.setReg 0 p off v
    let x := s.ua p
    if x.busy then (s.setUa p { x with busy := false }).enter p (if x.prior = .offline || x.prior = .halted then x.prior else .idle) else s
/-- The state of a partition follows its groups (R410). -/
def State.partSettle (s : State) (k : Nat) : State :=
  let p := pg .partition k
  let gs := s.partGroups k
  let busy := gs.any fun g => (s.openOf g).isSome
  match s.stored p with
  | .idle | .running => if s.on p F.COM.HALT && !busy then (s.wr p F.COM.HALT 0).enter p .halted else s.runIff p busy
  | .draining => if busy || (gs.any fun g => !(s.heldOf g).isEmpty) then s else (s.wr p F.COM.DRAIN 0).enter p .halted
  | _ => s

/-! ### The tables -/

/-- The checks on the ports of an entry (R413). -/
def State.portsBad (s : State) (w : Nat) : Option Status :=
  (entryPorts w).findSome? fun x =>
    if 24 ≤ x.1 && x.1 ≤ 30 then some .badArg else if x.1 < 24 && absentUnit s.cfg .flink x.1 then some .absent else none
/-- A route entry or domain entry is written (R413). -/
def State.entryWrite (s : State) (bank off : Nat) (v : Word) : State :=
  match s.portsBad v.toNat with
  | some st => s.answer st
  | none => s.setReg bank frp off v
/-- RT_SEL is written (R413). -/
def State.rtSelWrite (s : State) (v : Word) : State := if 8 < bits v 3 0 then s.answer .badArg else s.setReg 0 frp 0x180 v
/-- PSET entries are written (R410, R413): the changed entries are judged, and one refusal refuses the write. -/
def State.psetWrite (s : State) (w : Nat) (v : Word) : State :=
  let off := 0x190 + 8 * w
  let old := s.reg 0 frp off
  let bad (k : Nat) : Option Status :=
    let e := bits v (4 * k + 3) (4 * k)
    if e = bits old (4 * k + 3) (4 * k) then none
    else if 9 ≤ e && e ≤ 0xE then some .badArg
    else match s.stored (pg .partition (16 * w + k)) with
      | .offline | .halted => none
      | _ => some .illegalState
  match (List.range 16).findSome? bad with
  | some st => s.answer st
  | none => s.setReg 0 frp off v
/-- The words of a transit grant are written (R413). -/
def State.tgWrite (s : State) (k off : Nat) (v : Word) : State :=
  let valid := s.rdB k frp F.FROUTER.TG_VALID = 1
  let old := s.reg k frp off
  let same := if off = 0x230 then setBits v 8 8 0 == setBits old 8 8 0 else v == old
  if valid && !same then s.answer .illegalState
  else if off = 0x230 && !valid && v.getLsbD 8 && bits v 30 24 < bits v 22 16 then s.answer .badArg
  else s.setReg k frp off v
/-- The words of an import entry are written (R387). -/
def State.impWrite (s : State) (k off : Nat) (v : Word) : State :=
  let valid := s.rdB k frp F.FROUTER.IMP_VALID = 1
  let old := s.reg k frp off
  let same := if off = 0x118 then setBits v 24 24 0 == setBits old 24 24 0 else v == old
  let b := s.rdB k frp F.FROUTER.IMP_BASE
  let z := s.rdB k frp F.FROUTER.IMP_SIZE
  if valid && !same then s.answer .illegalState
  else if off = 0x118 && !valid && v.getLsbD 24 && (z = 0 || 2 ^ 33 < b + z) then s.answer .badArg
  else s.setReg k frp off v
/-- FR_CFG is written (R387). -/
def State.frCfgWrite (s : State) (v : Word) : State := if bits v 15 0 = 0 then s.answer .badArg else s.setReg 0 frp 0x120 v
/-- DOMAIN_CFG is written (R413). -/
def State.domainWrite (s : State) (v : Word) : State :=
  if (List.range 24).any fun l => !absentUnit s.cfg .flink l && s.on (pg .flink l) F.FLINK.ENABLE then s.answer .illegalState
  else s.setReg 0 frp 0x1F0 v

end Sys2Proof.Machine
end

