-- ==== Sys2Proof/Machine/Gct.lean ====
section
/-! DEFINITION. The Genras Control Transport: setup (R421 to R423), the stream of a session with its acknowledgements, timers and
moves (R426 to R429), the data port (R432, R433) and subscriptions (R434). -/

namespace Sys2Proof.Machine

/-- The GCT unit of a network. -/
def gctPg (net : Nat) : Nat := pg .gct (net % 2)
/-- A port is up and carries frames (R415, R449). -/
def State.portUp (s : State) (k : Nat) : Bool := s.rd (pg .enet k) F.ENET.SPEED != 0 && !s.on (pg .enet k) F.COM.ISOLATED
/-- A network has an up port (R415, R428). -/
def State.netUp (s : State) (net : Nat) : Bool := (List.range 4).any fun k => s.portUp (4 * (net % 2) + k)
/-- A datagram is discarded and counted (R418). -/
def State.gctDrop (s : State) (net : Nat) : State := s.bump (gctPg net) F.GCT.DROPPED
/-- The state of the GCT units follows the sessions they anchor (R441). -/
def State.gctSettle (s : State) : State :=
  forEach [0, 1] (fun k s => s.runIff (pg .gct k) (s.sessions.any fun x => x.2.st == .up && x.2.anchor == k)) s

/-- The admission key slot of an index (R479); slot 0 is the fused one. -/
def State.akSlot (s : State) (k : Nat) : Option AkSlot :=
  if k = 0 then (if s.cfg.ak0.isEmpty then none else some ⟨s.cfg.ak0, true, 0xFFF⟩) else tblFind k s.rtu.ak

/-! ### Ethernet ports -/

/-- The form in which a host is reached (R416, R417): raw, or over IPv4 where its address is IPv4-mapped, else over IPv6, at its UDP port. -/
def formOf (raw : Bool) (addr : Nat) : Form :=
  if raw then .raw else if addr % 2 ^ 96 = 0xFFFF * 2 ^ 80 then .ip4 (addr / 2 ^ 128) else .ip6 (addr / 2 ^ 128)
/-- A port has an address of the form (R416, R443). -/
def State.portHas (s : State) (k : Nat) : Form → Bool
  | .ip6 _ => s.on (pg .enet k) F.ENET.V6_VALID
  | .ip4 _ => s.on (pg .enet k) F.ENET.V4_VALID
  | .raw => true
/-- The frame of a port to a host (R416, R443), before it is protected. -/
def State.frameTo (s : State) (k dst : Nat) (form : Form) : EFrame :=
  let p := pg .enet k
  let src : Nat := match form with
    | .ip6 _ => s.rd p F.ENET.IPV6_HI * 2 ^ 64 + s.rd p F.ENET.IPV6_LO
    | .ip4 _ => s.rd p F.ENET.IPV4
    | .raw => 0
  ⟨k, s.rd p F.ENET.MAC, dst, form, src, none⟩
/-- A port that is up carries a frame out (R425, R443): under MACsec its SA takes the next packet number, and one whose numbers are exhausted
stops. A port without the SA that TX_AN names sends nothing (DESIGN CHOICE, log entry 194). -/
def State.enetOut (s : State) (f : EFrame) : Option EFrame × State :=
  let p := pg .enet f.port
  let an := s.rd p F.ENET.TX_AN
  let at_ := 4 * f.port + an
  if !s.portUp f.port then (none, s)
  else if !s.on p F.ENET.MACSEC_EN then (some f, s.bump p F.ENET.TX_FRAMES)
  else match tblFind at_ s.sas with
    | none => (none, s)
    | some a =>
      let top := if a.xpn then 2 ^ 64 else 2 ^ 32
      if top ≤ a.pn then (none, s)
      else
        let s := { s with sas := tblInsert at_ { a with pn := a.pn + 1 } (tblErase at_ s.sas) }
        (some { f with sec := some (an, a) },
          (if a.pn + 1 = top then { s with late := s.late ++ [(p, F.EVT.ENET.PN_LIMIT)] } else s).bump p F.ENET.TX_FRAMES)
/-- A frame of `bytes` bytes arrives at a port that is up (R415, R425, R443). One whose FCS fails, or of more than 9,216 bytes, is dropped and
counted; and, while REQUIRE = 1, one without valid protection by a receive SA that is installed, but for a PTP message under PTP_BYPASS. -/
def State.enetIn (s : State) (k : Nat) (guard : Option Nat) (ptp fcs : Bool) (bytes : Nat) : Bool × State :=
  let p := pg .enet k
  let valid := match guard with | some a => (tblFind (4 * k + 2 + a) s.sas).isSome | none => false
  if !s.portUp k then (false, s)
  else if !fcs || 9216 < bytes then (false, s.bump p F.ENET.RX_DROPS)
  else if s.on p F.ENET.REQUIRE && !valid && !(ptp && s.on p F.ENET.PTP_BYPASS) then (false, s.bump p F.ENET.RX_DROPS)
  else (true, s.bump p F.ENET.RX_FRAMES)
/-- A datagram is addressed to GCT (R416, R417): at an address that the port has, to UDP_PORT, over IPv4 while IPV4_EN = 1, in raw form while
RAW_EN = 1 or in RECOVERY (R463). -/
def State.viaOk (s : State) (v : Via) : Bool :=
  let g := gctPg v.net
  s.portHas v.port v.form &&
  match v.form with
  | .ip6 u => u == s.rd g F.GCT.UDP_PORT
  | .ip4 u => u == s.rd g F.GCT.UDP_PORT && s.on g F.GCT.IPV4_EN
  | .raw => s.on g F.GCT.RAW_EN || s.rd (pg .boot 0) F.BOOT.BOOT_STAGE == 8
/-- A GCT datagram of `n` body bytes with `tag` bytes after it comes in: what is not addressed to GCT goes no further. -/
def State.gctIn (s : State) (v : Via) (n tag : Nat) (f : State → State) : State :=
  let (ok, s) := s.enetIn v.port v.guard false v.fcs (v.bytes n tag)
  if ok && s.viaOk v then f s else s
/-- The port on which a session sends (R417, R428): that of a raw session while it is up, else the up ports of the anchor's network in turn. A
port without an address of the session's form takes no turn (DESIGN CHOICE, log entry 191). -/
def State.txPort (s : State) (x : Sess) : Option Nat :=
  let up := (match x.raw with | some k => [k] | none => (List.range 4).map fun k => 4 * (x.anchor % 2) + k).filter fun k =>
    s.portUp k && s.portHas k (formOf x.raw.isSome x.peer)
  up[x.turn % up.length]?

/-! ### Setup -/

/-- A setup message or an ERR goes out in plain form (R418, R421, R423): it takes no SEQ. Header fields that the spec gives no value in such a
message are zero (DESIGN CHOICE, log entry 191). -/
def State.sendPlain (s : State) (v : Via) (typ id status : Nat) (body : List Byte) (session : Nat := 0) (epoch : Nat := 0) : State :=
  match s.enetOut (s.frameTo v.port v.src (formOf v.raw.isSome v.src)) with
  | (none, s) => s
  | (some f, s) => s.emit (.gct f (gctHeader typ true false status session epoch 0 0 0 id 0 1 body.length 0 0) body body)

/-- A setup ends without a session (R423): an ERR in plain form where a status is given. -/
def State.setupFail (s : State) (v : Via) (id : Nat) (st : Option Status) : State :=
  let s := (s.bump (gctPg v.net) F.GCT.SETUP_FAILS).setEvt (gctPg v.net) F.EVT.GCT.SETUP_FAIL
  match st with | some x => s.sendPlain v 0x0F id x.code [] | none => s
/-- A session index is freed; its EPOCH stays, to advance at the next use (R423). -/
def State.freeIndex (s : State) (i : Nat) : State := s.setSess i { Sess.init with epoch := (s.sess i).epoch }
/-- The reserved bytes of a HELLO are zero (R421). -/
def helloOk (b : List Byte) : Bool :=
  b.length == 1632 && rqF b 33 3 == 0 && rqF b 32 1 < 16 && rqF b 59 5 == 0 && rqF b 58 1 < 2
/-- BOOT stage RECOVERY (R463). -/
def State.recovering (s : State) : Bool := s.rd (pg .boot 0) F.BOOT.BOOT_STAGE == 8
/-- Where the keys of memory hold the 16 MiB staging buffer of RECOVERY: above the local address space. -/
def recBase : Nat := 0x400000000000
/-- GCT accepts a HELLO (R462, R463): in READY, and in RECOVERY the raw form on port A0. -/
def State.helloStage (s : State) (d : Setup) : Bool :=
  s.rd (pg .boot 0) F.BOOT.BOOT_STAGE == 7 || (s.recovering && d.via.raw == some 0)
/-- HELLO (R421, R423). -/
def State.helloIn (s : State) (d : Setup) : State :=
  let g := gctPg d.via.net
  if !s.helloStage d then s.gctDrop d.via.net
  else if d.version != 1 then s.sendPlain d.via 0x0F d.id Status.version.code []
  else if !d.whole 0x01 then s.gctDrop d.via.net
  else if !s.rtuOn || s.on g F.COM.ISOLATED then s.gctDrop d.via.net
  else if !helloOk d.body then s.sendPlain d.via 0x0F d.id Status.badArg.code []
  else
    match s.sessions.find? fun x => x.2.st == .setup && x.2.hello.take 32 == d.body.take 32 with
    | some x => s.sendPlain d.via 0x02 d.id 0 x.2.offer x.1 x.2.epoch
    | none =>
      let ak := rqF d.body 32 1
      match s.akSlot ak with
      | none => s.setupFail d.via d.id (some .perm)
      | some a =>
        let perm := Nat.land (rqF d.body 36 4) a.perm
        if perm = 0 then s.setupFail d.via d.id (some .perm) else
        match (List.range 4096).find? fun i => (s.sess i).st == .free with
        | none => s.setupFail d.via d.id (some .noSpace)
        | some i =>
          if 64 ≤ (s.sessions.filter fun x => x.2.st == .setup).length then s.setupFail d.via d.id (some .noSpace)
          else
            let (r1, s) := s.free
            let (r2, s) := s.free
            let epoch := ((s.sess i).epoch + 1) % 2 ^ 16
            let (ct, ss) := Config.mlkemEncaps (d.body.drop 64) (Config.entropy r2)
            let offer := padTo 32 (Config.entropy r1) ++ leBytes 2 i ++ leBytes 2 epoch ++ leBytes 4 perm ++ Config.shake256 Config.kemKey 32 ++ padTo 1568 ct
            let x : Sess := { Sess.init with
              st := .setup, epoch := epoch, ak := ak, perm := perm, alt := rqF d.body 58 1 == 1 && d.via.raw.isNone, raw := d.via.raw,
              anchor := d.via.net % 2, t0 := s.now, hello := d.body, offer := offer, keys := padTo 32 ss, altAddr := rqF d.body 40 18, peer := d.via.src }
            (s.setSess i x).sendPlain d.via 0x02 d.id 0 offer i epoch
def State.hello (s : State) (d : Setup) : State := s.gctIn d.via d.body.length 0 fun s => s.helloIn d
/-- The key material of a session (R422): th and km. -/
def gctKeys (x : Sess) (ak ct : List Byte) : List Byte × List Byte :=
  let th := Config.shake256 (x.hello ++ x.offer ++ ct) 64
  let label := "GCT-KEYS-1".toList.map fun c => BitVec.ofNat 8 c.toNat
  (th, Config.shake256 (label ++ x.keys ++ Config.mlkemDecaps ct ++ ak ++ th) 72)
/-- Segments beyond ACK_SEQ that a GCT unit will accept (R418, R426): 256, or what its 32 MiB reassembly buffer has room for. -/
def State.windowOf (s : State) (k : Nat) : Nat :=
  min 256 ((0x2000000 - (s.sessions.map fun y => if y.2.anchor = k then (y.2.have_.map fun g => g.body.length).sum else 0).sum) / 8256)
/-- A datagram of a session goes out (R418, R422), where a port can carry it: its body is encrypted under k_ph with the nonce
salt_ph ‖ TX_COUNT, the header being the additional data. -/
def State.sendSealed (s : State) (i : Nat) (g : GSeg) (sack : Nat) : Bool × State :=
  let x := s.sess i
  match s.txPort x with
  | none => (false, s)
  | some k =>
    let h := gctHeader g.typ false g.retx g.status i x.epoch g.seq x.rx sack g.id g.idx g.cnt g.body.length (s.windowOf x.anchor) x.txCount
    match s.enetOut (s.frameTo k x.peer (formOf x.raw.isSome x.peer)) with
    | (none, s) => (false, s)
    | (some f, s) =>
      (true, s.emit (.gct f h g.body (Config.gcmSeal ((x.keys.drop 32).take 32) ((x.keys.drop 68).take 4 ++ beBytes 8 x.txCount) h g.body)))
/-- A datagram can be this session's (R417): a session opened in raw form stays on the port and the host MAC of its HELLO. -/
def Sess.from_ (x : Sess) (v : Via) : Bool := v.raw == x.raw && (x.raw.isNone || v.src == x.peer)
/-- FINISH (R421 to R423): its header names the session and is the additional data of CONFIRM. The answer is READY, the first encrypted message
of the session, with TX_COUNT 0. -/
def State.finishIn (s : State) (d : Setup) : State :=
  let i := d.session
  let x := s.sess i
  if x.st != .setup || x.epoch != d.epoch || !x.from_ d.via || d.version != 1 || !d.whole 0x03 then s.gctDrop d.via.net
  else
    let ak := match s.akSlot x.ak with | some a => a.key | none => []
    let (th, km) := gctKeys x ak (d.body.take 1568)
    let want := Config.gcmSeal (km.take 32) ((km.drop 64).take 4 ++ List.replicate 8 0) d.header (th.take 16)
    if d.body.length != 1600 || d.body.drop 1568 != want || (s.akSlot x.ak).isNone then (s.freeIndex i).setupFail d.via d.id none
    else
      let g := pg .gct x.anchor
      let s := s.setSess i { x with
        st := .up, keys := km, rxHigh := 0, rxSeen := [0], txCount := 0, lastValid := s.now, lastMove := s.now, peer := d.via.src,
        rto := s.rd g F.GCT.RTO_MIN_US, hello := [], offer := [] }
      let s := ((s.bump g F.GCT.SETUPS_DONE).setEvt g F.EVT.GCT.SESSION_UP).gctSettle
      let (_, s) := s.sendSealed i ⟨0, 0x04, d.id, 0, 0, 1, leBytes 4 x.perm ++ leBytes 4 0, s.now, false, 0, false, false⟩ 0
      s.setSess i { s.sess i with txCount := 1, turn := 1 }
def State.finishSetup (s : State) (d : Setup) : State := s.gctIn d.via d.body.length 0 fun s => s.finishIn d
/-- No valid FINISH has come within 1 s (R423). -/
def State.setupTimeout (s : State) (i : Nat) : State :=
  let x := s.sess i
  if x.st != .setup then s else ((s.reach (x.t0 + 1000000000)).freeIndex i).setupFail { port := 4 * (x.anchor % 2), src := x.peer } 0 none

/-! ### The end of a session -/

/-- A session ends (R429): its requests that wait are discarded, and one that the RTU works on is answered to no session. -/
def State.sessEnd (s : State) (i : Nat) : State :=
  let x := s.sess i
  if x.st != .up then s else
  let s := (s.freeIndex i).ringsLost i
  let s := { s with subs := s.subs.filter fun y => y.1 != i, remote := s.remote.filter fun y => y.2.session != i,
                    seqWait := s.seqWait.filter fun m => m.session != i,
                    rtu := { s.rtu with attest := s.rtu.attest.map fun (m : Msg) => if m.session = i then { m with session := 4096 } else m } }
  (s.setEvt (pg .gct x.anchor) F.EVT.GCT.SESSION_DOWN).gctSettle
/-- A session ends with TIMEOUT (R428, R441). -/
def State.sessTimeout (s : State) (i : Nat) : State :=
  let g := s.anchorPg i
  (s.sessEnd i).bumpSat g F.GCT.TIMEOUTS
/-- IDLE_S has passed without a valid datagram (R429). -/
def State.idleExpiry (s : State) (i : Nat) : State :=
  let x := s.sess i
  if x.st != .up then s else (s.reach (x.lastValid + s.rd (pg .gct x.anchor) F.GCT.IDLE_S * 1000000000)).sessEnd i
/-- Every session ends (R470, R493). -/
def State.sessEndAll (s : State) : State :=
  let s := forEach ((s.sessions.filter fun x => x.2.st == .up).map (·.1)) (fun i s => s.sessEnd i) s
  forEach ((s.sessions.filter fun x => x.2.st == .setup).map (·.1)) (fun i s => s.freeIndex i) s

/-! ### Sending -/

/-- The selective acknowledgement of a session (R418). -/
def Sess.sackNow (x : Sess) : Nat :=
  ((List.range 32).map fun k => if x.have_.any fun g => g.seq == (x.rx + 1 + k) % 2 ^ 32 then 2 ^ k else 0).sum
/-- A datagram of a session goes out, where a port can carry it (R422, R426). At a TX_COUNT of 2^48 the session ends. -/
def State.gctPut (s : State) (i : Nat) (g : GSeg) : Bool × State :=
  let x := s.sess i
  if x.st != .up then (false, s) else
  let (sent, s) := s.sendSealed i g x.sackNow
  if !sent then (false, s.setSess i { x with turn := x.turn + 1 }) else
  let s := s.setSess i { x with txCount := x.txCount + 1, turn := x.turn + 1, ackOwed := none }
  (true, if 2 ^ 48 ≤ x.txCount + 1 then s.sessEnd i else s)
def State.gctOut (s : State) (i : Nat) (g : GSeg) : State := (s.gctPut i g).2
/-- Bytes that a GCT unit holds for retransmission (R426). -/
def State.retained (s : State) (k : Nat) : Nat :=
  (s.sessions.map fun y => if y.2.st = .up && y.2.anchor = k then (y.2.unacked.map fun g => g.body.length).sum else 0).sum
/-- The segment that goes out next (R426): of the sessions whose window has room and whose unit is not in `full`, the one queued first. -/
def State.gctNext (s : State) (full : List Nat) : Option (Nat × GSeg) :=
  (s.sessions.filterMap fun y =>
    match y.2.queue with
    | [] => none
    | g :: _ =>
      if y.2.st == .up && decide (y.2.unacked.length < min y.2.window 256) && !full.contains y.2.anchor then some (y.1, g) else none).foldl
    (fun m x => match m with | none => some x | some y => if x.2.ord < y.2.ord then some x else some y) none
/-- Segments that wait go out, in the order in which they were queued, while the retention buffer of their unit has room (R426). `n` bounds
them, `full` the units whose buffer is full. -/
def State.gctPumpAll (s : State) (full : List Nat) : Nat → State
  | 0 => s
  | n + 1 =>
    match s.gctNext full with
    | none => s
    | some (i, g) =>
      let x := s.sess i
      if 64 * 2 ^ 20 < s.retained x.anchor + g.body.length then
        let s := s.setSess i { x with queue := { g with held := true } :: x.queue.drop 1 }
        (if g.held then s else s.setEvt (pg .gct x.anchor) F.EVT.GCT.RETX_FULL).gctPumpAll (x.anchor :: full) n
      else ((s.setSess i { x with queue := x.queue.drop 1, unacked := x.unacked ++ [{ g with t0 := s.now }] }).gctOut i g).gctPumpAll full n
/-- Segments that wait go out on every session; events raised while a message was queued are set (R435). -/
def State.gctPump (s : State) : State :=
  let late := s.late
  let s := forEach late (fun x s => s.setEvt x.1 x.2) { s with late := [] }
  s.gctPumpAll [] ((s.sessions.map fun x => x.2.queue.length).sum + 2)
/-- Segments go out again (R427, R428): `fast` says that SACK asks for it. What no port can carry is not sent, and its timer starts again. -/
def State.gctAgain (s : State) (i : Nat) (gs : List GSeg) (fast : Bool) : State :=
  forEach gs (fun g s =>
    let p := s.anchorPg i
    let (sent, s) := s.gctPut i { g with retx := true }
    let x := s.sess i
    let again (y : GSeg) : GSeg := if y.seq = g.seq then { y with retx := y.retx || sent, fast := fast, t0 := s.now } else y
    let s := if x.st == .up then s.setSess i { x with unacked := x.unacked.map again } else s
    if sent then s.bump p F.GCT.RETRANSMITS else s) s
/-- The undoubled retransmission time in µs (R427). -/
def State.rtoBase (s : State) (x : Sess) : Nat := max (s.rd (pg .gct x.anchor) F.GCT.RTO_MIN_US) (x.srtt + 4 * x.rttvar)

/-- The anchor of a session moves to the other network (R428): `dst` is the host's address there. -/
def State.sessMove (s : State) (i dst : Nat) : State :=
  let x := s.sess i
  let k := 1 - x.anchor
  let s := s.setSess i { x with anchor := k, peer := dst, altAddr := x.peer, lastMove := s.now, expiries := 0 }
  let s := s.setSess i { s.sess i with rto := s.rtoBase (s.sess i) }
  let s := (s.bumpSat (pg .gct k) F.GCT.FAILOVERS).setEvt (pg .gct k) F.EVT.GCT.FAILOVER
  (s.gctSettle).gctAgain i (s.sess i).unacked false
/-- A segment's retransmission timer expires (R427, R428); the timer is that of the oldest segment. -/
def State.rtoExpiry (s : State) (i : Nat) : State :=
  let x := s.sess i
  match x.unacked with
  | [] => s
  | g :: _ =>
    if x.st != .up then s else
    let p := pg .gct x.anchor
    let s := s.reach (g.t0 + x.rto * 1000)
    if s.rd p F.GCT.SESSION_RETRIES ≤ x.total + 1 then s.sessTimeout i
    else
      let s := s.setSess i { x with expiries := x.expiries + 1, total := x.total + 1, rto := max x.rto (min (2 * x.rto) (s.rd p F.GCT.RTO_MAX_MS * 1000)) }
      if s.rd p F.GCT.FAILOVER_RETRIES ≤ x.expiries + 1 && x.alt && x.raw.isNone && s.netUp (1 - x.anchor) then s.sessMove i x.altAddr
      else s.gctAgain i [g] false
/-- ACK_DELAY has passed with nothing sent (R426). -/
def State.ackDelay (s : State) (i : Nat) : State :=
  let x := s.sess i
  match x.ackOwed with
  | none => s
  | some t =>
    if x.st != .up then s else
    (s.reach (t + s.rd (pg .gct x.anchor) F.GCT.ACK_DELAY_US * 1000)).gctOut i ⟨x.tx, 6, 0, 0, 0, 1, [], 0, false, 0, false, false⟩

/-! ### Receiving -/

/-- What a datagram acknowledges (R426, R427): round-trip estimates, the window, and segments to send again: SACK has a segment sent again once
until its timer or a move sends it (DESIGN CHOICE, log entry 191). -/
def State.gctAcked (s : State) (i ack sack window : Nat) : State :=
  let x := s.sess i
  let got (g : GSeg) : Bool := laterThan 32 ack g.seq
  let gone := x.unacked.filter got
  let rest := x.unacked.filter fun g => !got g
  let x := gone.foldl (fun x g =>
    if g.retx then x else
    let r := (s.now - g.t0) / 1000
    if x.srtt = 0 && x.rttvar = 0 then { x with srtt := r, rttvar := r / 2 }
    else { x with rttvar := (3 * x.rttvar + (max x.srtt r - min x.srtt r)) / 4, srtt := (7 * x.srtt + r) / 8 }) x
  let x := if gone.isEmpty then x else { x with expiries := 0, total := 0 }
  let s := s.setSess i { x with unacked := rest, window := min window 256 }
  let s := if gone.isEmpty then s else s.setSess i { s.sess i with rto := s.rtoBase (s.sess i) }
  let seen (g : GSeg) : Bool := let k := (g.seq + 2 ^ 33 - ack - 1) % 2 ^ 32; decide (k < 32) && sack / 2 ^ k % 2 == 1
  let lost (g : GSeg) : Bool := !g.fast && !seen g && decide (3 ≤ (rest.filter fun y => laterThan 32 y.seq g.seq && seen y).length)
  s.gctAgain i (rest.filter lost) true
/-- A datagram of an established session is accepted (R417, R418, R422). -/
def State.gctOk (s : State) (d : Dgram) : Bool :=
  let x := s.sess d.session
  d.whole && d.version == 1 && x.st == .up && x.epoch == d.epoch && d.tagOk && x.from_ d.via
  && decide (x.rxHigh < d.count + 1024) && !x.rxSeen.contains d.count
  && !s.on (gctPg d.via.net) F.COM.ISOLATED
/-- Account for an accepted datagram: TX_COUNT, the idle time, acknowledgements, and a move by arrival (R428) where it lies inside
the window. Datagrams on both networks at one instant move nothing (R429). -/
def State.gctArrive (s : State) (d : Dgram) (inside : Bool) : State :=
  let i := d.session
  let x := s.sess i
  let high := max x.rxHigh d.count
  let s := s.setSess i { x with rxHigh := high, rxSeen := d.count :: x.rxSeen.filter fun c => decide (high < c + 1024), lastValid := s.now }
  let s := s.gctAcked i d.ack d.sack d.window
  let x := s.sess i
  let hold := s.rd (pg .gct x.anchor) F.GCT.FAILOVER_HOLD_US * 1000
  let s := if inside && !d.twin && d.via.net % 2 != x.anchor && x.alt && x.raw.isNone && x.lastMove + hold ≤ s.now && s.netUp d.via.net then
      s.sessMove i d.via.src else s
  if 2 ^ 48 ≤ d.count + 1 then s.sessEnd i else s
/-- ACK_ONLY (R426). -/
def State.ackOnly (s : State) (d : Dgram) : State :=
  s.gctIn d.via d.body.length 16 fun s => if s.gctOk d then s.gctArrive d true else s.gctDrop d.via.net

/-- The largest body of a type that a host may send (R419); none for a type that is not listed for that direction. -/
def bodyMax : Nat → Option Nat
  | 0x05 => some 0 | 0x10 => some 1032 | 0x18 => some 8208 | 0x19 => some 16 | 0x20 => some 264 | 0x28 => some (4 * 2 ^ 20)
  | 0x30 => some 8192 | 0x39 => some (4 * 2 ^ 20 + 64) | 0x40 => some 8192 | 0x48 => some 8
  | _ => none
/-- The permission that a type needs (R419, R424). -/
def permMask : Nat → Nat
  | 0x10 => 3 | 0x18 | 0x19 => 4 | 0x20 => 8 | 0x28 => 16 | 0x30 => 32 | 0x39 => 128 | 0x40 => 256 | 0x48 => 1024 | _ => 0
/-- Why a message is answered with ERR (R419, R420). -/
def State.msgErr (s : State) (m : Msg) : Option Status :=
  match bodyMax m.typ with
  | none => some .badArg
  | some n =>
    if n < m.body.length then some .badArg
    else if permMask m.typ != 0 && Nat.land (s.sess m.session).perm (permMask m.typ) = 0 then some .perm else none
/-- A message that a session has sent is acted on, or answered with ERR (R419). A session that is not established sends nothing. -/
def State.gctMsg (s : State) (m : Msg) (f : State → State) : State :=
  if !s.established m.session then s else
  match s.msgErr m with
  | some st => (s.gctSend m.session 0x0F m.id st.code []).answer st
  | none => f s

/-- The segments of the message that is coming in: those received in order and not yet acted on. -/
def Sess.inOrder (x : Sess) : List GSeg := x.have_.filter fun g => laterThan 32 x.rx g.seq
/-- A segment continues the message that is coming in (R420). -/
def Sess.continues (x : Sess) (g : GSeg) : Bool :=
  match x.inOrder with
  | [] => g.idx == 0
  | h :: t => g.idx == t.length + 1 && g.id == h.id && g.cnt == h.cnt && g.typ == h.typ
/-- Take the segments that are next in SEQ order (R426): the messages that they complete, in order. A segment that disagrees with
its message ends what is taken: the flag says so. Every segment but the last holds 8,192 bytes, and the last of several no more (R420). -/
def State.gctTake (s : State) (i : Nat) : Nat → List Msg → (List Msg × Bool) × State
  | 0, ms => ((ms, false), s)
  | n + 1, ms =>
    let x := s.sess i
    match x.have_.find? fun g => g.seq == x.rx with
    | none => ((ms, false), s)
    | some g =>
      if !x.continues g then ((ms, true), s)
      else
        let parts := x.inOrder ++ [g]
        let x := { x with rx := (x.rx + 1) % 2 ^ 32 }
        if g.idx + 1 = g.cnt then
          let body := parts.flatMap (·.body)
          let whole := parts.zipIdx.all fun (y, k) => y.body.length == 8192 || (k + 1 == g.cnt && (k == 0 || y.body.length ≤ 8192))
          let m : Msg := ⟨i, if whole then g.typ else 0, g.id, g.status, body⟩
          (s.setSess i { x with have_ := x.have_.filter fun y => !(parts.any fun z => z.seq == y.seq) }).gctTake i n (ms ++ [m])
        else (s.setSess i x).gctTake i n ms
/-- A data segment arrives (R418, R426): the messages that it completes, and whether a segment then disagrees with its message. A segment
outside the window that the unit advertises, which its reassembly buffer bounds, is discarded and counted. -/
def State.gctSegment (s : State) (d : Dgram) : (List Msg × Bool) × State :=
  let none_ : List Msg × Bool := ([], false)
  let (ok, s) := s.enetIn d.via.port d.via.guard false d.via.fcs (d.via.bytes d.body.length 16)
  if !ok || !s.viaOk d.via then (none_, s)
  else if !s.gctOk d then (none_, s.gctDrop d.via.net) else
  let i := d.session
  let x := s.sess i
  let off := (d.seq + 2 ^ 32 - x.rx) % 2 ^ 32
  let dup := laterThan 32 x.rx d.seq || x.have_.any fun g => g.seq == d.seq
  if dup then
    let s := s.gctArrive d true
    if !s.established i then (none_, s) else
    (none_, s.setSess i { s.sess i with ackOwed := some ((s.sess i).ackOwed.getD s.now) })
  else if s.windowOf x.anchor ≤ off then (none_, (s.gctArrive d false).gctDrop d.via.net)
  else
    let s := s.gctArrive d true
    if !s.established i then (none_, s) else
    let x := s.sess i
    let g : GSeg := ⟨d.seq, d.typ, d.id, d.status, d.idx, d.cnt, d.body, s.now, false, 0, false, false⟩
    let s := s.setSess i { x with have_ := x.have_ ++ [g], ackOwed := some (x.ackOwed.getD s.now) }
    s.gctTake i (x.have_.length + 1) []

/-! ### The data port -/

/-- What a data-port operation asks for: its address, whether it is the cursor's, and its length. -/
def State.dpArgs (s : State) (m : Msg) : Nat × Nat :=
  (if rqF m.body 7 1 / 128 = 1 then (s.sess m.session).cursor else rqF m.body 0 8 % 2 ^ 45, rqF m.body 8 4)
/-- Check 1 of R432. -/
def dpForm (m : Msg) : Bool :=
  let w := rqF m.body 0 8
  let n := rqF m.body 8 4
  decide (1 ≤ n) && decide (n ≤ 8192) && rqF m.body 12 4 == 0 && w % 2 ^ 63 / 2 ^ 45 == 0 && !(decide (2 ^ 63 ≤ w) && w % 2 ^ 45 != 0)
  && m.body.length == (if m.typ = 0x18 then 16 + n else 16)
/-- The checks of R432, in their order. -/
def State.dpFail (s : State) (m : Msg) : Option Status :=
  let (a, n) := s.dpArgs m
  if !dpForm m then some .badArg
  else if s.recovering then
    (if m.typ != 0x18 then some .illegalState else if 0x1000000 < a + n then some .range else none)
  else match s.rangeFail a n with
    | some st => some st
    | none =>
      if s.on (pg .dport (s.sess m.session).anchor) F.COM.ISOLATED then some .isolated
      else if inScratch a && s.on (pg .tile ((a - 0x4000000000) / 0x8000000)) F.COM.ISOLATED then some .isolated
      else if s.inMeta a n false then some .perm else none
/-- A data-port operation ends (R432, R442). -/
def State.dpEnd (s : State) (m : Msg) (st : Status) (wr rd : Nat) (data : List Byte) : State :=
  let x := s.sess m.session
  let p := pg .dport x.anchor
  let (a, n) := s.dpArgs m
  let s := ((s.bump p F.DPORT.OPS).wr p F.DPORT.LAST_STATUS st.code)
  let s := if st = .ok then
      ((s.setSess m.session { x with cursor := a + n }).bump p F.DPORT.BYTES_WRITTEN wr).bump p F.DPORT.BYTES_READ rd
    else (s.bumpSat p F.DPORT.ERRORS).setEvt p F.EVT.DPORT.DP_ERROR
  (s.gctSend m.session (if m.typ = 0x18 then 0x1B else 0x1A) m.id st.code (padTo 16 m.body ++ data)).answer st
/-- A write covers part of a poisoned scratch word (R432). -/
def State.dpPartial (s : State) (a n : Nat) : Bool :=
  inScratch a && ((a % 32 != 0 && s.isPoison (pword a)) || ((a + n) % 32 != 0 && s.isPoison (pword (a + n))))
/-- DP_WRITE (R432, R433): scratch granules that it touches become UNTAGGED (R124). -/
def State.dpWrite (s : State) (m : Msg) (es : List MemErr) : State :=
  let (a, n) := s.dpArgs m
  match s.dpFail m with
  | some st => s.dpEnd m st 0 0 []
  | none =>
    let data := m.body.drop 16
    if s.recovering then (s.stBytes (recBase + a) data).dpEnd m .ok n 0 []
    else if s.dpPartial a n then s.dpEnd m .poison 0 0 []
    else if inScratch a then
      let pos := (a - 0x4000000000) / 0x8000000
      let off := (a - 0x4000000000) % 0x8000000
      ((s.put a data).granWrite pos off n none).dpEnd m .ok n 0 []
    else
      let (st, s) := s.memWrite a data 12 es
      s.dpEnd m st n 0 []
/-- DP_READ (R432, R433). -/
def State.dpRead (s : State) (m : Msg) (es : List MemErr) : State :=
  let (a, n) := s.dpArgs m
  match s.dpFail m with
  | some st => s.dpEnd m st 0 0 []
  | none => let (st, bs, s) := s.memRead a n 12 es; s.dpEnd m st 0 n bs

/-- The data port that serves an operation. -/
def State.dpPg (s : State) (m : Msg) : Nat := pg .dport (s.sess m.session).anchor
/-- A data-port operation must wait: one that comes to a data port that takes no work (R55), a write for a granule that a running command reads (R124), and any operation behind one of its session
that waits (R433). -/
def State.dpWaits (s : State) (m : Msg) : Bool :=
  let (a, n) := s.dpArgs m
  !s.takesWork (s.dpPg m)
  || (s.seqWait.any fun x => (x.typ == 0x18 || x.typ == 0x19) && x.session == m.session)
  || (m.typ == 0x18 && !s.recovering && (s.dpFail m).isNone && inScratch a && s.writeWaits ((a - 0x4000000000) / 0x8000000) ((a - 0x4000000000) % 0x8000000) n)
/-- A data-port operation arrives: DP_WRITE or DP_READ. -/
def State.dpOp (s : State) (m : Msg) (es : List MemErr) : State :=
  if s.dpWaits m then { s with seqWait := s.seqWait ++ [m] }
  else if m.typ = 0x18 then s.dpWrite m es else s.dpRead m es
/-- Data-port operations that waited go on, those of a session in their order (R124, R433). `n` bounds them. -/
def State.dpPump (s : State) : Nat → State
  | 0 => s
  | n + 1 =>
    let dp (m : Msg) : Bool := m.typ == 0x18 || m.typ == 0x19
    match s.seqWait.find? fun m => dp m && (s.seqWait.find? fun x => dp x && x.session == m.session) == some m
        && !({ s with seqWait := [] } : State).dpWaits m with
    | none => s
    | some m => (if m.typ = 0x18 then ({ s with seqWait := s.seqWait.erase m } : State).dpWrite m [] else ({ s with seqWait := s.seqWait.erase m } : State).dpRead m []).dpPump n

/-! ### Subscriptions -/

/-- EVT_SUB (R434). -/
def State.evtSub (s : State) (m : Msg) : State :=
  let b := m.body
  let n := rqF b 0 2
  let un := rqF b 2 1 == 1
  let ps := (List.range n).map fun k => rqF b (8 + 4 * k) 4
  let done (st : Status) (k : Nat) (s : State) : State := (s.gctSend m.session 0x21 m.id st.code (leBytes 8 k)).answer st
  if n < 1 || 64 < n || b.length != 8 + 4 * n || 2 ≤ rqF b 2 1 || rqF b 3 5 != 0 then done .badArg 0 s
  else if ps.any fun p => (unitOf p).isNone then done .range 0 s
  else
    let mine := s.subs.filter fun x => x.1 == m.session
    let fresh := ps.eraseDups.filter fun p => !mine.contains (m.session, p)
    let held := ps.eraseDups.filter fun p => mine.contains (m.session, p)
    if un then done .ok held.length { s with subs := s.subs.filter fun x => !(x.1 == m.session && held.contains x.2) }
    else if 4096 < mine.length + fresh.length || 65536 < s.subs.length + fresh.length then done .noSpace 0 s
    else done .ok fresh.length { s with subs := s.subs ++ fresh.map fun p => (m.session, p) }

/-! ### Actions of the GCT and ENET pages -/

/-- SESS_CTRL is written (R428, R441, R546): `v` is the word. -/
def State.sessCtrl (s : State) (v : Word) : State :=
  let i := s.rd (pg .gct 0) F.GCT.SESS_INDEX
  let x := s.sess i
  let done (st : Status) (s : State) : State := (s.wr (pg .gct 0) F.GCT.CTRL_STATUS st.code).answer st
  if v.getLsbD 0 && v.getLsbD 1 then done .badArg s
  else if !(v.getLsbD 0 || v.getLsbD 1) then s
  else if x.st != .up then done .illegalState s
  else if v.getLsbD 0 then done .ok (s.sessEnd i)
  else if !x.alt || !s.netUp (1 - x.anchor) then done .illegalState s
  else done .ok (s.sessMove i x.altAddr)
/-- An Ethernet port goes up or down (R415, R443): speed 0 down, 1 100 Gb/s, 2 200 Gb/s. Fallback needs FALLBACK_EN, only KR1 and CR1
have one, and only auto-negotiation shows what the partner offers (DEDUCED, log entry 131). -/
def State.enetLink (s : State) (k speed : Nat) : State :=
  let p := pg .enet k
  let was := s.rd p F.ENET.SPEED
  if 8 ≤ k || 3 ≤ speed || speed = was || (speed = 1 && (!s.on p F.ENET.FALLBACK_EN || !s.on p F.ENET.AN_EN || s.rd p F.ENET.MODE = 2)) || s.stored p = .reset || s.stored p = .test then s
  else
    let s := (s.wr p F.ENET.SPEED speed).runIff p (speed != 0)
    let s := if was = 0 then s.setEvt p F.EVT.ENET.LINK_UP else if speed = 0 then s.setEvt p F.EVT.ENET.LINK_DOWN else s
    if speed = 1 then s.setEvt p F.EVT.ENET.FALLBACK else s
/-- LOAD installs the secure association of LOAD_AN and LOAD_RX from the key registers (R425, R443). -/
def State.saLoad (s : State) (k : Nat) : State :=
  let p := pg .enet k
  let be (o n : Nat) : List Byte := (leBytes n (s.reg 0 p o).toNat).reverse
  let key := [0x138, 0x140, 0x148, 0x150].flatMap fun o => be o 8
  let x := if s.on p F.ENET.XPN then be 0x158 4 ++ be 0x168 4 ++ be 0x160 8 else []
  let at_ := 4 * k + 2 * s.rd p F.ENET.LOAD_RX + s.rd p F.ENET.LOAD_AN
  { s with sas := tblInsert at_ ⟨key ++ x, s.on p F.ENET.XPN, 1⟩ (tblErase at_ s.sas) }

end Sys2Proof.Machine
end

