-- ==== Sys2Proof/Machine/Clock.lean ====
section
/-! DEFINITION. TIME: the clock of the package, its sources, and the 1PPS pins (R438, R439, R444, R539). -/

namespace Sys2Proof.Machine

/-- A time moved by a signed amount. -/
def shiftT (d : Int) (t : Nat) : Nat := ((t : Int) + d).toNat

/-- The times of a session. -/
def Sess.shift (d : Int) (x : Sess) : Sess :=
  let g (y : GSeg) : GSeg := { y with t0 := shiftT d y.t0 }
  { x with have_ := x.have_.map g, unacked := x.unacked.map g, queue := x.queue.map g, lastValid := shiftT d x.lastValid,
           lastMove := shiftT d x.lastMove, t0 := shiftT d x.t0, ackOwed := x.ackOwed.map (shiftT d) }
/-- The times of a step sequencer. -/
def StepSt.shift (d : Int) (x : StepSt) : StepSt :=
  let o (y : OpenStep) : OpenStep := { y with openTime := shiftT d y.openTime, since := shiftT d y.since }
  { x with opened := x.opened.map o, slice := x.slice.map (shiftT d), ended := shiftT d x.ended }
/-- The times of the fabric layer. -/
def FabSt.shift (d : Int) (x : FabSt) : FabSt :=
  let r (y : Req) : Req := { y with t0 := shiftT d y.t0 }
  { x with reqs := x.reqs.map r, wait := x.wait.map r, done := x.done.map fun y => { y with req := r y.req },
           held := x.held.map fun y => { y with at_ := shiftT d y.at_ }, stagedAt := x.stagedAt.map fun y => (y.1, shiftT d y.2) }
/-- The times of the supply. -/
def PwrSt.shift (d : Int) (x : PwrSt) : PwrSt :=
  let f (y : Nat × Nat) : Nat × Nat := (y.1, shiftT d y.2)
  let over_ (t : Nat) : Nat := if t = 0 then 0 else shiftT d t
  { x with since := shiftT d x.since, capAt := shiftT d x.capAt, overAt := x.overAt.map over_, released := x.released.map (shiftT d),
           thermAt := x.thermAt.map f, watchAt := x.watchAt.map f, aloneAt := shiftT d x.aloneAt,
           rails := x.rails.map fun y => (y.1, { y.2 with since := shiftT d y.2.since }) }
/-- DEVICE_TIME is set once: every running timer moves with it (R439), that of the heartbeat among them, which LAST_HB_TIME holds. -/
def State.shiftTimes (s : State) (d : Int) : State :=
  let f := shiftT d
  let s := if s.on 0 F.ROOT.HB_ARMED then s.wr 0 F.ROOT.LAST_HB_TIME (f (s.rd 0 F.ROOT.LAST_HB_TIME)) else s
  { s with
    seqs := s.seqs.map fun (k, x) =>
      let r (y : Run) : Run := { y with t0 := f y.t0 }
      (k, { x with run := x.run.map r, stopped := x.stopped.map r })
    links := s.links.map fun (k, x) => (k, { x with stateAt := f x.stateAt, askedAt := f x.askedAt, frameAt := f x.frameAt, ackAt := f x.ackAt })
    fab := s.fab.shift d
    uds := s.uds.map fun (k, x) => (k, { x with flight := x.flight.map fun y => (y.1, y.2.1, f y.2.2) })
    steps := s.steps.map fun (k, x) => (k, x.shift d)
    squalls := s.squalls.map fun (k, x) => (k, { x with jobs := x.jobs.map fun y => { y with t0 := f y.t0 } })
    slots := s.slots.map fun (k, x) => (k, { x with sentAt := f x.sentAt })
    buckets := s.buckets.map fun (k, x) => (k, { x with last := f x.last })
    sessions := s.sessions.map fun (k, x) => (k, x.shift d)
    uaux := s.uaux.map fun (k, x) => (k, { x with trans := x.trans.map f })
    rtu := { s.rtu with ucode := s.rtu.ucode.map fun y => (y.1, f y.2) }
    pw := s.pw.shift d
    pins := { s.pins with ppsAt := s.pins.ppsAt.map f }
    clk := { s.clk with syncA := f s.clk.syncA, syncB := f s.clk.syncB }
    saved := s.saved.map fun x => { x with time := f x.time } }

/-- The page of TIME. -/
def timePg : Nat := pg .time 0
/-- A source delivers the time `t` (R439): the first time sets the clock; later ones slew it, by at most 200 ppm, which adjustment
is open. Source 0 and 1 are the networks' clocks, 2 is 1PPS_IN. -/
def State.deliverTime (s : State) (src t : Nat) : State :=
  if s.rd timePg F.TIME.ACTIVE_SOURCE != src then s else
  let s := if s.on timePg F.TIME.EVER_LOCKED then
      let off : Int := (t : Int) - s.now
      let s := s.wr timePg F.TIME.OFFSET_NS (off % 2 ^ 32).toNat
      let (a, s) := s.free
      let s := s.wr timePg F.TIME.FREQ_ADJ_PPB ((a % 400001 : Int) - 200000 |>.emod (2 ^ 32)).toNat
      if 1000000 < off.natAbs then s.setEvt timePg F.EVT.TIME.OFFSET_HIGH else s
    else
      let s := s.shiftTimes ((t : Int) - s.now)
      (((s.wr timePg F.TIME.DEVICE_TIME t).wr timePg F.TIME.EVER_LOCKED 1).wr timePg F.TIME.OFFSET_NS 0).setEvt timePg F.EVT.TIME.TIME_STEP
  let s := if s.on timePg F.TIME.LOCKED then s else (s.wr timePg F.TIME.LOCKED 1).setEvt timePg F.EVT.TIME.LOCK
  s.runIff timePg true
/-- The best of the masters heard (R438), by the order of their data sets and then of their identities, lower first; 0 where there is none. -/
def bestMaster (xs : List (Nat × Nat)) : Nat :=
  match xs with
  | [] => 0
  | x :: t => (t.foldl (fun m y => if y.1 < m.1 || (y.1 == m.1 && y.2 < m.2) then y else m) x).2
/-- The masters heard on a network, as (data set, identity). -/
def ClkSt.masters (c : ClkSt) (net : Nat) : List (Nat × Nat) := if net = 0 then c.mastersA else c.mastersB
def ClkSt.setMasters (c : ClkSt) (net : Nat) (xs : List (Nat × Nat)) : ClkSt :=
  if net = 0 then { c with mastersA := xs } else { c with mastersB := xs }
/-- The time of the last sync on a network. -/
def ClkSt.setSync (c : ClkSt) (net t : Nat) : ClkSt := if net = 0 then { c with syncA := t } else { c with syncB := t }
/-- A Delay_Req goes to the master of a network (R438): one after every Sync (DESIGN CHOICE, log entry 209). -/
def State.delayReq (s : State) (v : PtpVia) (master : Nat) : State :=
  match s.enetOut (s.frameTo v.port master (if v.transport = 0 then .ip6 319 else if v.transport = 1 then .ip4 319 else .raw)) with
  | (none, s) => s
  | (some f, s) => s.emit (.delayReq f v.transport v.domain)
/-- A PTP message arrives on a network (R438): kind 0 Announce of a master whose data set is `value`, as the best master clock algorithm orders
data sets, lower first (log entry 209); 1 a Sync with its Follow_Up that gives the time `value`; 2 a Delay_Resp that gives the path delay `value`. Another kind,
a message of another master than the best, and one of another port, transport or domain than TIME_CFG selects are ignored. -/
def State.ptpMessage (s : State) (v : PtpVia) (kind master value : Nat) : State :=
  let (ok, s) := s.enetIn v.port v.guard true v.fcs v.bytes
  let net := v.port / 4
  if !ok || v.port % 4 != s.rd timePg (if net = 0 then F.TIME.PORT_A else F.TIME.PORT_B) || v.transport != s.rd timePg F.TIME.TRANSPORT
    || v.domain != s.rd timePg F.TIME.PTP_DOMAIN then s else
  let cur := bestMaster (s.clk.masters net)
  if 2 ≤ net || master = 0 || s.on timePg F.COM.ISOLATED then s
  else match kind with
  | 0 => { s with clk := s.clk.setMasters net ((value, master) :: (s.clk.masters net).filter fun x => x.2 != master) }
  | 1 =>
    if master != cur then s else
    let s := s.deliverTime net value
    ({ s with clk := s.clk.setSync net s.now }).delayReq v master
  | 2 => if master = cur && s.rd timePg F.TIME.ACTIVE_SOURCE == net then s.wr timePg F.TIME.PATH_DELAY_NS value else s
  | _ => s
/-- Sync is lost on the active network (R439): the masters heard there are forgotten (log entry 209), the lock is lost where there was one, and
under AUTO the source moves on; on the network it moves to, SYNC_LOSS_MS runs from then. -/
def State.syncLoss (s : State) (net : Nat) : State :=
  if 2 ≤ net || s.rd timePg F.TIME.ACTIVE_SOURCE != net || s.stored timePg = .reset || s.stored timePg = .test then s else
  let s := s.reach ((if net = 0 then s.clk.syncA else s.clk.syncB) + s.rd timePg F.TIME.SYNC_LOSS_MS * 1000000)
  let s := { s with clk := (s.clk.setMasters net []).setSync net s.now }
  let s := if s.on timePg F.TIME.LOCKED then ((s.wr timePg F.TIME.LOCKED 0).runIff timePg false).setEvt timePg F.EVT.TIME.LOCK_LOST else s
  if s.on timePg F.TIME.AUTO then
    { (s.wr timePg F.TIME.ACTIVE_SOURCE (1 - net)).setEvt timePg F.EVT.TIME.SOURCE_CHANGE with clk := s.clk.setSync (1 - net) s.now } else s
/-- TIME_CFG is written (R444): a new SOURCE becomes the active one. -/
def State.timeCfgWrite (s : State) (v : Word) : State :=
  let was := s.rd timePg F.TIME.SOURCE
  let s := s.setReg 0 timePg 0x108 v
  if bits v 1 0 = was then s
  else { s.wr timePg F.TIME.ACTIVE_SOURCE (bits v 1 0) with clk := if bits v 1 0 < 2 then s.clk.setSync (bits v 1 0) s.now else s.clk }
/-- TOD_ARM (R439, R444). -/
def State.todArm (s : State) : State := { s with clk := { s.clk with armed := true } }
/-- A rising edge of PPS_IN (R439, R539): the first after TOD_ARM takes TOD_SET; another marks a whole second once the time is set. -/
def State.ppsIn (s : State) : State :=
  let near := match s.pins.ppsAt with | some t => decide (s.now < t + 100) | none => false
  if near then s else
  let t := s.now
  let s := { s with pins := { s.pins with ppsAt := some t } }
  if s.clk.armed && s.rd timePg F.TIME.ACTIVE_SOURCE = 2 then
    ({ s with clk := { s.clk with armed := false } }).deliverTime 2 (s.rd timePg F.TIME.TOD_SET)
  else if s.on timePg F.TIME.EVER_LOCKED then s.deliverTime 2 ((t + 500000000) / 1000000000 * 1000000000) else s
/-- DEVICE_TIME reaches a whole second, and PPS_OUT rises (R439, R539). -/
def State.ppsOut (s : State) : State :=
  if !s.on timePg F.TIME.PPS_OUT_EN then s else
  let s := s.reach ((s.now + 999999999) / 1000000000 * 1000000000)
  { s with pins := { s.pins with ppsHigh := true } }
/-- PPS_OUT falls after 1 ms, and is low while it is disabled (R539). -/
def State.ppsSettle (s : State) : State :=
  if s.pins.ppsHigh && (!s.on timePg F.TIME.PPS_OUT_EN || 1000000 ≤ s.now % 1000000000) then
    { s with pins := { s.pins with ppsHigh := false } } else s

end Sys2Proof.Machine
end

