-- ==== Sys2Proof/Machine/Retire.lean ====
section
/-! DEFINITION. The sequencer's start and completion of commands (R90, R92, R117, R120), tile errors and their kill (R110, R111),
targeted self-tests (R68, R454 to R456), and the retirement and substitution of a tile (R28, R76, R112). -/

namespace Sys2Proof.Machine

/-! ### Tile errors -/

/-- A test of an uncorrectable error is due on a unit (R454); above the limit of R455 the error is classed lasting without one. A test
that is due already goes first, and one that awaits idle slots follows (R111, R456). -/
def State.testDue (s : State) (p code loc : Nat) (prior : UState) : State :=
  let x := s.ua p
  if x.test = 1 || x.test = 3 then s.testMore p code loc else
  let more := if x.test = 0 && x.code != 0 then x.more ++ [(x.code, x.loc)] else x.more
  let s' := s.setUa p { x with prior := prior, test := if s.tooTransient p then 3 else 1, code := code, loc := loc, more := more,
                               passed := x.passed && !s.tooTransient p }
  if s.tooTransient p then s'.setEvt (pg .boot 0) F.EVT.BOOT.TRANSIENT_LIMIT else s'
/-- The outermost gang of a tile is held for the test of a member (R58, R111): it stays HALTED, and for an error (`kill`) every command in
its queues is killed (R94). -/
def State.holdGang (s : State) (o : Nat) (kill : Bool) : State :=
  let t := s.setUa o { s.ua o with busy := true }
  match s.stored o with
  | .idle => t.enter o .halted
  | .halted => if kill then t.tileKill o none .halted else t
  | .killing => let t := t.tileKill o none .halted; t.setSq o { t.sq o with next := .halted }
  | .running | .draining => t.tileKill o none .halted
  | _ => s

/-! ### Retirement -/

/-- The reserve that replaces a failed tile (R28): on the same die, in the same island first; which of several is open (log entry
12). -/
def State.pickReserve (s : State) (pos : Nat) : Option Nat × State :=
  let free := (List.range 144).filterMap fun k =>
    let q := pos / 144 * 144 + k
    if q != pos && s.on (pg .tile q) F.TILE.RESERVE && s.stored (pg .tile q) == .offline && !absentUnit s.cfg .tile q then some q else none
  let near := free.filter fun q => q / 12 == pos / 12
  let l := if near.isEmpty then free else near
  if l.isEmpty then (none, s) else let (q, s) := s.pick pos l; (some q, s)
/-- The queues of a gang are disabled, with zero indices (R112 step 4). -/
def State.stopQueues (s : State) (p : Nat) : State :=
  forEach [0, 1, 2, 3] (fun q s => (s.wr p (qf F.TILE.Q_ENABLE q) 0).zeroIdx p q) s
/-- A gang that was held for the test of a member returns to IDLE (R58, R76, R111), once no member is in test. A gang that software
halted stays HALTED. -/
def State.gangGoOn (s : State) (o : Nat) : State :=
  let x := s.ua o
  if typeOf o != .gang || !x.busy || s.stored o != .halted || s.on o F.GANG.MEMBER_LOST || (s.leaves o).any (fun k => s.stored (pg .tile k) == .test)
  then s
  else ((s.setUa o { x with busy := false }).enter o .idle).settle o
/-- Of these gangs, one under test leaves TEST when its last leaf has finished, and RESULT says whether every leaf passed (R544). -/
def State.gangTestEnd (s : State) (above : List Nat) (pass : Bool) : State :=
  forEach above (fun q s =>
    let x := s.ua q
    if x.test != 2 then s else
    let x := if pass then x else { x with code := 1 }
    let s := s.setUa q x
    if (s.leaves q).any (fun k => s.stored (pg .tile k) == .test) then s else
    let s := s.setUa q { x with test := 0, code := 0 }
    let s := ((s.wr q F.COM.RESULT (if x.code = 0 then 0 else Status.checkFail.code)).wr q F.COM.BUSY 0).setEvt q F.EVT.COM.TEST_DONE
    let s := if s.stored q = .test then s.enter q x.prior else s
    if s.on q F.COM.BOUND then s.gangGoOn (s.outer q) else s) s
/-- A gang that has lost a member with no reserve comes to HALTED (R58, R76): at once, or, where it is under test itself (R544) or its kill
still runs, when that ends. -/
def State.gangLost (s : State) (q : Nat) : State :=
  match s.stored q with
  | .test => s.setUa q { s.ua q with prior := .halted }
  | .killing => s.setSq q { s.sq q with next := .halted }
  | .reset => s
  | _ => s.enter q .halted
/-- A tile is retired (R76, R112): a reserve takes its place at one instant; with none, its gangs are HALTED with MEMBER_LOST, or
the map entries that name it are cleared (R250). -/
def State.retireTile (s : State) (pos : Nat) : State :=
  let f := pg .tile pos
  let above := s.gangsAbove f
  let inner := above.head?
  let o := s.outer f
  let ledBy := (s.gangsAbove f).filter fun q => s.lead q == pos
  let g? := s.groupOf f
  let sg := s.rd f F.TILE.SERVES_TGROUP
  let (r?, s) := s.pickReserve pos
  let s := s.setUa f { s.ua f with test := 0, code := 0, loc := 0, more := [] }
  let s := ((((s.enter f .offline).wr f F.TILE.RESERVE 0).wr f F.TILE.SERVES_VALID 0).wr f F.TILE.SERVES_TGROUP 0).wr f F.TILE.STEP_OPEN 0
  let s := (s.wr f F.COM.BUSY 0)
  let s := match r? with
    | some k =>
      let r := pg .tile k
      let s := (s.wr f F.TILE.SUBST_PEER r).setTl k { s.tl k with regions := (s.tl pos).regions, gran := [] }
      let s := ((((s.wr r F.TILE.RESERVE 0).wr r F.TILE.SUBSTITUTE 1).wr r F.TILE.SUBST_PEER f).wr r F.TILE.SERVES_VALID (if g?.isSome then 1 else 0)).wr
        r F.TILE.SERVES_TGROUP sg
      let s := match inner with
        | some q =>
          let s := forEach (List.range 32) (fun m s => if s.rd q (F.GANG.MEMBER.el m) == f then s.wr q (F.GANG.MEMBER.el m) r else s) s
          let s := ((s.wr r F.COM.BOUND 1).wr r F.COM.BOUND_TO q).wr f F.COM.BOUND 0
          (s.wr f F.COM.BOUND_TO 0).setEvt q F.EVT.TILE.SUBST_IN
        | none => s.mapRetired f (some r)
      let s := ((match g? with | some g => s.microTile g k | none => s).enter r .idle).setEvt r F.EVT.TILE.SUBST_IN
      (forEach ledBy (fun q s => s.stopQueues q) s).gangGoOn o
    | none =>
      match inner with
      | some _ => forEach (s.gangsAbove f) (fun q s => ((s.wr q F.GANG.MEMBER_LOST 1).gangLost q).setEvt q F.EVT.TILE.MEMBER_LOST) s
      | none => s.mapRetired f none
  let s := s.gangTestEnd above false
  let s := match g? with | some g => s.countActive g | none => s
  s.showHeld
/-- A tile is to be retired: at once, or, with a step open on its group, once the kill of that step is complete (R112, R270). -/
def State.retireSoon (s : State) (pos : Nat) : State :=
  let p := pg .tile pos
  match s.groupOf p with
  | none => s.retireTile pos
  | some g =>
    if (s.openOf g).isNone then s.retireTile pos
    else
      let s := s.stepKill g .wait
      let held := match s.openOf g with | some o => o.cause.isNone | none => false
      if s.killsDone g || held then s.retireTile pos else s.setUa p { s.ua p with test := 4 }
/-- Retirements that waited for the kill of a group's step (R112). -/
def State.retirePending (s : State) (g : Nat) : State :=
  if !s.killsDone g then s else
  forEach ((s.servers g).filter fun k => (s.ua (pg .tile k)).test == 4) (fun k s => s.retireTile k) s
/-- TYPE_CTRL.RETIRE (R104). -/
def State.tileRetire (s : State) (p : Nat) : State :=
  if typeOf p = .gang then s.answer .badArg
  else
    let st := s.ust p
    if st = .idle || st = .halted then s.retireSoon (instOf p) else s.answer .illegalState

/-! ### Self-tests -/

/-- A unit has the SELFTEST routine and may run it in its present state (R68, R363). -/
def State.selftestStart (s : State) (p : Nat) : State :=
  let st := s.ust p
  if !capSelftest (typeOf p) then s.answer .badArg
  else if !(st == .idle || st == .offline || (st == .halted && typeOf p != .flink)) || (s.ua p).test != 0 then s.answer .illegalState
  else
    let s := s.setUa p { s.ua p with test := 2, prior := s.stored p }
    let s := if s.on p F.COM.BOUND then s.holdGang (s.outer p) false else s
    let s := if typeOf p = .gang then
        forEach (s.leaves p) (fun k s =>
          let q := pg .tile k
          if s.stored q == .test || s.stored q == .reset then s
          else ((s.setUa q { s.ua q with test := 2, prior := s.stored q }).wr q F.COM.BUSY 1).enter q .test) s
      else s
    (s.wr p F.COM.BUSY 1).enter p .test
/-- A tile row is remapped to a spare (R111): it reads as poisoned until it is written, where its contents were lost. -/
def State.remapRow (s : State) (pos row : Nat) (lost : Bool) : State :=
  let p := pg .tile pos
  let s := (s.dec p F.TILE.SPARE_ROWS_LEFT).setTl pos { s.tl pos with remapped := (s.tl pos).remapped ++ [row] }
  let s := if lost then s.markRange (scr pos (row * 0x2000)) 0x2000 true else s
  s.setEvt p F.EVT.TILE.SPARE_ROW_USED
/-- The test of an error of a tile runs in idle slots, and leaves its state unchanged (R111). -/
def idleTest (p code : Nat) : Bool := typeOf p == .tile && (code == 1 || code == 8)
/-- A test has ended: the next one follows (R456), in TEST, or in idle slots once the unit has left TEST for its prior state (R58); the
gangs of a tile go on. -/
def State.testLeave (s : State) (p : Nat) : State :=
  let x := s.ua p
  match x.more.find? fun m => !idleTest p m.1 with
  | some (c, l) => (s.setUa p { x with test := 1, code := c, loc := l, more := x.more.erase (c, l) }).wr p F.COM.BUSY 1
  | none =>
    let s := match x.more with
      | (c, l) :: rest => s.setUa p { x with test := 0, code := c, loc := l, more := rest }
      | [] => s.setUa p { x with test := 0, code := 0, loc := 0 }
    let s := if s.stored p = .test then s.enter p x.prior else s
    let s := if typeOf p = .flink then s.flUnit (instOf p) else s
    if s.on p F.COM.BOUND then s.gangGoOn (s.outer p) else s
/-- What a failed test retires (R111, R363, R454): a row, a mesh link, the lanes of a link in `detail`, or the unit. -/
def State.testFailed (s : State) (p detail : Nat) : State :=
  let x := s.ua p
  match typeOf p with
  | .tile =>
    let pos := instOf p
    if (x.code = 1 || x.code = 2) && s.rd p F.TILE.SPARE_ROWS_LEFT != 0 then (s.remapRow pos (rowOfWord x.loc) (x.code == 2)).testLeave p
    else if x.code = 8 then s.testLeave p
    else s.retireSoon pos
  | .flink =>
    (forEach (laneBits detail) (fun k s => s.laneWr (instOf p) k F.FLINK.LANE_STATE 3)
      (s.wr p F.FLINK.FAILED (s.rd p F.FLINK.FAILED ||| detail % 512))).testLeave p
  | _ => (s.setUa p { x with test := 0, code := 0, loc := 0 }).enter p .offline
/-- A targeted self-test ends (R68, R454). A test that runs in idle slots leaves the state unchanged (R111). -/
def State.selftestEnd (s : State) (p : Nat) (pass : Bool) (detail : Nat) : State :=
  let x := s.ua p
  let idleSlot := idleTest p x.code && x.test == 0
  if !(s.stored p == .test || idleSlot) then s else
  let s := ((s.wr p F.COM.RESULT (if pass then 0 else Status.checkFail.code)).wr p F.COM.BUSY 0).setEvt p F.EVT.COM.TEST_DONE
  if pass then
    let s := if x.code != 0 || x.test = 1 then
        let ts := s.now :: x.trans.filter fun t => decide (s.now < t + 3600000000000)
        let n := s.rd (pg .boot 0) F.BOOT.TRANSIENT_LIMIT
        (s.bumpSat p F.COM.TRANSIENT_COUNT).setUa p { x with trans := ts, passed := x.passed || (n != 0 && decide (n < ts.length)) } else s
    let s := if typeOf p = .tile && x.code = 8 then
        s.setTl (instOf p) { s.tl (instOf p) with meshFailed := (s.tl (instOf p)).meshFailed.filter (· != x.loc) } else s
    s.testLeave p
  else
    let s := s.bumpSat p F.COM.LASTING_COUNT
    let s := if s.on p F.COM.ERR_VALID then s.wr p F.COM.ERR_LASTING 1 else s
    s.testFailed p detail
/-- A corrected error that R455 makes lasting is so at once (R111): its row or its link is retired. -/
def State.lastingIdle (s : State) (p : Nat) : State :=
  let x := s.ua p
  if x.test != 3 || !idleTest p x.code then s
  else
    let s := (s.bumpSat p F.COM.LASTING_COUNT).setEvt (pg .boot 0) F.EVT.BOOT.TRANSIENT_LIMIT
    (if s.on p F.COM.ERR_VALID then s.wr p F.COM.ERR_LASTING 1 else s).testFailed p 0
/-- The test of a unit ends, and with it that of a gang whose last leaf it is. -/
def State.testEnd (s : State) (p : Nat) (pass : Bool) (detail : Nat) : State :=
  let above := s.gangsAbove p
  let s := s.selftestEnd p pass detail
  s.gangTestEnd above pass
/-- SELFTEST_DONE. For a gang it stands for the ends of its leaves' tests. -/
def State.selftestDone (s : State) (p : Nat) (pass : Bool) (detail : Nat) : State :=
  if absentPg s.cfg p then s
  else if typeOf p = .gang then
    if (s.ua p).test != 2 then s else
    if (s.leaves p).isEmpty then s.gangTestEnd [p] true else
    forEach ((s.leaves p).map (pg .tile)) (fun q s => if s.stored q == .test then s.testEnd q pass detail else s) s
  else s.testEnd p pass detail

/-- The units whose kill has ended enter the test that awaits them (R95, R111); an error classed lasting without a test retires. -/
def State.testsBegin (s : State) (p : Nat) : State :=
  forEach ((s.leaves p).map (pg .tile)) (fun t s =>
    let x := s.ua t
    if x.test = 1 && s.stored t != .test then (s.wr t F.COM.BUSY 1).enter t .test
    else if x.test = 3 then
      let s := s.bumpSat t F.COM.LASTING_COUNT
      let s := if s.on t F.COM.ERR_VALID then s.wr t F.COM.ERR_LASTING 1 else s
      s.testFailed t 0
    else s) s

/-- An uncorrectable error of a critical structure is counted (R453). -/
def State.critCount (s : State) : State := (s.bumpSat (pg .boot 0) F.BOOT.CRIT_ERRORS).setEvt (pg .boot 0) F.EVT.BOOT.CRIT_ERROR
/-- An uncorrectable error in a tile structure (R111): it is captured, every command of the tile and of the gangs it is in is killed (R94,
R95), the open step of its group is killed (R266, R270), and the tile is to be tested. Scratch errors mark their word (R110); the others are
errors of critical structures, which BOOT counts (R453). -/
def State.tileErr (s : State) (pos code loc : Nat) : State :=
  let p := pg .tile pos
  if absentPg s.cfg p then s else
  let s := if code = 2 then (s.markRange (scr pos (loc / 32 * 32)) 32 true).bumpSat p F.TILE.UNCORR_COUNT else s
  let s := (s.capture p code .poison loc).setEvt p F.EVT.COM.ERR_UNCORR
  let s := if 3 ≤ code && code ≤ 6 then s.critCount else s
  let o := s.outer p
  let s : State := match s.stored p with
    | .reset => s
    | .test => s.testMore p code loc
    | .offline => (s.testDue p code loc .offline).testsBegin p
    | st =>
      let s : State := s.testDue p code loc .idle
      let s : State := if o != p then s.holdGang o true else if st = .idle then s else s.tileKill p none .idle
      if s.stored o = .killing then s else s.testsBegin p
  match s.groupOf p with | some g => s.stepKill g .wait | none => s

/-! ### The sequencer -/

/-- KILL_COMPLETE (R94): the kill of a tile or gang ends. -/
def State.killComplete (s : State) (p : Nat) : State :=
  if (s.sq p).scope.isNone then s else (s.killEnd p).testsBegin p
/-- CMD_START (R92, R117): the sequencer takes the head of the queue that comes next. -/
def State.cmdStart (s : State) (p : Nat) : State :=
  if !(typeOf p == .tile || typeOf p == .gang) || !s.mayStart p then s else
  let layers := match s.groupOf p with | some g => s.progLayers g | none => 0
  match s.pickQueue p layers with
  | none => s
  | some q =>
    match s.take p layers q with
    | none => s
    | some (_, _, .runs _, s) => s
    | some (i, d, .ends x, s) => ((s.writeRecord p q i d 0 x).haltOnError p q x).settle p
    | some (i, _, .poisoned, s) =>
      let r : Run := { eng := 3, q := q, idx := i, d := 0, t0 := s.now, res := some { st := .poison }, waiting := 0, acked := 0, failed := none }
      let off := s.ringBase p q + i % s.ringSize p q * 64
      let off := if s.anyPoison (scr (s.lead p) off) 32 then off else off + 32
      (s.setSq p { s.sq p with run := (s.sq p).run ++ [r] }).tileErr (s.lead p) 0x02 off
/-- CMD_COMPLETE (R92, R120): a command whose work is done gets its record and leaves its engine, and its statistics go to HALO. -/
def State.cmdComplete (s : State) (p q idx : Nat) : State :=
  match (s.sq p).run.find? fun r => r.q == q && r.idx == idx with
  | none => s
  | some r =>
    match r.res with
    | none => s
    | some x => if r.waiting != 0 then s else ((s.retire p r x).haloCollect p r.d x).settle p
/-- NULL (R139). -/
def State.nullWork (s : State) (p : Nat) (r : Run) : State := s.finish p r { st := .ok }
/-- SCRUB (R110, R111): the scrubber's next word is clean (0), corrected (1) or uncorrectable (2). -/
def State.scrubWord (s : State) (pos bad : Nat) : State :=
  let p := pg .tile pos
  let off := (s.tl pos).scrubAt * 32
  let runs := !absentPg s.cfg p && s.on p F.TILE.SCRUB_EN
  let s := (s.scrub pos bad).lastingIdle p
  if runs && 2 ≤ bad then s.tileErr pos 0x02 off else s

end Sys2Proof.Machine
end

