-- ==== Sys2Proof/Machine/TierCmd.lean ====
section
/-! DEFINITION. Actions and events of the memory tiers: relocation of a GDDR7 device (R196, R518, R519), cache flushes (R200),
and the links of the board tier (R202 to R205). -/

namespace Sys2Proof.Machine

/-! ### Relocation -/

/-- The GDDR7 offset of an offset `o` in channel `c` of a GMEM in the channel list (R191). -/
def State.gmemAddr (s : State) (k c o : Nat) : Nat :=
  let l := s.gmList
  let i := l.idxOf k
  (o / 1024 * (4 * l.length) + (4 * i + c)) * 1024 + o % 1024
/-- An address lies in the channels of a GMEM. -/
def State.inGmem (s : State) (k a : Nat) : Bool := decide (a < s.gddrSize) && s.gmemOf a == k
/-- Bytes of the target range of a relocation: 4 × the channel capacity (R196). -/
def State.relocBytes (s : State) : Nat := 4 * s.chanCap
/-- An address lies in a relocation target. -/
def State.inTarget (s : State) (k a : Nat) : Bool :=
  decide ((s.gm k).target ≤ a) && decide (a < (s.gm k).target + s.relocBytes)

/-- The target range meets a range of some POOL (R196). -/
def State.meetsPool (s : State) (a n : Nat) : Bool :=
  (List.range 8).any fun g => (s.pl g).ranges.any fun r => overlap a n (r.1 * 0x200000) (r.2 * 0x200000)

/-- A GMEM copies its contents away or back, and is RUNNING while it does (R58, R196). -/
def State.gmemCopies (s : State) (k : Nat) : Bool := s.rd (pg .gmem k) F.GMEM.RELOC_STATE == 1 || s.rd (pg .gmem k) F.GMEM.RELOC_STATE == 3
def State.gmemRun (s : State) (k : Nat) : State := s.runIff (pg .gmem k) (s.gmemCopies k)
/-- COPY (R196). RELOC_STATUS takes the status of a refusal too (R546). -/
def State.gmemCopy (s : State) (k : Nat) : State :=
  let p := pg .gmem k
  let a := s.rd p F.GMEM.RELOC_BASE * 0x200000
  let no (st : Status) : State := (s.wr p F.GMEM.RELOC_STATUS st.code).answer st
  if absentUnit s.cfg .btier 0 && absentUnit s.cfg .btier 1 then no .absent
  else if !inBoard a then no .range
  else match s.rangeFail a s.relocBytes with
    | some .isolated => no .illegalState
    | some _ => no .range
    | none =>
      if s.rd p F.GMEM.RELOC_STATE != 0 || s.meetsPool a s.relocBytes || !s.takesWork p then no .illegalState
      else ((s.setGm k { s.gm k with target := a }).wr p F.GMEM.RELOC_STATE 1).gmemRun k

/-- RETURN (R196, R518): the device path must be open. -/
def State.gmemReturn (s : State) (k : Nat) : State :=
  let p := pg .gmem k
  if s.rd p F.GMEM.RELOC_STATE != 2 || s.on p F.COM.ISOLATED || !s.takesWork p then
    (s.wr p F.GMEM.RELOC_STATUS Status.illegalState.code).answer .illegalState
  else (s.wr p F.GMEM.RELOC_STATE 3).gmemRun k

/-- A relocation copy passes through the caches, line by line, with class 10 (R197, R198): `out` from the device to the target. -/
def State.copyTouch (s : State) (k : Nat) (out : Bool) : State :=
  let t := (s.gm k).target
  forEach (List.range (s.relocBytes / 256)) (fun i s =>
    let c := i * 256 / s.chanCap
    let o := i * 256 % s.chanCap
    let d := s.gmemAddr k c o
    let a := t + c * s.chanCap + o
    if out then (s.touch d 256 10 false).touch a 256 10 true else (s.touch a 256 10 false).touch d 256 10 true) s
/-- The contents of a GMEM's channels are copied to the target, which held something else before. -/
def State.copyOut (s : State) (k : Nat) : State :=
  let s := s.copyTouch k true
  let t := (s.gm k).target
  let cs := s.mem.filter fun x => s.inGmem k x.1
  let s' := s.keepMem fun a => !(s.inTarget k a)
  let s' := { s' with poison := s'.poison.filter fun x => !(s.inTarget k (x.1 * 32)) }
  forEach cs (fun x s' => let (ch, o) := s.gmemMap x.1; s'.setByte (t + ch % 4 * s.chanCap + o) x.2) s'

/-- The first `n` bytes of each channel are copied back from the target; CXL poison becomes a poison-table entry. -/
def State.copyBack (s : State) (k n : Nat) : State :=
  let s := s.copyTouch k false
  let t := (s.gm k).target
  let at_ (a : Nat) : Nat := s.gmemAddr k ((a - t) / s.chanCap) ((a - t) % s.chanCap)
  let cs := s.mem.filter fun x => s.inTarget k x.1 && decide ((x.1 - t) % s.chanCap < n)
  let bad := s.poison.filter fun x => x.2 && s.inTarget k (x.1 * 32) && decide ((x.1 * 32 - t) % s.chanCap < n)
  let s' := s.keepMem fun a => !(s.inGmem k a && decide ((s.gmemMap a).2 < n))
  let s' := forEach cs (fun x s' => s'.setByte (at_ x.1) x.2) s'
  forEach bad (fun x s' => s'.recordSector (at_ (x.1 * 32) / 256)) s'

/-- A relocation copy has ended, in a state and with a status (R196). -/
def State.relocEnd (s : State) (k st : Nat) (x : Status) : State :=
  let p := pg .gmem k
  (((s.wr p F.GMEM.RELOC_STATE st).wr p F.GMEM.RELOC_STATUS x.code).setEvt p F.EVT.GMEM.RELOC_DONE).gmemRun k
/-- A relocation copy completes (R195, R196); that of a unit that is HALTED waits for RESUME (R55). -/
def State.relocDone (s : State) (k : Nat) : State :=
  let p := pg .gmem k
  if s.stored p = .halted then s else
  match s.rd p F.GMEM.RELOC_STATE with
  | 1 => (s.copyOut k).relocEnd k 2 .ok
  | 3 => (s.copyBack k s.chanCap).relocEnd k 0 .ok
  | _ => s
/-- A kill stops a relocation copy (R59): the contents stay served from where they were. What a copy back had brought back is the same data,
which every write went to as well. -/
def State.relocKill (s : State) (k : Nat) : State :=
  match s.rd (pg .gmem k) F.GMEM.RELOC_STATE with
  | 1 => s.relocEnd k 0 .killed
  | 3 => s.relocEnd k 2 .killed
  | _ => s

/-! ### Cache flushes -/

/-- Every line of a range has its home on a half (R32, R191, R200). A run of granules that covers every channel meets both
halves or, as each further one repeats them, is judged on its first 4 × 20. -/
def State.homesOn (s : State) (half a n : Nat) : Bool :=
  (List.range (min (n / 1024) 80)).all fun i => s.homeHalf (a + i * 1024) == half
/-- MC_FLUSH START (R55, R200, R201, R546): while BUSY, or in a state that takes no work, it is refused before it starts; a range outside the
half's homes, as tile scratch is (R32), ends the flush, once started, with RANGE (log entry 33). -/
def State.mcFlushStart (s : State) (half : Nat) : State :=
  let p := pg .mcache half
  let a := s.rd p F.MCACHE.FLUSH_BASE * 4096
  let n := s.rd p F.MCACHE.FLUSH_SIZE * 4096
  if s.on p F.MCACHE.BUSY || !s.takesWork p then (s.wr p F.MCACHE.STATUS Status.illegalState.code).answer .illegalState
  else
    let bad := match if n = 0 then none else s.rangeFail a n with
      | some .isolated => inScratch a || !s.homesOn half a n
      | some _ => true
      | none => inScratch a || !s.homesOn half a n
    if bad then (s.wr p F.MCACHE.STATUS Status.range.code).setEvt p F.EVT.MCACHE.FLUSH_DONE
    else ((s.setUa p { s.ua p with span := (a, n) }).wr p F.MCACHE.BUSY 1).runIff p true
/-- A flush that had started has ended, with a status (R201). -/
def State.flushEnd (s : State) (half : Nat) (st : Status) : State :=
  let p := pg .mcache half
  (((s.wr p F.MCACHE.BUSY 0).wr p F.MCACHE.STATUS st.code).setEvt p F.EVT.MCACHE.FLUSH_DONE).runIff p false
/-- A kill stops a flush (R59). -/
def State.flushKill (s : State) (half : Nat) : State :=
  if s.on (pg .mcache half) F.MCACHE.BUSY then s.flushEnd half .killed else s
/-- A cache flush ends (R200, R201), over the range that its registers held at START. -/
def State.mcFlushDone (s : State) (half : Nat) : State :=
  let p := pg .mcache half
  if !s.on p F.MCACHE.BUSY || s.stored p = .halted then s else
  (s.dropLines half (s.ua p).span.1 (s.ua p).span.2).flushEnd half .ok
/-- A reset or a closed wrapper ends the flush in progress (R545). -/
def State.mcDrop (s : State) (half : Nat) : State :=
  let p := pg .mcache half
  let s := s.emptyHalf half
  if s.on p F.MCACHE.BUSY then ((s.wr p F.MCACHE.BUSY 0).wr p F.MCACHE.STATUS Status.isolated.code).runIff p false else s

/-! ### The board tier -/

/-- The local offset at which a device of a port begins (R203). -/
def State.btBase (s : State) (k d : Nat) : Nat :=
  0x100000000000 + k * 0x20000000000 + (if s.on (pg .btier k) F.BTIER.BIFURCATED then d * 0x10000000000 else 0)
/-- Bytes of a device's share of its window (R203). -/
def State.btShare (s : State) (k : Nat) : Nat := if s.on (pg .btier k) F.BTIER.BIFURCATED then 0x10000000000 else 0x20000000000
/-- An offset lies in the range of a device. -/
def State.onDev (s : State) (k d a : Nat) : Bool := decide (s.btBase k d ≤ a) && decide (a < s.btBase k d + s.btShare k)

/-- The blocks of a POOL on a device that failed, and the moves to or from it (R204, R208, R214). A RELEASING block stays
RELEASING and would be LOST again after an abort. -/
def State.poolDevLost (s : State) (g k d : Nat) : State :=
  let gone (u : Nat) : Bool := s.onDev k d (u * unitBytes)
  let s := forEach (s.pl g).moves (fun m s =>
    match (s.pl g).blk m.block with
    | some b => if gone b.loc || gone m.dst then s.moveEnd g m.block (gone b.loc) (gone m.dst) else s
    | none => s) s
  let x := s.pl g
  let hit := x.blocks.any fun y => gone y.2.loc && y.2.st != .lost && y.2.prior != .lost
  let lose (b : Block) : Block := if b.st = .releasing then { b with prior := .lost } else { b with st := .lost }
  let bs := x.blocks.map fun (h, b) => (h, if gone b.loc then lose b else b)
  let out (h : Nat) : Bool := match tblFind h bs with | some b => b.st == .lost | none => false
  let s := s.setPl g { x with blocks := bs, active := x.active.map fun r => { r with todo := r.todo.filter fun h => !(out h) } }
  (if hit then s.setEvt (pg .pool g) F.EVT.POOL.BLOCKS_LOST else s).poolKick g 64 |>.poolSettle g

/-- What the loss of a device does to a relocation that uses it (R204): what a RETURNING copy had brought back is open. -/
def State.relocLost (s : State) (k : Nat) : State :=
  let p := pg .gmem k
  let isolated (s : State) : State := ((s.wr p F.GMEM.RELOC_STATE 0).wr p F.GMEM.RELOC_STATUS Status.isolated.code).gmemRun k
  match s.rd p F.GMEM.RELOC_STATE with
  | 1 => isolated s
  | 2 => s.setGm k { s.gm k with dead := true }
  | 3 => let (n, s) := s.free; isolated (s.copyBack k (n % (s.chanCap + 1)))
  | _ => s

/-- The link of a device goes down unplanned (R204). -/
def State.btLinkDown (s : State) (k d : Nat) : State :=
  let p := pg .btier k
  let up := s.rd p F.BTIER.DEV_UP
  if 2 ≤ k || absentPg s.cfg p || 2 ≤ d || up / 2 ^ d % 2 = 0 then s else
  let s := s.wr p F.BTIER.DEV_UP (up - 2 ^ d)
  let s := if up = 2 ^ d then ((s.wr p F.BTIER.SPEED 0).wr p F.BTIER.WIDTH 0).wr p F.BTIER.FLIT256 0 else s
  let s := forEach ((List.range 20).filter fun m => s.rd (pg .gmem m) F.GMEM.RELOC_STATE != 0
      && overlap (s.gm m).target s.relocBytes (s.btBase k d) (s.btShare k))
    (fun m s => s.relocLost m) s
  let s := forEach (List.range 8) (fun g s => s.poolDevLost g k d) s
  s.setEvt p F.EVT.BTIER.LINK_DOWN

/-- The devices of a port begin to train, where the option record enables it (R33, R460). -/
def State.btTrain (s : State) (k : Nat) : State :=
  let p := pg .btier k
  if !s.btEnabled k then s else
  let s := s.busySet (busyKey p 8)
  if s.on p F.BTIER.BIFURCATED then s.busySet (busyKey p 9) else s
/-- RETRAIN (R204, R205). -/
def State.btRetrain (s : State) (k : Nat) : State :=
  if s.rd (pg .btier k) F.BTIER.DEV_UP != 0 then s.answer .illegalState else s.btTrain k
/-- A link that trains comes up, with its device empty unless the package was only warm reset (R202 to R205, R446); `speed` 0 stands for a device that cannot use 256-byte
flit mode, which is left link-down. -/
def State.btLinkUp (s : State) (k d speed width : Nat) : State :=
  let p := pg .btier k
  if 2 ≤ k || absentPg s.cfg p || 2 ≤ d || !s.busy.contains (busyKey p (8 + d)) then s else
  let s := s.busyClear (busyKey p (8 + d))
  if speed % 4 = 0 then s.wr p (F.BTIER.HDM_STATUS.el d) Status.version.code else
  let cap := min (nth 0 s.cfg.cxlCap (2 * k + d)) (s.btShare k / 0x200000)
  let s := if s.busy.contains (busyKey p (10 + d)) then s.busyClear (busyKey p (10 + d))
    else
      let s := (s.keepMem fun a => !(s.onDev k d a))
      { s with poison := s.poison.filter fun x => !(s.onDev k d (x.1 * 32)) }
  let s := ((s.wr p F.BTIER.SPEED speed).wr p F.BTIER.WIDTH width).wr p F.BTIER.FLIT256 1
  let s := (s.wr p (F.BTIER.CAP_2M.el d) cap).wr p (F.BTIER.HDM_STATUS.el d) 0
  let s := (s.wr p F.BTIER.DEV_UP (s.rd p F.BTIER.DEV_UP ||| 2 ^ d)).setEvt p F.EVT.BTIER.LINK_UP
  forEach (List.range 8) (fun g s => (s.poolKick g 64).poolSettle g) s

/-- A device raises an event, and its record is read (R205). -/
def State.cxlEvent (s : State) (k d : Nat) : State :=
  let p := pg .btier k
  if 2 ≤ k || absentPg s.cfg p || 2 ≤ d || s.rd p F.BTIER.DEV_UP / 2 ^ d % 2 = 0 then s
  else (s.bumpSat p F.BTIER.DEV_EVENTS).setEvt p F.EVT.BTIER.DEV_EVENT

end Sys2Proof.Machine
end

