-- ==== Sys2Proof/Machine/UnitCmd.lean ====
section
/-! DEFINITION. The controls that every unit has: HALT, DRAIN, KILL and RESUME (R59, R60, R73, R74), the isolation wrapper and the
reset of one unit (R67, R446, R449 to R452, R545), and the binding of gangs and tile groups (R70 to R75, R97). -/

namespace Sys2Proof.Machine

/-! ### HALT, DRAIN, KILL and RESUME -/

/-- A tile group has a step open, and so is RUNNING (R58). -/
def State.groupBusy (s : State) (g : Nat) : Bool := (s.openOf g).isSome
/-- A unit takes the state that its own condition gives it (R58). -/
def State.rejudge (s : State) (p : Nat) : State :=
  let k := instOf p
  match typeOf p with
  | .tile | .gang => s.settle p
  | .flink => s.flUnit k
  | .enet => s.runIff p (s.rd p F.ENET.SPEED != 0)
  | .gct => s.gctSettle
  | .squall => s.sqSettle k
  | .contrail => s.runIff p (s.on p F.CONTRAIL.ENABLE)
  | .time => s.runIff p (s.on p F.TIME.LOCKED)
  | .updraft => match s.udGroup k with | some g => s.udRun g | none => s
  | .stepseq => s.ssEnter k (if (s.openOf k).isSome then .running else .idle)
  | .tgroup => s.runIff p (s.groupBusy k)
  | .gmem => s.gmemRun k
  | .mcache => s.runIff p (s.on p F.MCACHE.BUSY)
  | .pool => s.runIff p (s.on p F.POOL.APPLY_BUSY)
  | .rtu => s.enter p (match s.rd p F.RTU.RTU_STATE with | 0 => .test | 1 => .idle | 2 => .halted | _ => .offline)
  | .boot => s.enter p (match s.rd p F.BOOT.BOOT_STAGE with | 7 => .idle | 8 => .halted | 9 => .halted | _ => .running)
  | _ => s
/-- The unit's state follows a register of its own (R465, R496). -/
def ownState (p : Nat) : Bool := typeOf p == .rtu || typeOf p == .boot
/-- A gang that is held for a member's test, or has lost a member, does not resume by software (R58, R76). -/
def State.heldGang (s : State) (p : Nat) : Bool :=
  typeOf p == .gang && (s.on p F.GANG.MEMBER_LOST || (s.leaves p).any fun k => s.stored (pg .tile k) == .test)

/-- Accepted work of a unit that runs on after the command that accepted it, and that a DRAIN waits for (R58, R59). -/
def State.accepted (s : State) (p : Nat) : Bool :=
  let k := instOf p
  match typeOf p with
  | .pool => s.on p F.POOL.APPLY_BUSY || !(s.poolWaiting k).isEmpty || !(s.pl k).active.isEmpty || !(s.pl k).moves.isEmpty
  | .updraft => match s.udGroup k with | some g => s.udBusy g k | none => false
  | .squall => !(s.squ k).jobs.isEmpty
  | .halo => !(s.hl k).pendingEval.isEmpty
  | .contrail => k == 0 && (List.range 4096).any fun j => s.ad j F.CONTRAIL.AD_STATE == 1
  | .mcache => s.on p F.MCACHE.BUSY
  | .gmem => s.rd p F.GMEM.RELOC_STATE == 1 || s.rd p F.GMEM.RELOC_STATE == 3
  | .btier => s.busy.contains (busyKey p 8) || s.busy.contains (busyKey p 9)
  | .tgroup => s.groupBusy k
  | .island => (List.range 12).any fun j => let st := s.ust (pg .tile (12 * k + j)); st == .running || st == .draining || st == .killing
  | .gct => s.sessions.any fun x => x.2.anchor == k && !x.2.queue.isEmpty
  | _ => false
/-- The units whose DRAIN ends by itself: those in DRAINING, but for the types whose own rules end it (R95, R278, R410). -/
def State.drainings (s : State) : List Nat :=
  s.regs.filterMap fun (k, v) =>
    let p := k / 4096 % 2 ^ 20
    if k / 2 ^ 32 = 0 && k % 4096 = 0x020 && UState.ofCode (bits v 3 0) == .draining
        && !(typeOf p == .tile || typeOf p == .gang || typeOf p == .stepseq || typeOf p == .partition) then some p else none
/-- Those with no accepted work left. -/
def State.drainEnds (s : State) : List Nat := s.drainings.filter fun p => !s.accepted p
/-- The last accepted work of a unit in DRAINING has ended: it is HALTED, and DRAIN reads 0 (R58, R59). -/
def State.drainSettle (s : State) : State := forEach s.drainEnds (fun p s => (s.wr p F.COM.DRAIN 0).enter p .halted) s

/-- HALT takes effect at a command boundary (R59, R278). -/
def State.unitHalt (s : State) (p : Nat) : State :=
  match s.stored p, typeOf p with
  | .halted, _ => s
  | .running, .tile | .running, .gang => (s.wr p F.COM.HALT 1).settle p
  | _, .stepseq => (s.wr p F.COM.HALT 1).stepSettle (instOf p)
  | _, .partition => (s.wr p F.COM.HALT 1).partSettle (instOf p)
  | _, _ => if ownState p then s else s.enter p .halted
/-- DRAIN lets accepted work finish (R59, R95, R278, R410). -/
def State.unitDrain (s : State) (p : Nat) : State :=
  match s.stored p, typeOf p with
  | .halted, _ | .draining, _ => s
  | _, .tile | _, .gang =>
    let s := s.setSq p { s.sq p with drain := (List.range 4).map fun q => s.rd p (qf F.TILE.TAIL q) }
    ((s.wr p F.COM.DRAIN 1).enter p .draining).settle p
  | _, .stepseq => ((s.wr p F.COM.DRAIN 1).enter p .draining).stepSettle (instOf p)
  | _, .partition => ((s.wr p F.COM.DRAIN 1).enter p .draining).partSettle (instOf p)
  | _, _ => if ownState p then s else ((s.wr p F.COM.DRAIN 1).enter p .draining).drainSettle
/-- The step of a group is killed, and runs again. -/
def State.groupKill (s : State) (g : Nat) : State := s.stepKill g .rerun
/-- The work of a unit other than a tile, a gang or a STEPSEQ is stopped, by KILL or by an error (R58, R59, R454): the open step of a tile
group, the fills and the load of an UPDRAFT, the jobs of a SQUALL, and so on, each as its own kill or abort gives it (log entry 195). -/
def State.stopWork (s : State) (p : Nat) : State :=
  let k := instOf p
  match typeOf p with
  | .tgroup => s.groupKill k
  | .squall => forEach (((s.squ k).jobs.map (·.g)).eraseDups) (fun g s => s.groupKill g) s
  | .updraft =>
    match s.udGroup k with
    | none => s
    | some g =>
      let ls := s.rd p F.UPDRAFT.LOAD_STATE
      let s := if s.leadGroup k = some g && (ls == 1 || ls == 2) then s.loadAbort k else s
      if !((s.ud g).uses.any fun w => w.armed && w.failed.isNone && !w.todo.isEmpty) then s
      else if (s.openOf g).isSome then s.groupKill g else s.udAbandon g
  | .gmem => s.relocKill k
  | .mcache => s.flushKill k
  | .pool => s.poolKill k
  | .contrail => if k = 0 then s.adKill else s
  | .btier => (s.busyClear (busyKey p 8)).busyClear (busyKey p 9)
  | _ => s
/-- KILL stops running commands (R58, R59, R74, R94, R270); an IDLE, OFFLINE or KILLING unit has none. That of a HALTED STEPSEQ runs its open
step again, or, with none, takes it to IDLE. A unit without commands passes through KILLING while its work is stopped. -/
def State.unitKill (s : State) (p : Nat) : State :=
  match s.stored p, typeOf p with
  | .running, .tile | .running, .gang | .draining, .tile | .draining, .gang | .halted, .tile | .halted, .gang => s.tileKill p none .idle
  | .running, .stepseq | .draining, .stepseq => s.stepKill (instOf p) .rerun
  | .halted, .stepseq =>
    if (s.openOf (instOf p)).isSome then s.stepKill (instOf p) .rerun else s.ssEnter (instOf p) .idle
  | .running, _ | .draining, _ | .halted, _ =>
    let s := ((s.wr p F.COM.HALT 0).wr p F.COM.DRAIN 0).enter p .killing
    ((s.stopWork p).enter p .idle).rejudge p
  | _, _ => s
/-- RESUME (R59, R93, R269, R410). -/
def State.unitResume (s : State) (p : Nat) : State :=
  match typeOf p with
  | .stepseq => s.ssResume (instOf p)
  | .tile | .gang => ((s.wr p F.TILE.HALT_BY_ERROR 0).enter p .idle).settle p
  | .updraft =>
    let s := (s.enter p .idle).rejudge p
    match s.leadGroup (instOf p) with
    | some g => if s.rd p F.UPDRAFT.LOAD_STATE = 2 then s.pullMore g 4 else s
    | none => s
  | _ => (s.enter p .idle).rejudge p

/-- Why a write of UNIT_CTRL is refused as a whole (R59, R60, R73, R104). -/
def State.ctrlFail (s : State) (p : Nat) (v : Word) : Option Status :=
  let st := s.stored p
  let b (i : Nat) : Bool := v.getLsbD i
  let isTile := typeOf p == .tile || typeOf p == .gang
  if (b 0 || b 1 || b 2 || b 3) && s.on p F.COM.BOUND then some .illegalState
  else if b 2 && (st == .reset || st == .test) then some .illegalState
  else if !b 2 && b 0 && !(st == .idle || st == .running || st == .halted) then some .illegalState
  else if !b 2 && b 1 && !(st == .idle || st == .running || st == .draining || st == .halted) then some .illegalState
  else if b 3 && (st != .halted || s.heldGang p) then some .illegalState
  else if isTile && b 18 && typeOf p == .gang then some .badArg
  else if isTile && b 18 && !(s.ust p == .idle || s.ust p == .halted) then some .illegalState
  else none
/-- A write of UNIT_CTRL: KILL goes before HALT, and HALT before DRAIN. -/
def State.unitCtrl (s : State) (p : Nat) (v : Word) : State :=
  match s.ctrlFail p v with
  | some st => s.answer st
  | none =>
    let keep := s.reg 0 p 0x018 &&& 3
    let s := s.setReg 0 p 0x018 (keep ||| (v &&& BitVec.ofNat 64 (rwMask (typeOf p) 0x018)))
    let kill := v.getLsbD 2
    let s := if kill then s.unitKill p else if v.getLsbD 0 then s.unitHalt p else if v.getLsbD 1 then s.unitDrain p else s
    let s := if v.getLsbD 3 && !kill then s.unitResume p else s
    if typeOf p = .tile && v.getLsbD 18 then s.tileRetire p else s

/-! ### Gangs -/

/-- The gangs bound in a tile group, in order of binding (R43, R69). -/
def State.gangsOf (s : State) (g : Nat) : List Nat := s.gangOrder.filter fun q => s.rd q F.GANG.TGROUP == g
/-- DEPTH of a page: 0 of a tile. -/
def State.depth (s : State) (m : Nat) : Nat := if typeOf m = .gang then s.rd m F.GANG.DEPTH else 0
/-- The tile count of a page. -/
def State.tiles_ (s : State) (m : Nat) : Nat := if typeOf m = .gang then s.rd m F.GANG.TILE_COUNT else 1
/-- The members that a gang page lists, bound or not. -/
def State.listed (s : State) (p : Nat) : List Nat := (List.range (s.rd p F.GANG.MEMBER_COUNT)).map fun k => s.rd p (F.GANG.MEMBER.el k)
/-- The checks of R72, in their order. -/
def State.bindFail (s : State) (p : Nat) : Option Status :=
  let n := s.rd p F.GANG.MEMBER_COUNT
  let ms := s.listed p
  let split := s.rd p F.GANG.SPLIT
  let isTile (m : Nat) : Bool := match unitOf m with | some (.tile, _) => true | _ => false
  let isGang (m : Nat) : Bool := match unitOf m with | some (.gang, _) => true | _ => false
  let inGroup (m : Nat) : Bool :=
    if isTile m then s.on m F.TILE.SERVES_VALID && s.rd m F.TILE.SERVES_TGROUP == s.rd p F.GANG.TGROUP
    else s.rd m F.GANG.TGROUP == s.rd p F.GANG.TGROUP
  if s.stored p != .offline || s.on p F.GANG.BOUND_OK then some .illegalState
  else if 2 ≤ split || n < 1 || 32 < n || (split = 1 && !([2, 4, 8, 16, 32].contains n)) then some .badArg
  else if !(ms.all fun m => isTile m || isGang m) then some .range
  else if ms.any fun m => absentPg s.cfg m then some .absent
  else if ms.eraseDups.length != ms.length || ms.contains p then some .badArg
  else if !(ms.all fun m => s.stored m == .idle && !s.on m F.COM.BOUND && (isTile m || s.on m F.GANG.BOUND_OK)) then some .illegalState
  else if !(ms.all inGroup) then some .illegalState
  else if !(ms.all fun m => s.tiles_ m == s.tiles_ (ms.headD 0)) then some .badArg
  else if 15 < 1 + (ms.map s.depth).foldl max 0 then some .badArg
  else none
/-- BIND (R45, R72, R97). -/
def State.bindGang (s : State) (p : Nat) : State :=
  match s.bindFail p with
  | some st => (s.wr p F.GANG.BIND_STATUS st.code).answer st
  | none =>
    let ms := s.listed p
    let d := 1 + (ms.map s.depth).foldl max 0
    let n := (ms.map s.tiles_).sum
    let s := (((s.wr p F.GANG.DEPTH d).wr p F.GANG.TILE_COUNT n).wr p F.GANG.BOUND_OK 1).wr p F.GANG.BIND_STATUS 0
    let s := forEach ms (fun m s => (s.wr m F.COM.BOUND 1).wr m F.COM.BOUND_TO p) s
    let rs := (s.tl (s.lead p)).regions
    let s := forEach ((s.leaves p).filter (· != s.lead p)) (fun k s => (s.setRegions k rs).showRegions (pg .tile k) rs) s
    let s := s.showRegions p rs
    ({ s with gangOrder := s.gangOrder ++ [p] }).enter p .idle
/-- Running commands of a tile or gang are stopped and get their KILLED records (R94, R449). -/
def State.closeKill (s : State) (p : Nat) : State :=
  let s := if s.stored p = .killing then s.killComplete p else s
  if s.stored p = .running || s.stored p = .draining then (s.tileKill p none .idle).killComplete p else s
/-- A gang is unbound (R45, R75): its unstarted commands get KILLED records, and its queue registers, members and configuration are
reset. -/
def State.unbindGang (s : State) (p : Nat) : State :=
  let s := s.closeKill p
  let todo := (List.range 4).flatMap fun q => (s.unstarted p q).map fun i => (q, i)
  let s := forEach todo (fun x s => s.writeRecord p x.1 x.2 (s.desc p x.1 x.2) 0 { st := .killed }) s
  let ms := s.members p
  let s := (s.resetQueues p).wr p F.TILE.HALT_BY_ERROR 0
  let s := forEach ms (fun m s =>
    let s := (s.wr m F.COM.BOUND 0).wr m F.COM.BOUND_TO 0
    let st := s.stored m
    if st = .offline || st = .reset || st = .test then s else s.enter m .idle) s
  let s := forEach ([0xE00, 0xE10] ++ (List.range 32).map fun k => 0xF00 + 8 * k) (fun o s => s.setReg 0 p o 0) s
  ({ s with gangOrder := s.gangOrder.filter (· != p) }.setUa p { s.ua p with busy := false }).enter p .offline
/-- BIND and UNBIND of a gang page (R71, R72, R75, R546). -/
def State.gangCtrl (s : State) (p : Nat) (v : Word) : State :=
  let st := s.stored p
  if v.getLsbD 0 && v.getLsbD 1 then (s.wr p F.GANG.BIND_STATUS Status.badArg.code).answer .badArg
  else if v.getLsbD 0 then s.bindGang p
  else if v.getLsbD 1 then
    if !(st == .idle || st == .halted) || s.on p F.COM.BOUND then (s.wr p F.GANG.BIND_STATUS Status.illegalState.code).answer .illegalState
    else s.unbindGang p
  else s

/-! ### Tile groups -/

/-- A write to a tile group's configuration is permitted now (R70). -/
def State.tgFree (s : State) (g : Nat) : Bool :=
  let st := s.stored (pg .tgroup g)
  (st == .idle || st == .offline) && !s.groupBusy g && (s.gangsOf g).isEmpty
/-- A tile is a reserve or a retired one: it is OFFLINE, or will be again when its self-test has passed (R58, R70). -/
def State.spareTile (s : State) (t : Nat) : Bool :=
  s.stored t == .offline || ((s.stored t == .test || s.stored t == .reset) && (s.ua t).prior == .offline && (s.ua t).test != 0)
/-- ISLANDS of a tile group is written (R70, R279). -/
def State.tgIslands (s : State) (g : Nat) (v : Word) : State :=
  let p := pg .tgroup g
  let new := bits v 23 0
  let old := s.rd p F.TGROUP.ISLANDS
  let taken := (List.range 8).any fun h => h != g && Nat.land new (s.rd (pg .tgroup h) F.TGROUP.ISLANDS) != 0
  if !s.tgFree g || taken then s.answer .illegalState
  else
    let s := s.wr p F.TGROUP.ISLANDS new
    let at_ (m k : Nat) : Bool := m / 2 ^ (k / 12) % 2 == 1
    let s := forEach (List.range 288) (fun k s =>
      let t := pg .tile k
      if absentPg s.cfg t || s.spareTile t then s
      else
        let sub := s.on t F.TILE.SUBSTITUTE
        let mine := s.on t F.TILE.SERVES_VALID && s.rd t F.TILE.SERVES_TGROUP == g
        if at_ new k && !at_ old k then
          (if sub && s.on t F.TILE.SERVES_VALID && !mine then s
           else (s.wr t F.TILE.SERVES_VALID 1).wr t F.TILE.SERVES_TGROUP g)
        else if at_ old k && !at_ new k && !sub then s.wr t F.TILE.SERVES_VALID 0
        else if new = 0 && sub && mine then s.wr t F.TILE.SERVES_VALID 0
        else s) s
    let s := s.countActive g
    let q := pg .stepseq g
    if new = 0 then (s.enter p .offline).enter q .offline
    else
      let s := s.enter p .idle
      if s.stored q = .offline then s.enter q .idle else s
/-- PARTITION and PART_VALID of a tile group are written (R70). -/
def State.tgPart (s : State) (g : Nat) (v : Word) : State :=
  if s.tgFree g then s.setReg 0 (pg .tgroup g) 0x108 v else s.answer .illegalState

/-! ### The wrapper -/

/-- What a unit contains or binds (R446, R545). -/
def State.contents (s : State) (p : Nat) : List Nat :=
  let k := instOf p
  match typeOf p with
  | .die => if k < 2 then pgs .island (12 * k) 12 ++ pgs .tile (144 * k) 144 else []
  | .island => pgs .tile (12 * k) 12
  | .tgroup => [pg .stepseq k] ++ s.gangsOf k ++ (s.servers k).map (pg .tile)
  | .gang => (s.tree p).filter (· != p)
  | _ => []
/-- The units inside a unit's wrapper: those that the tree places below it (R43). Binding does not change containment. -/
def State.inside (s : State) (p : Nat) : List Nat :=
  match typeOf p with
  | .die | .island => s.contents p
  | .tgroup => s.gangsOf (instOf p)
  | _ => []
/-- The units whose wrapper a unit lies inside. -/
def State.holders (s : State) (p : Nat) : List Nat :=
  let k := instOf p
  match typeOf p with
  | .tile => [pg .island (k / 12), pg .die (k / 144)]
  | .gang => if s.stored p = .offline then [] else [pg .tgroup (s.rd p F.GANG.TGROUP)]
  | .island => [pg .die (k / 12)]
  | _ => []

/-- The open step of every group whose map names one of these pages, or a unit with one of them as a member, is killed (R270). -/
def State.mapKill (s : State) (ps : List Nat) : State :=
  forEach (List.range 8) (fun g s =>
    if (s.openOf g).isSome && (s.mapPages g).any (fun u => (s.tree u).any ps.contains) then s.stepKill g .wait else s) s
/-- The requests of these units are retired by their wrapper (R449 step 4). A NOTICE is none of them: it is sent until it is acknowledged (R377,
log entry 197). -/
def State.wrapReqs (s : State) (ps : List Nat) : State :=
  let f (r : Req) : Bool := r.pkt.op != 0x07 && (ps.contains r.unit || (r.kind == 0 && ps.contains r.a))
  { s with fab := { s.fab with
      reqs := s.fab.reqs.map fun r => if f r then { r with retired := true, wrapped := true } else r
      wait := s.fab.wait.filter fun r => !(f r)
      done := s.fab.done.filter fun d => !(f d.req) } }
/-- A GCT unit's sessions move to the other network, or end (R429, R450). -/
def State.gctLeave (s : State) (k : Nat) : State :=
  forEach ((s.sessions.filter fun x => x.2.st == .up && x.2.anchor == k).map (·.1)) (fun i s =>
    let x := s.sess i
    if x.alt && s.netUp (1 - k) && !s.on (pg .gct (1 - k)) F.COM.ISOLATED then s.sessMove i x.altAddr else s.sessEnd i) s
/-- What closing the wrapper does to one unit (R449, R450). -/
def State.closeOne (s : State) (p : Nat) : State :=
  let k := instOf p
  match typeOf p with
  | .tile | .gang => if s.on p F.COM.BOUND then s else s.closeKill p
  | .stepseq =>
    let s := if s.stored p = .running || s.stored p = .draining then s.stepKill k .rerun else s
    let mine (m : Msg) : Bool := m.typ == 0x28 && rqF m.body 6 1 % 8 == k
    let ms := s.seqWait.filter mine
    forEach ms (fun m s => s.grantRsp m .isolated) { s with seqWait := s.seqWait.filter fun m => !(mine m) }
  | .tgroup => if (s.openOf k).isSome then s.stepKill k .wait else s
  | .squall => forEach (s.squ k).jobs (fun j s => s.sqFail k j.g j.idx .isolated) s
  | .contrail =>
    let mine (m : Msg) : Bool := slotOf (rqF m.body 4 4) / 4096 == k
    let ms := s.seqWait.filter mine
    forEach ms (fun m s => s.seqRsp m .isolated (rqF m.body 4 4) 0 0) { s with seqWait := s.seqWait.filter fun m => !(mine m) }
  | .dport =>
    let mine (m : Msg) : Bool := (m.typ == 0x18 || m.typ == 0x19) && (s.sess m.session).anchor == k
    let ms := s.seqWait.filter mine
    forEach ms (fun m s => s.dpEnd m .isolated 0 0 []) { s with seqWait := s.seqWait.filter fun m => !(mine m) }
  | .mcache => s.mcDrop k
  | .flink => if s.on p F.FLINK.ENABLE then s.linkFault k 4 else s
  | .gct => s.gctLeave k
  | _ => s
/-- The running work of these units ends, and their requests are retired (R449 steps 1, 3 and 4). -/
def State.stopUnits (s : State) (ps : List Nat) : State :=
  let s := s.mapKill ps
  (forEach ps (fun q s => if s.on q F.COM.ISOLATED then s else s.closeOne q) s).wrapReqs ps
/-- The wrapper of a unit closes (R449), and with it those of the units inside (DEDUCED, log entry 38). -/
def State.closeWrap (s : State) (p : Nat) : State :=
  let ps := p :: s.inside p
  forEach ps (fun q s => s.wr q F.COM.ISOLATED 1) (s.stopUnits ps)
/-- The wrappers of these units open, but for one that its own ISOLATE or a unit around it holds closed, or that is still in RESET. -/
def State.openWraps (s : State) (ps : List Nat) : State :=
  forEach ps (fun q s =>
    if (s.ua q).iso || (s.holders q).any (fun h => (s.ua h).iso) || !s.on q F.COM.ISOLATED
      || s.stored q == .reset then s
    else
      let s := s.wr q F.COM.ISOLATED 0
      if typeOf q = .flink && s.on q F.FLINK.ENABLE && s.stored q != .test then s.flTrain (instOf q)
      else if typeOf q = .tile || typeOf q = .gang then s.settle q else s) s
/-- A POOL block, an image page or a staging page lies in the window of a board-tier port (R450). -/
def State.inWindow (s : State) (k : Nat) : Bool :=
  let lo := 0x100000000000 + k * 0x20000000000
  let here (a : Nat) : Bool := decide (lo ≤ a) && decide (a < lo + 0x20000000000)
  (List.range 8).any fun g =>
    ((s.pl g).blocks.any fun b => here (b.2.loc * unitBytes)) || ((s.pl g).pages.any fun x => here (x.1 * 0x200000))
/-- The wrapper may close (R450). -/
def State.mayClose (s : State) (p : Nat) : Bool :=
  let k := instOf p
  match typeOf p with
  | .gmem => s.rd p F.GMEM.RELOC_STATE == 2
  | .btier => !s.inWindow k
  | .cproc => (List.range 4).any fun j =>
      let q := pg .cproc (k / 4 * 4 + j)
      q != p && (s.stored q == .idle || s.stored q == .running)
  | _ => true

/-! ### The reset of one unit -/

/-- RESET_COUNT advances, and UNIT_CTRL and the type's status return to their reset values (R451). -/
def State.resetMark (s : State) (p : Nat) : State :=
  let s := s.bump p F.COM.RESET_COUNT
  let s := s.setReg 0 p 0x018 (regReset s.cfg (regKey 0 p 0x018))
  s.setReg 0 p 0x020 (s.reg 0 p 0x020 &&& 0xFFFFFFFF)
/-- A test that a reset broke off, by hardware or by software (R456). -/
def UAux.broken (x : UAux) : Bool := x.test == 1 || x.test == 2
/-- The state to which a unit returns when a test that a reset broke off has passed (R57, R58): one that was out of service stays so. -/
def UAux.comesBack (x : UAux) : UState := if x.prior = .offline then .offline else .idle
/-- A test that a reset broke off runs again, before the unit accepts work (R456). -/
def State.testAgain (s : State) (p : Nat) : State :=
  ((s.setUa p { s.ua p with prior := (s.ua p).comesBack }).wr p F.COM.BUSY 1).enter p .test
/-- A unit leaves RESET (R57, R456): a retired or reserve unit stays OFFLINE, and a test that the reset broke off runs again. -/
def State.resetLeave (s : State) (p : Nat) : State :=
  let x := s.ua p
  let st := s.stored p
  if st = .offline then s
  else if x.broken || st = .test then s.testAgain p
  else ((s.setUa p { x with test := 0 }).wr p F.COM.BUSY 0).enter p .idle
/-- A tile position is reset (R95): rings disabled, indices zero, the reset layout of regions, scratch as never written. -/
def State.resetTile (s : State) (pos : Nat) : State :=
  let p := pg .tile pos
  if absentPg s.cfg p then s else
  let s := s.resetMark p
  let rows := s.rd p F.TILE.SPARE_ROWS_LEFT
  let offs := [0x108, 0x110, 0x118, 0x120, 0x128, 0x130, 0x138, 0x140, 0x148, 0x150, 0x158]
  let s := forEach offs (fun o s => s.setReg 0 p o (regReset s.cfg (regKey 0 p o))) s
  let s := (s.wr p F.TILE.SPARE_ROWS_LEFT rows).resetQueues p
  let t := s.tl pos
  let s := s.setTl pos { TileSt.init with remapped := t.remapped, meshFailed := t.meshFailed }
  let lo := scr pos 0
  let here (a : Nat) : Bool := decide (lo ≤ a) && decide (a < lo + 0x8000000)
  let s := s.keepMem fun a => !(here a)
  let s := { s with poison := s.poison.filter fun x => !(here (x.1 * 32)) }
  s.resetLeave p
/-- STEPSEQ forgets what it awaits from a unit that is reset. -/
def State.dropUnit (s : State) (p : Nat) : State := forEach (List.range 8) (fun g s => s.dropCmds g p) s
/-- A gang is reset (R545): its leaves, and the queue registers of every gang of its tree; the binding stays. -/
def State.resetGang (s : State) (p : Nat) : State :=
  let gangs := (s.tree p).filter fun q => typeOf q == .gang
  let s := forEach (s.leaves p) (fun k s => s.resetTile k) s
  (forEach gangs (fun q s =>
    let s := (s.resetMark q).resetQueues q
    let s := forEach [0x120, 0x128, 0x130, 0x138] (fun o s => s.setReg 0 q o (regReset s.cfg (regKey 0 q o))) s
    s.resetLeave q) s).dropUnit p
/-- An island is reset (R545): the gangs with a member tile in it are unbound, from the outermost, and its tiles are reset. -/
def State.resetIsland (s : State) (i : Nat) : State :=
  let hit := s.gangOrder.filter fun q => (s.leaves q).any fun k => k / 12 == i
  let deep := hit.mergeSort fun a b => decide (s.depth b ≤ s.depth a)
  let s := forEach deep (fun q s => (s.unbindGang q).dropUnit q) s
  let s := forEach ((List.range 12).map (12 * i + ·)) (fun k s => (s.resetTile k).dropUnit (pg .tile k)) s
  (s.resetMark (pg .island i)).resetLeave (pg .island i)
/-- A step is killed and aborted with no report (R279, R305). -/
def State.stepDrop (s : State) (g : Nat) : State :=
  if (s.openOf g).isNone then s
  else ((s.stepKill g (.abort .killed)).wr (pg .stepseq g) F.STEPSEQ.HELD_STEP 0).stepAbort g .killed 1 0 false
/-- Reset a unit, its wrapper being closed (R451 steps 2 to 4, R545 and the rules that R446 names). A GMEM or a CPROC stays in RESET until
it has been retrained or restarted, unless it is retired (R57); before GDDR7 enters the self-refresh of a retraining hold, both cache
halves write back every dirty line (R189, R196). -/
def State.resetUnit (s : State) (p : Nat) : State :=
  let k := instOf p
  let zero (os : List Nat) (s : State) : State := forEach os (fun o s => s.setReg 0 p o (regReset s.cfg (regKey 0 p o))) s
  let all (f : State → State) : State :=
    let s := (f (s.resetMark p)).resetLeave p
    if s.stored p = .idle then s.rejudge p else s
  match typeOf p with
  | .tile => ((s.resetTile k).dropUnit p).showHeld
  | .gang => (s.resetGang p).showHeld
  | .island => (s.resetIsland k).showHeld
  | .die => (all fun s => forEach ((List.range 12).map (12 * k + ·)) (fun i s => s.resetIsland i) s).showHeld
  | .tgroup => State.showHeld <| all fun s =>
      let s := (((s.resetMark (pg .stepseq k)).stepseqReset k)).resetLeave (pg .stepseq k)
      let s := forEach ((s.gangsOf k).filter fun q => !s.on q F.COM.BOUND) (fun q s => s.resetGang q) s
      forEach ((s.servers k).filter fun t => !s.on (pg .tile t) F.COM.BOUND) (fun t s => (s.resetTile t).dropUnit (pg .tile t)) s
  | .stepseq => all fun s => s.stepseqReset k
  | .halo => all fun s => s.haloReset k
  | .updraft => (all fun s => s.updraftReset k).rtuSettle
  | .squall => all fun s =>
      (forEach ((List.range 8).filter fun g => s.rd p F.SQUALL.SQ_GROUPS / 2 ^ g % 2 == 1) (fun g s => s.stepDrop g) s).squallReset k
  | .contrail => all fun s => s.contrailReset k
  | .gmem =>
      let used := s.rd p F.GMEM.POISON_USED
      let s := ((zero [0x108, 0x110] (s.resetMark p)).wr p F.GMEM.POISON_USED used)
      if s.stored p = .offline then s else (if s.rd p F.GMEM.RELOC_STATE = 0 then s.cleanAll else s).enter p .reset
  | .btier => all fun s =>
      let s := ((s.wr p F.BTIER.DEV_UP 0).wr p F.BTIER.SPEED 0).wr p F.BTIER.WIDTH 0
      (zero [0x118] (s.wr p F.BTIER.FLIT256 0)).btTrain k
  | .mcache => all fun s => zero [0x1A0] s
  | .enet => all fun s => zero [0x170, 0x178] (s.enetLink k 0)
  | .dport => all fun s => zero [0x100, 0x108, 0x110] s
  | .cproc => let s := s.resetMark p; if s.stored p = .offline then s else s.enter p .reset
  | _ => all fun s => s

/-- The retraining that a UNIT_RESET of a GMEM started has ended (R57, R451, R518, R519): the unit leaves RESET and its wrapper opens, unless
ISOLATE holds it; where the retraining failed, it is OFFLINE with its wrapper as it is. -/
def State.gmemRetrainDone (s : State) (k : Nat) (ok : Bool) : State :=
  let p := pg .gmem k
  if s.stored p != .reset then s else if ok then (s.resetLeave p).openWraps [p] else s.enter p .offline

/-- UNIT_RESET is written (R67, R446, R449 to R452, R518, R519); ROOT's is the warm package reset (Boot.lean). -/
def State.unitReset (s : State) (p : Nat) (v : Word) : State :=
  let rst := v.getLsbD 0
  let iso := v.getLsbD 1
  let rel := v.getLsbD 2
  let x := s.ua p
  let shut := s.on p F.COM.ISOLATED
  let inPlace := typeOf p == .gmem && s.rd p F.GMEM.RELOC_STATE == 0
  if iso && rel then s.answer .badArg
  else if (rst || iso) && !capReset (typeOf p) (instOf p) then s.answer .badArg
  else if (rst || iso) && s.on p F.COM.BOUND then s.answer .illegalState
  else if rel && !rst && s.stored p = .reset then s.answer .illegalState
  else if (rst || iso) && !shut && !(rst && !iso && inPlace) && !s.mayClose p then s.answer .illegalState
  else if rst then
    if inPlace then s.resetUnit p
    else
      let hold := (x.iso || iso) && !rel
      let within := s.contents p
      let s := (if shut then s else s.closeWrap p).stopUnits within
      let s := s.resetUnit p
      let s := forEach within (fun q s => s.setUa q { s.ua q with iso := (s.ua q).iso && hold }) s
      (s.setUa p { s.ua p with iso := hold }).openWraps (p :: within)
  else if iso then
    let s := if shut then s else s.closeWrap p
    s.setUa p { s.ua p with iso := true }
  else if rel then (s.setUa p { x with iso := false }).openWraps (p :: s.inside p)
  else s

end Sys2Proof.Machine
end

