-- ==== Sys2Proof/Machine/Rtu.lean ====
section
/-! DEFINITION. The root of trust: images (R472, R473), security versions (R476 to R478), admission keys (R479, R480), attestation
(R484, R485), live firmware update (R488 to R491), ZEROIZE and DECOMMISSION (R493, R494), and failures (R470). -/

namespace Sys2Proof.Machine


/-! ### Images -/

/-- Bytes of the boot flash; an unprogrammed byte reads 0xFF. -/
def State.flashBytes (s : State) (a n : Nat) : List Byte := (List.range n).map fun i => tblGet (fun _ => 0xFF) s.flash (a + i)
/-- Program bytes of the boot flash. -/
def State.flashPut (s : State) (a : Nat) (bs : List Byte) : State :=
  { s with flash := bs.zipIdx.foldl (fun l x => tblSet (fun _ => 0xFF) l (a + x.2) x.1) s.flash }
/-- Bytes of an image that lies in memory or in the flash. -/
def State.imgAt (s : State) (mem : Bool) (base o n : Nat) : List Byte := if mem then s.memBytes (base + o) n else s.flashBytes (base + o) n
/-- A little-endian field of an image. -/
def State.imgF (s : State) (mem : Bool) (base o n : Nat) : Nat := leNat (s.imgAt mem base o n)
/-- All bytes of a field are zero. -/
def State.imgZero (s : State) (mem : Bool) (base o n : Nat) : Bool := (s.imgAt mem base o n).all (· == 0)
/-- The bytes that the signature of an image covers (R472). -/
def State.imgSigned (s : State) (mem : Bool) (base : Nat) : List Byte := s.imgAt mem base 0 (128 + 64 * s.imgF mem base 6 2)
/-- Check 2 of R473 on one component entry. -/
def State.compOk (s : State) (mem : Bool) (base size e : Nat) : Bool :=
  let o := s.imgF mem base (e + 4) 4
  let ty := s.imgF mem base e 1
  1 ≤ ty && ty ≤ 3 && s.imgZero mem base (e + 1) 3 && o % 64 == 0 && decide (o + s.imgF mem base (e + 8) 4 ≤ size)
  && s.imgZero mem base (e + 12) 4 && s.imgZero mem base (e + 48) 16
/-- The offsets of the component entries. -/
def State.imgEnts (s : State) (mem : Bool) (base : Nat) : List Nat := (List.range (s.imgF mem base 6 2)).map fun k => 128 + 64 * k
/-- Check 2 of R473. -/
def State.imgForm (s : State) (mem : Bool) (base : Nat) : Bool :=
  let n := s.imgF mem base 6 2
  let size := s.imgF mem base 12 4
  let so := s.imgF mem base 56 4
  let tys := (s.imgEnts mem base).map fun e => s.imgF mem base e 1
  1 ≤ n && n ≤ 16 && decide (s.imgF mem base 8 4 ≤ 64) && decide (size ≤ 2 ^ 24) && s.imgF mem base 60 4 == 29792
  && s.imgF mem base 20 1 / 4 == 0 && s.imgZero mem base 22 2 && s.imgZero mem base 64 64
  && so % 64 == 0 && decide (128 + 64 * n ≤ so) && decide (so + 29792 ≤ size)
  && ((s.imgEnts mem base).all fun e => s.compOk mem base size e)
  && tys.count 1 == 1 && tys.count 2 == 1
/-- The components that an image lists (R472). -/
def State.imgComps (s : State) (mem : Bool) (base : Nat) : List FwComp :=
  (s.imgEnts mem base).map fun e => ⟨s.imgF mem base e 1, s.imgF mem base (e + 4) 4, s.imgF mem base (e + 8) 4, s.imgAt mem base (e + 16) 32⟩
/-- Check 6 of R473: the components have the digests that `cs` lists for them. -/
def State.compsOk (s : State) (mem : Bool) (base : Nat) (cs : List FwComp) : Bool :=
  cs.all fun c => c.digest == Config.shake256 (s.imgAt mem base c.off c.len) 32
/-- The digest listed for the component of a type. -/
def compOf (cs : List FwComp) (ty : Nat) : List Byte := match cs.find? fun c => c.ty == ty with | some c => c.digest | none => []
/-- The checks of R473, in their order. A staged image must lie in memory that can be read; one in the staging buffer of RECOVERY
(R463) does. -/
def State.imgVerify (s : State) (mem : Bool) (base : Nat) (buffer : Bool := false) : Status × State :=
  let bad (n : Nat) : Option Status := if !mem || buffer then none else match s.rangeFail base n with
    | some st => some st
    | none => if s.badRead base n then some .poison else none
  let reads (s : State) (n : Nat) : State := if !mem || buffer then s else s.readAll 12 [(base, n)]
  if !s.rtuOn then (.checkFail, s)
  else match bad 128 with
  | some st => (st, reads s 128)
  | none =>
    let s := reads s 128
    if s.imgF mem base 0 4 != 0x494D4746 || s.imgF mem base 4 2 != 1 then (.version, s)
    else match bad (min (s.imgF mem base 12 4) (2 ^ 24)) with
    | some st => (st, reads s (min (s.imgF mem base 12 4) (2 ^ 24)))
    | none =>
      let s := reads s (min (s.imgF mem base 12 4) (2 ^ 24))
      let key := s.imgF mem base 20 1 % 4
      let sig := s.imgAt mem base (s.imgF mem base 56 4) 29792
      if !s.imgForm mem base then (.badArg, s)
      else if !s.slotIs key 1 then (.perm, s)
      else if !Config.slhVerify (s.cfg.keyPk.getD key []) (s.imgSigned mem base) sig then (.checkFail, s.countVerify false)
      else
        let s := s.countVerify true
        if s.imgF mem base 8 4 < s.rtu.fuses.fwSvn then (.version, s.setEvt rtuPg F.EVT.RTU.SIG_FAIL)
        else if !s.compsOk mem base (s.imgComps mem base) then (.checkFail, s.setEvt rtuPg F.EVT.RTU.SIG_FAIL)
        else (.ok, s)
/-- RUN_FW_SVN is the lowest SVN among the CPROCs (R489). -/
def State.showSvn (s : State) : State := s.wr rtuPg F.RTU.RUN_FW_SVN ((s.rtu.run.map (·.2)).foldl min 127)
/-- The image of key slot `key` runs on a CPROC (`k` below 8) or on the tiles of a group (8 + g) (R478). -/
def State.runKey (s : State) (k key : Nat) : State := { s with rtu := { s.rtu with keys := tblInsert k key (tblErase k s.rtu.keys) } }
/-- A CPROC runs the staged firmware component (R482, R483). -/
def State.measureFw (s : State) (k : Nat) : State :=
  let svn := s.rd rtuPg F.RTU.STAGED_SVN
  let s := ({ s with rtu := { s.rtu with run := tblInsert k svn (tblErase k s.rtu.run) } }).runKey k s.rtu.skey
  (s.measure 2 2 (compOf s.rtu.comps 1) (leBytes 4 svn ++ leBytes 1 s.rtu.iface ++ leBytes 1 (2 ^ k))).showSvn

/-! ### Security versions and revocation -/

/-- SVN_CTRL is written (R476 to R478, R546). -/
def State.svnWrite (s : State) (v : Word) : State :=
  let commit := v.getLsbD 9
  let revoke := v.getLsbD 12
  let val := bits v 6 0
  let mf := v.getLsbD 8
  let k := bits v 11 10
  let refuse (st : Status) : State := (s.wr rtuPg F.RTU.SVN_STATUS st.code).answer st
  let stored := s.setReg 0 rtuPg 0x110 (setBits (setBits (setBits (s.reg 0 rtuPg 0x110) 6 0 val) 8 8 (bits v 8 8)) 11 10 k)
  let start (kind x : Nat) : State :=
    ({ stored with rtu := { s.rtu with blow := [(if s.verifying then kind + 8 else kind, x)] } }).wr rtuPg F.RTU.SVN_BUSY 1 |>.rtuSettle
  if !(commit || revoke) then stored
  else if commit && revoke then refuse .badArg
  else if s.on rtuPg F.RTU.SVN_BUSY then refuse .illegalState
  else if commit then
    let inUse := if mf then (List.range 8).any fun g => (s.leadRd g F.UPDRAFT.CURRENT_VALID == 1 && decide ((s.ud g).svn < val)) ||
        (s.leadRd g F.UPDRAFT.TARGET == 1 && (s.leadRd g F.UPDRAFT.LOAD_STATE == 1 || s.leadRd g F.UPDRAFT.LOAD_STATE == 2)
          && decide (s.mfSvn g < val))
      else decide (s.rd rtuPg F.RTU.RUN_FW_SVN < val) || (s.on rtuPg F.RTU.FW_READY && decide (s.rd rtuPg F.RTU.STAGED_SVN < val))
    if 64 < val then refuse .range
    else if val ≤ (if mf then s.rtu.fuses.mfstSvn else s.rtu.fuses.fwSvn) then stored.wr rtuPg F.RTU.SVN_STATUS 0
    else if inUse then refuse .illegalState
    else start (if mf then 1 else 0) val
  else
    let p := s.cfg.purpose / 4 ^ k % 4
    let left := (List.range 4).any fun j => j != k && s.slotIs j p
    if !left || s.rtu.keys.any (fun x => x.2 == k) then refuse .illegalState
    else start 2 k
/-- What the fuses hold once a commit or revocation has ended, or has been broken off (R476, R478): a commit that is broken off leaves
the floor at the positions already blown. One that still waits for a verification (R477) has blown nothing. Where it stands is free (log entry 146). -/
def State.blowEnd (s : State) (ok : Bool) : State :=
  match s.rtu.blow with
  | [] => s
  | (kind, x) :: rest =>
    let f := s.rtu.fuses
    let k := kind % 8
    let (r, s) := s.free
    let floor (old : Nat) : Nat := if ok then x else old + r % (x - old + 1)
    let f' : Fuses := if 8 ≤ kind && s.verifying then f else if k = 0 then { f with fwSvn := floor f.fwSvn }
      else if k = 1 then { f with mfstSvn := floor f.mfstSvn }
      else if ok || r % 2 = 1 then { f with revoked := f.revoked ||| 2 ^ x } else f
    { s with rtu := { s.rtu with fuses := f', blow := rest } }
/-- The fuses of a commit or a revocation have been blown, or could not all be (R476, R478). -/
def State.fuseDone (s : State) (ok : Bool) : State :=
  match s.rtu.blow with
  | [] => s
  | (kind, x) :: _ =>
    if 8 ≤ kind && s.verifying then s else
    let f := s.rtu.fuses
    let k := kind % 8
    let s := (s.blowEnd ok).wr rtuPg F.RTU.SVN_BUSY 0
    let (st, s) := if ok then (Status.ok.code, s) else let (c, s) := s.free; (c % 16, s)
    let s := s.wr rtuPg F.RTU.SVN_STATUS st
    let s := if s.rtu.fuses.fwSvn != f.fwSvn || s.rtu.fuses.mfstSvn != f.mfstSvn then s.setEvt rtuPg F.EVT.RTU.SVN_ADVANCED else s
    let d := leBytes 1 k ++ leBytes 1 x
    (s.measure 6 6 (Config.shake256 d 32) d).rtuSettle

/-! ### Admission keys -/

/-- The slots with one of them replaced or emptied. -/
def State.akWith (s : State) (i : Nat) (a : Option AkSlot) : List (Nat × AkSlot) :=
  let ak := tblErase i s.rtu.ak
  match a with | some x => tblInsert i x ak | none => ak
/-- The copy of the key store that a write replaces: the one not loaded at the last boot, with the next serial (R461, R479); none says that its tag
fails after it. -/
def State.storePut (s : State) (ak : Option (List (Nat × AkSlot))) : State :=
  let at_ := if s.rtu.akFrom.1 = 0 then 1 else 0
  { s with rtu := { s.rtu with stores := setNth (ak.map fun x => ((s.rtu.akFrom.2 + 1) % 2 ^ 16, x)) s.rtu.stores at_ } }
/-- Stage OPTION loads the key store (R460, R479): the copy whose tag holds, the later where both do, the primary where they are alike. With
neither, or where the flash cannot be read, slots 1 to 15 are empty and AK_CHANGED is set. -/
def State.storeLoad (s : State) (unread : Bool) : State :=
  let a := if unread then none else nth none s.rtu.stores 0
  let b := if unread then none else nth none s.rtu.stores 1
  let set_ (from_ serial : Nat) (ak : List (Nat × AkSlot)) : State := { s with rtu := { s.rtu with ak := ak, akFrom := (from_, serial) } }
  match a, b with
  | some x, some y => if laterThan 16 y.1 x.1 then set_ 1 y.1 y.2 else set_ 0 x.1 x.2
  | some x, none => set_ 0 x.1 x.2
  | none, some y => set_ 1 y.1 y.2
  | none, none => (set_ 2 0 []).setEvt rtuPg F.EVT.RTU.AK_CHANGED
/-- The key store is written: its layout is not architected (R479). -/
def State.akShow (s : State) (st : Status) : State := s.wr rtuPg F.RTU.AK_STATUS st.code
/-- What an AK event logs: index, role and mask (R480, R482). -/
def State.akMeasure (s : State) (i : Nat) (a : Option AkSlot) : State :=
  let d := leBytes 1 i ++ (match a with | some x => leBytes 1 (if x.co then 1 else 0) ++ leBytes 4 x.perm | none => leBytes 5 0)
  s.measure 5 5 (Config.shake256 d 32) d
/-- AK_LOAD and AK_CLEAR (R480, R546). A session whose slot is cleared ends once this command's messages have gone. -/
def State.akCtrl (s : State) (v : Word) : State :=
  let i := s.rd rtuPg F.RTU.AK_INDEX
  let perm := s.rd rtuPg F.RTU.AK_PERM
  let done (st : Status) (s : State) : State := (s.akShow st).answer st
  if v.getLsbD 0 && v.getLsbD 1 then done .badArg s
  else if !(v.getLsbD 0 || v.getLsbD 1) then s
  else if i = 0 || s.rtu.akNew.isSome then done .illegalState s
  else if v.getLsbD 0 then
    if (s.akSlot i).isSome then done .illegalState s
    else if 2 ^ 12 ≤ perm then done .badArg s
    else
      let key := (List.range 4).flatMap fun k => (leBytes 8 (s.reg 0 rtuPg (0x120 + 8 * k)).toNat).reverse
      ({ s with rtu := { s.rtu with akNew := some (i, some ⟨key, s.on rtuPg F.RTU.ROLE, perm⟩) } }).rtuSettle
  else
    let old := s.akSlot i
    let s := (s.storePut (some (s.akWith i none)))
    let s := { s with rtu := { s.rtu with ak := s.akWith i none } }
    let s := forEach ((s.sessions.filter fun x => x.2.st == .up && x.2.ak == i).map (·.1)) (fun n s => s.setSess n { s.sess n with ak := 16 }) s
    let s := forEach ((s.sessions.filter fun x => x.2.st == .setup && x.2.ak == i).map (·.1)) (fun n s => s.freeIndex n) s
    done .ok ((s.setEvt rtuPg F.EVT.RTU.AK_CHANGED).akMeasure i old)
/-- Sessions whose admission slot was cleared end (R480). -/
def State.akEnd (s : State) : State :=
  forEach ((s.sessions.filter fun x => x.2.st == .up && x.2.ak == 16).map (·.1)) (fun n s => s.sessEnd n) s
/-- The key store write of an AK_LOAD ends (R480); in RTU_STATE ERROR the load is refused (R470). A write that fails leaves the copy as it was, or
without a tag that holds. -/
def State.keyStoreDone (s : State) (ok : Bool) : State :=
  match s.rtu.akNew with
  | none => s
  | some (i, a) =>
    let s := { s with rtu := { s.rtu with akNew := none } }
    if !s.rtuOn then (s.akShow .checkFail).rtuSettle
    else if !ok then
      let (b, s) := s.pick false [false, true]
      ((if b then s.storePut none else s).akShow .timeout).rtuSettle
    else
      let s := s.storePut (some (s.akWith i a))
      let s := { s with rtu := { s.rtu with ak := s.akWith i a } }
      (((s.akShow .ok).setEvt rtuPg F.EVT.RTU.AK_CHANGED).akMeasure i a).rtuSettle

/-! ### Attestation -/

/-- DEVICE_FPR (R481). -/
def devFpr : List Byte := padTo 32 (Config.shake256 Config.identityKey 32)
/-- The KEM certificate (R481). -/
def State.kemCert (s : State) : List Byte :=
  let b := leBytes 4 0x4B454D43 ++ leBytes 2 1 ++ leBytes 2 0 ++ devFpr ++ leBytes 16 s.cfg.serial ++ leBytes 8 0 ++ padTo 1568 Config.kemKey
  b ++ padTo 49856 (Config.slhSign 0 b)
/-- The DeviceID certificate in the flash (R481): its length is that of its DER encoding (PRESUMED, log entry 3), at most 32 KiB. -/
def State.devCert (s : State) : List Byte :=
  let h := (s.flashBytes 0x4000 4).map BitVec.toNat
  s.flashBytes 0x4000 (min 32768 (4 + nth 0 h 2 * 256 + nth 0 h 3))
/-- The response of GET_CERTS (R484). -/
def State.certsBody (s : State) : List Byte :=
  let c := if s.on rtuPg F.RTU.DEVCERT_OK then s.devCert else []
  let k := s.kemCert
  leBytes 4 c.length ++ leBytes 4 k.length ++ leBytes 8 0 ++ c ++ k
/-- An ATTEST_REQ body is well formed (R484). -/
def attestOk (b : List Byte) : Bool :=
  b.length == 64 && (rqF b 0 1 == 1 || rqF b 0 1 == 2) && rqF b 1 7 == 0 && rqF b 46 18 == 0 && decide (rqF b 44 2 ≤ 1024)
/-- FUSES as RTU 0x100 shows it (R471, R495). -/
def State.fusesWord (s : State) : Nat :=
  let f := s.rtu.fuses
  let b (x : Bool) (n : Nat) : Nat := if x then 2 ^ n else 0
  b s.cfg.jtagDis 0 + b s.cfg.prod 1 + b f.kill 2 + f.fwSvn % 128 * 2 ^ 8 + f.mfstSvn % 128 * 2 ^ 16 + f.revoked % 16 * 2 ^ 24
  + s.cfg.purpose % 256 * 2 ^ 28
/-- LOG_FIRST of a request can be given (R485). -/
def State.logFirstOk (s : State) (first : Nat) : Bool :=
  let n := s.rd rtuPg F.RTU.LOG_TOTAL
  decide (first < n) && decide (n ≤ first + s.rtu.log.length)
/-- The evidence of R485, signed by the identity key, hedged. -/
def State.evidence (s : State) (b : List Byte) : List Byte × State :=
  let n := s.rd rtuPg F.RTU.LOG_TOTAL
  let first := rqF b 40 4
  let es := (s.rtu.log.drop (first + s.rtu.log.length - n)).take (rqF b 44 2)
  let boot := pg .boot 0
  let flags := s.rd boot F.BOOT.WARM + s.rd boot F.BOOT.IMAGE * 2
  let head := leBytes 4 0x41545354 ++ leBytes 2 1 ++ leBytes 2 es.length ++ (b.drop 8).take 32 ++ leBytes 8 s.now ++ leBytes 8 s.fusesWord
    ++ leBytes 2 (s.rd 0 F.ROOT.PART) ++ leBytes 1 (s.rd 0 F.ROOT.STEPPING) ++ leBytes 1 flags ++ leBytes 2 s.applNum ++ leBytes 1 s.pkgIdx
    ++ leBytes 1 0 ++ devFpr ++ leBytes 4 (s.rd rtuPg F.RTU.RUN_FW_SVN) ++ leBytes 4 n ++ leBytes 24 0
    ++ ((List.range 16).flatMap fun k => padTo 32 (s.mrOf k)) ++ es.flatten
  let (r, s) := s.free
  (head ++ padTo 49856 (Config.slhSign 1 (head ++ Config.entropy r)), s)
/-- Answer an attestation request. -/
def State.attestRsp (s : State) (m : Msg) (st : Status) (body : List Byte) : State := (s.gctSend m.session 0x41 m.id st.code body).answer st
/-- Certificates at the head of the queue are given at once. `n` bounds the requests. -/
def State.attestPump (s : State) : Nat → State
  | 0 => s
  | n + 1 =>
    match s.rtu.attest with
    | [] => s
    | m :: rest =>
      if rqF m.body 0 1 != 1 then s
      else (({ s with rtu := { s.rtu with attest := rest } }).attestRsp m .ok s.certsBody).attestPump n
/-- ATTEST_REQ (R484, R485): the queue holds four requests. -/
def State.attestReq (s : State) (m : Msg) : State :=
  if !attestOk m.body then s.attestRsp m .badArg []
  else if !s.rtuOn then s.attestRsp m .checkFail []
  else if rqF m.body 0 1 = 2 && !s.logFirstOk (rqF m.body 40 4) then s.attestRsp m .range []
  else if 4 ≤ s.rtu.attest.length then s.attestRsp m .noSpace []
  else (({ s with rtu := { s.rtu with attest := s.rtu.attest ++ [m] } }).attestPump 4).rtuSettle
/-- The evidence at the head of the queue has been signed (R485). -/
def State.evidenceDone (s : State) : State :=
  match s.rtu.attest with
  | [] => s
  | m :: rest =>
    let s := { s with rtu := { s.rtu with attest := rest } }
    let s := if !s.rtuOn then s.attestRsp m .checkFail []
      else if !s.logFirstOk (rqF m.body 40 4) then s.attestRsp m .range []
      else let (b, s) := s.evidence m.body; (s.attestRsp m .ok b).bumpSat rtuPg F.RTU.ATTESTS
    (s.attestPump 4).rtuSettle

/-! ### Live firmware update -/

/-- Where the staged image lies: where FW_SRC pointed when FW_VERIFY was written (R488). -/
def State.fwSrc (s : State) : Nat := s.rtu.src
/-- A field of the active option record: where a firmware directory lies in the flash. -/
def State.actDir (s : State) (o : Nat) : Nat :=
  rqF ((List.range 32).flatMap fun j => leBytes 8 (s.reg 0 (pg .boot 0) (0x300 + 8 * j)).toNat) o 4
/-- The components of the staged image still have the digests of the directory that was verified (R488). -/
def State.stagedOk (s : State) : Bool := s.compsOk true s.fwSrc s.rtu.comps
/-- A firmware action ends. -/
def State.fwEnd (s : State) (k : Nat) (st : Option Status) : State :=
  let s := (s.busyClear (rtuKey k)).wr rtuPg F.RTU.FW_BUSY 0
  (match st with | some x => s.wr rtuPg F.RTU.FW_STATUS x.code | none => s).rtuSettle
/-- An FW_APPLY ends. -/
def State.applyEnd (s : State) (st : Option Status) : State :=
  (({ s with rtu := { s.rtu with apply := [], ucode := [] } }).fwEnd 2 st).setEvt rtuPg F.EVT.RTU.FW_APPLIED
/-- FW_APPLY goes on with the next CPROC, then with the groups (R489, R490). A CPROC for which no other of its die serves is skipped. In
RTU_STATE ERROR the apply ends (R470). -/
def State.applyNext (s : State) : List Nat → State
  | [] =>
    let gs := (List.range 8).filter fun g => s.rd rtuPg F.RTU.UCODE_GROUPS / 2 ^ g % 2 == 1
    if !s.rtuOn then s.applyEnd (some .checkFail)
    else if gs.isEmpty then s.applyEnd none
    else { s with rtu := { s.rtu with apply := [], ucode := gs.map fun g => (g, s.now) } }
  | k :: rest =>
    let q := pg .cproc k
    if !s.rtuOn then s.applyEnd (some .checkFail)
    else if s.mayClose q then
      let s := { s with rtu := { s.rtu with apply := k :: rest } }
      ((s.closeWrap q).setUa q { s.ua q with iso := true }).enter q .reset
    else (s.wr rtuPg F.RTU.FW_STATUS Status.illegalState.code).applyNext rest
/-- FW_VERIFY, FW_PERSIST and FW_APPLY (R488 to R491, R537, R546). -/
def State.fwCtrl (s : State) (v : Word) : State :=
  let n := (if v.getLsbD 0 then 1 else 0) + (if v.getLsbD 1 then 1 else 0) + (if v.getLsbD 2 then 1 else 0)
  let refuse (st : Status) : State := (s.wr rtuPg F.RTU.FW_STATUS st.code).answer st
  let stored := s.setReg 0 rtuPg 0x150 (setBits (s.reg 0 rtuPg 0x150) 31 16 (bits v 31 16))
  let begin_ (k : Nat) (s : State) : State := ((s.busySet (rtuKey k)).wr rtuPg F.RTU.FW_BUSY 1).rtuSettle
  if n = 0 then stored
  else if 1 < n then refuse .badArg
  else if s.on rtuPg F.RTU.FW_BUSY then refuse .illegalState
  else if v.getLsbD 0 then begin_ 0 { stored.blowOn with rtu := { s.blowOn.rtu with src := s.rd rtuPg F.RTU.FW_SRC * 64 } }
  else if !s.on rtuPg F.RTU.FW_READY then refuse .illegalState
  else if v.getLsbD 1 then
    let a := s.actDir 40
    let b := s.actDir 44
    if a < 0x10000 || b < 0x10000 || (a < b && b < a + s.rtu.size) || (b ≤ a && a < b + s.rtu.size) then refuse .range
    else begin_ 1 stored
  else if s.imgF true s.fwSrc 21 1 != s.rtu.iface then refuse .version
  else
    let s := (begin_ 2 stored).wr rtuPg F.RTU.FW_STATUS 0
    if !s.stagedOk then (s.setEvt rtuPg F.EVT.RTU.SIG_FAIL).applyEnd (some .checkFail)
    else s.applyNext ((List.range 8).filter fun k => bits v (16 + k) (16 + k) == 1)
/-- The verification of a staged image ends (R488, R477). -/
def State.fwVerified (s : State) : State :=
  if !s.busy.contains (rtuKey 0) || s.blowing then s else
  let (st, s) := s.imgVerify true s.fwSrc
  let s := s.fwEnd 0 (some st)
  if st = .ok then
    let s := { s with rtu := { s.rtu with size := s.imgF true s.fwSrc 12 4, skey := s.imgF true s.fwSrc 20 1 % 4, comps := s.imgComps true s.fwSrc } }
    ((s.wr rtuPg F.RTU.FW_READY 1).wr rtuPg F.RTU.STAGED_SVN (s.imgF true s.fwSrc 8 4)).setEvt rtuPg F.EVT.RTU.FW_VERIFIED
  else s.wr rtuPg F.RTU.FW_READY 0
/-- A CPROC reports that it is ready (R489, R545): it serves again, with the staged firmware where an FW_APPLY loaded it. -/
def State.cprocReady (s : State) (k : Nat) : State :=
  let q := pg .cproc k
  if 8 ≤ k || s.stored q != .reset then s else
  match s.rtu.apply with
  | j :: rest =>
    if j != k then (s.resetLeave q).openWraps [q]
    else
      let s := ((s.setUa q { s.ua q with iso := false }).resetLeave q).openWraps [q]
      if s.rtuOn then (s.measureFw k).applyNext rest else s.applyEnd (some .checkFail)
  | [] => (s.resetLeave q).openWraps [q]
/-- A CPROC has not reported ready within 10 ms (R489): it is reset and gets the previous firmware, and the apply stops. -/
def State.cprocTimeout (s : State) (k : Nat) : State :=
  let q := pg .cproc k
  match s.rtu.apply with
  | j :: _ =>
    if j != k || s.stored q != .reset then s
    else ((s.setUa q { s.ua q with iso := false }).resetMark q |>.openWraps [q]).applyEnd (some .timeout)
  | [] => s
/-- The staged microcode is put in force on a group with no open step: every tile of the group loads it (R490). -/
def State.ucodeLoad (s : State) (g : Nat) : State :=
  if !(s.rtu.ucode.any fun x => x.1 == g) || (s.openOf g).isSome then s else
  if !s.rtuOn then s.applyEnd (some .checkFail) else
  let s := s.setMicro g (compOf s.rtu.comps 2)
  let s := forEach (s.servers g) (fun k s => s.microTile g k) s
  let d := leBytes 4 (s.rd rtuPg F.RTU.STAGED_SVN) ++ leBytes 1 s.rtu.iface ++ leBytes 1 (2 ^ g)
  let s := (s.runKey (8 + g) s.rtu.skey).measure 3 3 (compOf s.rtu.comps 2) d
  let rest := s.rtu.ucode.filter fun x => x.1 != g
  if rest.isEmpty then s.applyEnd none else { s with rtu := { s.rtu with ucode := rest } }
/-- A group that has opened no step for 1 s gets its microcode at once (R490). -/
def State.ucodeIdle (s : State) (g : Nat) : State :=
  match s.rtu.ucode.find? fun x => x.1 == g with
  | none => s
  | some (_, t) => if (s.openOf g).isSome then s else (s.reach (t + 1000000000)).ucodeLoad g
/-- The flash where a write of `n` bytes at `a` failed or was broken off: what they hold is free (DESIGN CHOICE, log entry 143). -/
def State.flashLost (s : State) (a n : Nat) : State := let (r, s) := s.free; s.flashPut a (padTo n (Config.entropy r))
/-- FW_PERSIST has failed, or is broken off, in directory B or in directory A (R491): B is written first, and holds the image by the time
that A is written. -/
def State.persistLost (s : State) : State :=
  let (b, s) := s.pick false [false, true]
  let img := s.imgAt true s.fwSrc 0 s.rtu.size
  if b then (s.flashPut (s.actDir 44) img).flashLost (s.actDir 40) s.rtu.size else s.flashLost (s.actDir 44) s.rtu.size
/-- FW_PERSIST ends (R491): both directories hold the image. In RTU_STATE ERROR it is refused (R470). -/
def State.persistDone (s : State) (ok : Bool) : State :=
  if !s.busy.contains (rtuKey 1) then s else
  let img := s.imgAt true s.fwSrc 0 s.rtu.size
  let fin (st : Status) (s : State) : State := (s.fwEnd 1 (some st)).setEvt rtuPg F.EVT.RTU.PERSIST_DONE
  if !s.rtuOn then fin .checkFail s.persistLost
  else if !s.stagedOk then fin .checkFail (s.setEvt rtuPg F.EVT.RTU.SIG_FAIL)
  else if ok then fin .ok ((s.flashPut (s.actDir 44) img).flashPut (s.actDir 40) img)
  else
    let (st, s) := s.persistLost.pick Status.timeout [.timeout, .checkFail]
    fin st s

/-! ### Zeroization and failure -/

/-- ZEROIZE (R493). -/
def State.zeroizeAll (s : State) : State :=
  let s := (s.setEvt rtuPg F.EVT.RTU.ZEROIZED).measure 6 6 (Config.shake256 [3] 32) [3]
  let s := { s with rtu := { s.rtu with ak := [], akNew := none, attest := [], stores := [none, none] }, sas := [] }
  let s := forEach (List.range 8) (fun k s => forEach [0x138, 0x140, 0x148, 0x150] (fun o s => s.setReg 0 (pg .enet k) o 0) s) s
  s.sessEndAll.rtuSettle
/-- ZEROIZE and DECOMMISSION (R493, R494). -/
def State.rtuEnd (s : State) (v : Word) : State :=
  if v.getLsbD 1 then
    if bits v 63 32 != 0x4445434F then s.answer .badArg
    else
      let s := s.zeroizeAll
      { s with rtu := { s.rtu with fuses := { s.rtu.fuses with kill := true } } }
  else if v.getLsbD 0 then s.zeroizeAll else s
/-- A test of the RTU fails (R470). -/
def State.rtuFail (s : State) (cause : Nat) : State :=
  let st := s.rd rtuPg F.RTU.RTU_STATE
  if 2 ≤ st then s else
  let s := (s.wr rtuPg F.RTU.RTU_STATE 2).wr rtuPg F.RTU.ERR_CAUSE cause
  let s := ({ s with rtu := { s.rtu with attest := [] } }).sessEndAll
  let s := ((s.captureOpen rtuPg .checkFail cause).setEvt rtuPg F.EVT.RTU.RTU_ERROR).setEvt rtuPg F.EVT.COM.ERR_UNCORR
  s.enter rtuPg .halted

end Sys2Proof.Machine
end

