-- ==== Sys2Proof/Machine/Supply.lean ====
section
/-! DEFINITION. Limits of the island rails: voltage (R499, R500), guaranteed rate (R501, R502, R541), the power cap (R503), the alert
(R505, R506), the thermal hold (R510, R511) and the writes of their registers (R504, R520 to R523). -/

namespace Sys2Proof.Machine

/-- The page of PWR. -/
def pwrPg : Nat := pg .pwr 0
/-- The page of THERM. -/
def thermPg : Nat := pg .therm 0
/-- The package has power and is out of reset: PWR_GOOD is high, PKG_RESET_L is not asserted, and it is not in BROWNOUT or OFF. -/
def State.powered (s : State) : Bool := s.pins.pwrGood && !s.pins.rstLow && decide (s.pw.mode < 2)

/-! ### Effective voltage -/

/-- V_ALERT in mV. -/
def State.vAlert (s : State) : Nat := if s.on pwrPg F.PWR.ALERT_ACTIVE then s.rd pwrPg F.PWR.ALERT_FLOOR else 850
/-- V_THERM of an island in mV; THERM shows it by sensor. -/
def State.vTherm (s : State) (i : Nat) : Nat := s.rdB i thermPg F.THERM.V_THERM
/-- V_CAP in mV. -/
def State.vCap (s : State) : Nat := s.rd pwrPg F.PWR.V_CAP
/-- V_eff of an island in mV (R500). -/
def State.vEff (s : State) (i : Nat) : Nat :=
  max 600 (min (min (s.rd (pg .island i) F.ISLAND.V_SET) s.vCap) (min (s.vTherm i) s.vAlert))
/-- LIMIT of an island (R500). -/
def State.vLimit (s : State) (i : Nat) : Nat :=
  let v := s.vEff i
  if s.on pwrPg F.PWR.ALERT_ACTIVE && s.vAlert = v then 3
  else if s.vTherm i < 850 && s.vTherm i = v then 2
  else if s.vCap < 850 && s.vCap = v then 1 else 0
/-- The rates of R501 in 10 M steps/s, at 40, 70 and 90 °C, from 0.60 V in steps of 50 mV. -/
def rateRows : List (List Nat) :=
  [[122, 130, 136], [150, 155, 158], [176, 178, 179], [203, 200, 197], [226, 221, 217], [246, 240, 235]]
/-- The guaranteed rate of an island in M steps/s at a voltage in mV and a temperature in °C (R501, R502, R541); none outside the
operating range. -/
def rateAt (v t : Nat) : Option Nat :=
  if t < 10 || 95 < t then none else
  let x := min (max t 40) 90
  let r := min ((v - 600) / 50) 4
  let c := if x < 70 then 0 else 1
  let t0 := nth 0 [40, 70] c
  let dt := nth 1 [30, 20] c
  let at_ (i j : Nat) : Nat := nth 0 (nth [] rateRows i) j
  let row (i : Nat) : Nat := at_ i c * (t0 + dt - x) + at_ i (c + 1) * (x - t0)
  let num := row r * (650 + 50 * r - v) + row (r + 1) * (v - 600 - 50 * r)
  let f := if t < 40 then 90 else if 90 < t then 97 else 100
  some (num * 10 * f / (50 * dt * 100))
/-- The level of a rail in mV at an instant (R499): it falls at no less than 25 mV/µs, how fast being free, and rises at SLEW_UP. -/
def Rail.at_ (r : Rail) (now free : Nat) : Nat :=
  let e := now - r.since
  if e = 0 then r.level
  else if r.target ≤ r.level then
    let top := max r.target (r.level - 25 * e / 1000)
    r.target + free % (top - r.target + 1)
  else min r.target (r.level + r.slew * e / 10000)
/-- The level of an island's rail: one that has not moved stands at V_eff. -/
def State.railNow (s : State) (i free : Nat) : Nat :=
  match tblFind i s.pw.rails with
  | some r => r.at_ s.now free
  | none => s.vEff i
/-- A rail starts towards a new target; `was` is the old V_eff of its island. -/
def State.railMove (s : State) (i was : Nat) : State :=
  let (x, s) := s.free
  let level := match tblFind i s.pw.rails with | some r => r.at_ s.now x | none => was
  { s with pw := { s.pw with rails := tblInsert i ⟨level, s.now, s.vEff i, s.rd pwrPg F.PWR.SLEW_UP⟩ (tblErase i s.pw.rails) } }
/-- A change of limits or of targets: the rails of the islands whose V_eff it changes move (R499, R500). -/
def State.withRails (s : State) (f : State → State) : State :=
  let was := (List.range 24).map s.vEff
  let t := f s
  forEach ((List.range 24).filter fun i => t.vEff i != nth 0 was i) (fun i t => t.railMove i (nth 0 was i)) t
/-- SLEW_UP changes: the rails that have moved go on from where they are. -/
def State.slewed (s : State) : State := forEach (s.pw.rails.map (·.1)) (fun i s => s.railMove i 0) s
/-- PWR and THERM show RUNNING while a limit stands (R522, R523). -/
def State.limitSettle (s : State) : State :=
  (s.runIff pwrPg (s.on pwrPg F.PWR.ALERT_ACTIVE || s.vCap < 850)).runIff thermPg (s.rd thermPg F.THERM.HELD != 0)

/-! ### The power cap -/

/-- V_CAP changes; lowering some island's V_eff sets CAP_LIMIT (R503). -/
def State.capMove (s : State) (v : Nat) : State :=
  let old := (List.range 24).map s.vEff
  let s := s.withRails fun s => { s.wr pwrPg F.PWR.V_CAP v with pw := { s.pw with capAt := s.now } }
  if (List.range 24).any fun i => s.vEff i < nth 0 old i then s.setEvt pwrPg F.EVT.PWR.CAP_LIMIT else s
/-- The measurement that PWR makes every 1 µs (R503): `sample` is the input power in W. The mean over the last CAP_WINDOW µs is compared with
CAP_W; the wait for CAP_UNREACHED begins when V_CAP reaches 600 mV. -/
def State.capTick (s : State) (sample : Nat) : State :=
  let s := s.reach (s.now + 1000)
  let xs := (sample :: s.pw.samples).take (s.rd pwrPg F.PWR.CAP_WINDOW)
  let power := xs.sum / max xs.length 1
  let s := { s with pw := { s.pw with samples := xs } }
  let s := (s.wr pwrPg F.PWR.PIN_W (min power 0xFFFF)).wr pwrPg F.PWR.PIN_PEAK_W (max (s.rd pwrPg F.PWR.PIN_PEAK_W) (min power 0xFFFF))
  let v := s.vCap
  let ns := if v < 850 then s.pw.capNs + 1000 else s.pw.capNs
  let s := { s.bump pwrPg F.PWR.CAP_MS (ns / 1000000) with pw := { s.pw with capNs := ns % 1000000 } }
  let cap := s.rd pwrPg F.PWR.CAP_W
  let over_ (x : Option Nat) (s : State) : State := { s with pw := { s.pw with overAt := x } }
  if !s.on pwrPg F.PWR.CAP_EN then over_ none s
  else if cap < power then
    if 600 < v then
      if s.pw.capAt + 50000 ≤ s.now then
        let v' := max 600 (v - 5)
        over_ (if v' = 600 then some (s.now + 1) else none) (s.capMove v').limitSettle
      else s
    else match s.pw.overAt with
      | none => over_ (some (s.now + 1)) s
      | some 0 => s
      | some t =>
        if t + s.rd pwrPg F.PWR.CAP_WINDOW * 1000 ≤ s.now + 1 then (over_ (some 0) s).setEvt pwrPg F.EVT.PWR.CAP_UNREACHED else s
  else
    let s := over_ none s
    if power * 100 < cap * 97 && v < 850 && s.pw.capAt + 1000000 ≤ s.now then (s.capMove (min 850 (v + 5))).limitSettle else s

/-! ### The alert -/

/-- PWR_ALERT_L is recognised (R505): a new assertion in the hold time restarts the alert. -/
def State.alertApply (s : State) : State :=
  let s := { s with pw := { s.pw with released := none } }
  ((s.withRails fun s => s.wr pwrPg F.PWR.ALERT_ACTIVE 1).bump pwrPg F.PWR.ALERTS).limitSettle.setEvt pwrPg F.EVT.PWR.ALERT
/-- PWR_ALERT_L is held low (R505, R516, R534): it is recorded only while the package has no power or is in reset. -/
def State.pwrAlert (s : State) : State :=
  if s.pins.alertLow then s else
  let s := { s with pins := { s.pins with alertLow := true } }
  if s.powered then s.alertApply else s
/-- PWR_ALERT_L rises (R506). -/
def State.alertRelease (s : State) : State :=
  if !s.pins.alertLow then s else
  let s := { s with pins := { s.pins with alertLow := false } }
  if s.on pwrPg F.PWR.ALERT_ACTIVE then { s with pw := { s.pw with released := some s.now } } else s
/-- PWR_ALERT_L has been high for ALERT_HOLD (R506). -/
def State.alertEnd (s : State) : State :=
  match s.pw.released with
  | none => s
  | some t =>
    if s.pins.alertLow || !s.on pwrPg F.PWR.ALERT_ACTIVE then s else
    let s := s.reach (t + s.rd pwrPg F.PWR.ALERT_HOLD * 1000000)
    let s := { s with pw := { s.pw with released := none } }
    (s.withRails fun s => s.wr pwrPg F.PWR.ALERT_ACTIVE 0).limitSettle.setEvt pwrPg F.EVT.PWR.ALERT_END

/-! ### The thermal hold -/

/-- A limit moves by 5 mV. -/
def State.thermMove (s : State) (i v : Nat) : State :=
  let was := s.vEff i
  let s := { s.wrB i thermPg F.THERM.V_THERM v with pw := { s.pw with thermAt := tblInsert i s.now (tblErase i s.pw.thermAt) } }
  if s.vEff i = was then s else s.railMove i was
/-- The sensors are read, every 10 µs (R510, R511): 26 readings in °C; one of 255 or more, or none, is invalid. -/
def State.thermSample (s : State) (temps : List Nat) : State :=
  let s := s.reach (s.now + 10000)
  let hold := s.rd thermPg F.THERM.HOLD_C
  let bad (k : Nat) : Bool := decide (255 ≤ nth 255 temps k)
  let tj (k : Nat) : Nat := if bad k then hold + 10 else nth 255 temps k
  let s := forEach (List.range 26) (fun k s =>
    let was := s.rdB k thermPg F.THERM.SENSOR_BAD
    let s := (s.wrB k thermPg F.THERM.SENSOR_TJ (tj k)).wrB k thermPg F.THERM.SENSOR_BAD (if bad k then 1 else 0)
    if bad k then (if was = 0 then s.setEvt thermPg F.EVT.THERM.SENSOR_FAIL else s)
    else s.wrB k thermPg F.THERM.SENSOR_PEAK (max (s.rdB k thermPg F.THERM.SENSOR_PEAK) (tj k))) s
  let good := (List.range 26).filter fun k => !bad k
  let top := good.foldl (fun m k => if tj m < tj k then k else m) (good.headD 0)
  let s := (s.wr thermPg F.THERM.TJ_MAX (if good.isEmpty then 0 else tj top)).wr thermPg F.THERM.TJ_MAX_SRC (if good.isEmpty then 0 else top)
  let en := s.on thermPg F.THERM.HOLD_EN
  let fail := (List.range 26).any fun k => decide (hold + 5 < tj k) &&
    (if k < 24 then s.vTherm k == 600 else (List.range 24).all fun i => s.vTherm i == 600)
  let s := if fail && !(s.reg 0 thermPg 0x028).getLsbD F.EVT.THERM.HOLD_FAIL then s.setEvt thermPg F.EVT.THERM.HOLD_FAIL else s
  let held := s.rd thermPg F.THERM.HELD
  let s := forEach (List.range 24) (fun i s =>
    let v := s.vTherm i
    let last := (tblFind i s.pw.thermAt).getD 0
    let ks := [i, 24, 25]
    let hot := en && ks.any fun k => decide (hold < tj k)
    let cool := !en || ks.all fun k => decide (tj k + 2 < hold)
    if hot then (if last + 100000 ≤ s.now && 600 < v then s.thermMove i (v - 5) else s)
    else if cool && v < 850 && last + 1000000 ≤ s.now then s.thermMove i (v + 5) else s) s
  let now' := ((List.range 24).map fun i => if s.vTherm i < 850 then 2 ^ i else 0).sum
  let s := (s.wr thermPg F.THERM.HELD now').limitSettle
  let s := if held = 0 && now' != 0 then s.setEvt thermPg F.EVT.THERM.HOLD_START else s
  if held != 0 && now' = 0 then s.setEvt thermPg F.EVT.THERM.HOLD_END else s

/-! ### Register writes -/

/-- A target voltage in mV that a register takes (R520, R521). -/
def voltOk (v : Nat) : Bool := decide (600 ≤ v) && decide (v ≤ 850) && v % 5 == 0
/-- V_SET of an island is written (R500, R520). -/
def State.vSetWrite (s : State) (i : Nat) (v : Word) : State :=
  if !voltOk (bits v 9 0) then s.answer .badArg
  else
    let was := s.vEff i
    let s := s.wr (pg .island i) F.ISLAND.V_SET (bits v 9 0)
    if s.vEff i = was then s else s.railMove i was
/-- A PWR register is written: `v` is the whole word with the RW bits merged in (R504, R521). -/
def State.pwrWrite (s : State) (off : Nat) (v : Word) : State :=
  let ok := match off with
    | 0x100 => 800 ≤ bits v 15 0 && bits v 15 0 ≤ maxPower s.cfg.variant && 100 ≤ bits v 47 32 && bits v 47 32 ≤ 10000
    | 0x108 => voltOk (bits v 9 0)
    | 0x110 => 1 ≤ bits v 7 0 && bits v 7 0 ≤ 50
    | _ => true
  if !ok then s.answer .badArg
  else match off with
    | 0x108 => s.withRails fun s => s.setReg 0 pwrPg off v
    | 0x110 => (s.setReg 0 pwrPg off v).slewed
    | _ => s.setReg 0 pwrPg off v
/-- A THERM register is written: `v` is the whole word with the RW bits merged in (R523). -/
def State.thermWrite (s : State) (off : Nat) (v : Word) : State :=
  let ok := match off with
    | 0x100 => 70 ≤ bits v 7 0 && bits v 7 0 ≤ 95
    | 0x110 => bits v 4 0 ≤ 25
    | _ => true
  if ok then s.setReg 0 thermPg off v else s.answer .badArg

end Sys2Proof.Machine
end

