-- ==== Sys2Proof/Machine/Boot.lean ====
section
/-! DEFINITION. BOOT: cold and warm package resets (R445 to R448, R464, R533, R534), the boot stages and the option record (R457 to R463),
errors in critical state (R453), and the watchdogs (R445). -/

namespace Sys2Proof.Machine

/-- The page of BOOT. -/
def bootPg : Nat := pg .boot 0
/-- BOOT_STAGE. -/
def State.bstage (s : State) : Nat := s.rd bootPg F.BOOT.BOOT_STAGE
/-- BOOT enters a stage; from OPTION on the xSPI chip select is in use (R458). -/
def State.setStage (s : State) (k : Nat) : State :=
  let s := if 3 ≤ k then { s with pins := { s.pins with xspi := true } } else s
  (s.wr bootPg F.BOOT.BOOT_STAGE k).rejudge bootPg
/-- BOOT stops in FAILED (R463). -/
def State.bootFail (s : State) (st : Status) : State := (s.wr bootPg F.BOOT.BOOT_STATUS st.code).setStage 9

/-! ### The option record -/

/-- A field of a record. -/
def optF (b : List Byte) (o n : Nat) : Nat := leNat ((b.drop o).take n)
/-- Every field of a record lies in its range, and its reserved fields are zero (R459, R460). -/
def optFields (b : List Byte) : Bool :=
  let z (o n : Nat) : Bool := ((b.drop o).take n).all (· == 0)
  let floor := optF b 36 2
  let modes := (List.range 8).map fun k => optF b 22 2 / 4 ^ k % 4
  let ret := optF b 32 4
  b.length == 256 && optF b 0 4 == 0x4F505452 && optF b 4 2 == 1
  && optF b 8 1 / 16 == 0 && optF b 9 1 / 128 == 0 && optF b 12 1 / 16 == 0 && 1 ≤ optF b 12 1 && optF b 12 1 ≤ 8
  && optF b 13 1 / 4 == 0 && optF b 16 1 / 16 == 0 && optF b 17 1 / 16 == 0 && optF b 21 1 / 2 == 0
  && (modes.all fun m => decide (m ≤ 2)) && z 30 2
  && ret / 2 ^ 24 % 128 == 0 && (ret / 2 ^ 31 == 0 || decide (ret % 2 ^ 24 * 0x200000 + 0x4000000 ≤ 0x2800000000))
  && (floor == 0 || (decide (600 ≤ floor) && decide (floor ≤ 850) && floor % 5 == 0))
  && optF b 38 1 / 128 == 0 && optF b 39 1 / 2 == 0 && z 48 204
/-- A copy of the record is valid (R460). -/
def optValid (b : List Byte) : Bool := optFields b && optF b 252 4 == crc32c (b.take 252)
/-- A record with its CRC. -/
def optSeal (b : List Byte) : List Byte := b.take 252 ++ leBytes 4 (crc32c (b.take 252))
/-- The default record (R460): fields that the rule does not name are 0, and SLOTS_PER_TRAY is 1. -/
def optDefault (c : PkgCfg) : List Byte :=
  let pop := ((List.range 20).map fun k => if absentUnit c .gmem k then 0 else 2 ^ k).sum
  optSeal (leBytes 4 0x4F505452 ++ leBytes 2 1 ++ leBytes 2 0 ++ leBytes 1 0 ++ leBytes 1 0 ++ leBytes 2 0 ++ leBytes 1 1 ++ leBytes 1 3
    ++ leBytes 3 pop ++ leBytes 1 0 ++ leBytes 3 0 ++ leBytes 1 1 ++ leBytes 2 0 ++ leBytes 6 c.macBase ++ leBytes 2 0 ++ leBytes 4 0
    ++ leBytes 2 0 ++ leBytes 1 0 ++ leBytes 1 0 ++ leBytes 4 0x10000 ++ leBytes 4 0x1000000 ++ leBytes 204 0 ++ leBytes 4 0)
/-- The 256 bytes that 32 registers from `off` on hold. -/
def State.optRegs (s : State) (off : Nat) : List Byte := (List.range 32).flatMap fun j => leBytes 8 (s.reg 0 bootPg (off + 8 * j)).toNat
/-- A field of the active record. -/
def State.act (s : State) (o n : Nat) : Nat := optF (s.optRegs 0x300) o n
/-- The active record gives other units their reset values (R459). -/
def State.optApply (s : State) : State :=
  let b := s.optRegs 0x300
  let idx := s.cfg.trayId % 64 * optF b 12 1 + s.cfg.slotId % 8
  let pins := optF b 8 1 / 8 % 2 == 1
  let bad := pins && (decide (optF b 12 1 ≤ s.cfg.slotId % 8) || decide (127 < idx))
  let use := pins && !bad
  let s := s.wr frp F.FROUTER.OWN_DOMAIN (optF b 8 1 % 8)
  let s := s.wr frp F.FROUTER.PKG_INDEX (if use then idx else optF b 9 1)
  let s := s.wr frp F.FROUTER.APPL_PKG_NUMBER (if use then optF b 10 2 + idx else optF b 10 2)
  let s := if bad then s.setEvt bootPg F.EVT.BOOT.ID_PIN_RANGE else s
  let s := forEach ((List.range 20).filter fun k => !absentUnit s.cfg .gmem k) (fun k s => s.wr (pg .gmem k) F.GMEM.RATE (optF b 13 1)) s
  let s := forEach ([0, 1].filter fun k => !absentUnit s.cfg .btier k) (fun k s =>
    s.wr (pg .btier k) F.BTIER.BIFURCATED (optF b 17 1 / 2 ^ (2 * k + 1) % 2)) s
  let s := forEach ((List.range 24).filter fun k => !absentUnit s.cfg .flink k) (fun k s =>
    let s := s.wr (pg .flink k) F.FLINK.ENABLE (optF b 18 3 / 2 ^ k % 2)
    if s.on (pg .flink k) F.FLINK.ENABLE then s.flUnit k else s) s
  let s := forEach [0, 1] (fun k s => s.wr (pg .gct k) F.GCT.RAW_EN (optF b 21 1)) s
  let s := forEach (List.range 8) (fun k s =>
    (s.wr (pg .enet k) F.ENET.MODE (optF b 22 2 / 4 ^ k % 4)).wr (pg .enet k) F.ENET.MAC (optF b 24 6 + k)) s
  s.withRails fun s => s.wr pwrPg F.PWR.ALERT_FLOOR (if optF b 36 2 = 0 then 620 else optF b 36 2)
/-- Stage OPTION (R460): one copy is selected, or the default where neither can be read or is valid. -/
def State.optSelect (s : State) (unread : Bool) : State :=
  let p := s.flashBytes 0 256
  let m := s.flashBytes 0x1000 256
  let (src, b) :=
    match !unread && optValid p, !unread && optValid m with
    | true, true => if laterThan 16 (optF m 6 2) (optF p 6 2) then (1, m) else (0, p)
    | true, false => (0, p)
    | false, true => (1, m)
    | false, false => (2, optDefault s.cfg)
  let s := forEach (List.range 32) (fun j s => s.setReg 0 bootPg (0x300 + 8 * j) (BitVec.ofNat 64 (optF b (8 * j) 8))) s
  let s := (s.wr bootPg F.BOOT.OPT_SOURCE src).wr bootPg F.BOOT.ACTIVE_SERIAL (optF b 6 2)
  let s := if src = 2 then s.setEvt bootPg F.EVT.BOOT.OPT_DEFAULT else s
  (s.optApply).measure 4 4 (Config.shake256 b 32) []
/-- OPT_COMMIT (R461, R546). -/
def State.optCommit (s : State) : State :=
  if s.on bootPg F.BOOT.OPT_BUSY then (s.wr bootPg F.BOOT.OPT_STATUS Status.illegalState.code).answer .illegalState
  else if optFields (s.optRegs 0x200) then s.wr bootPg F.BOOT.OPT_BUSY 1
  else (s.wr bootPg F.BOOT.OPT_STATUS Status.badArg.code).setEvt bootPg F.EVT.BOOT.OPT_DONE
/-- The copy of the record that OPT_COMMIT writes over: the one not loaded at the last boot (R461). -/
def State.optTarget (s : State) : Nat := if s.rd bootPg F.BOOT.OPT_SOURCE = 0 then 0x1000 else 0
/-- The record has been written and read back (R461); the copy of a write that failed holds what the flash made of it. -/
def State.optDone (s : State) (ok : Bool) : State :=
  if !s.on bootPg F.BOOT.OPT_BUSY then s else
  let b := s.optRegs 0x200
  let b := optSeal (b.take 6 ++ leBytes 2 (s.rd bootPg F.BOOT.ACTIVE_SERIAL + 1) ++ b.drop 8)
  let base := s.optTarget
  let (st, s) :=
    if ok then (Status.ok, s.flashPut base b)
    else
      let (st, s) := s.pick Status.timeout [.timeout, .checkFail]
      (st, s.flashLost base 256)
  ((s.wr bootPg F.BOOT.OPT_BUSY 0).wr bootPg F.BOOT.OPT_STATUS st.code).setEvt bootPg F.EVT.BOOT.OPT_DONE

/-! ### Cold reset -/

/-- What a reset breaks off in the fuses, the key store and the flash (R461, R476, R479, R491): the copy of the key store that is being written
holds its new content or fails its tag; of another copy that is being written nothing is said. -/
def State.breakOff (s : State) : State :=
  let s := s.blowEnd false
  let s := match s.rtu.akNew with
    | none => s
    | some (i, a) =>
      let (b, s) := s.pick false [false, true]
      s.storePut (if b then some (s.akWith i a) else none)
  let s := if s.busy.contains (rtuKey 1) then s.persistLost else s
  if s.on bootPg F.BOOT.OPT_BUSY then s.flashLost s.optTarget 256 else s
/-- The package in a cold reset (R446): what is outside it, its fuses, its flash and its pins stay. -/
def State.cold (s : State) : State :=
  let s := s.breakOff
  let r := State.reset
  { r with
    cfg := s.cfg, flash := s.flash, out := s.out, ret := s.ret, freeCtr := s.freeCtr, pending := s.pending
    rtu := { r.rtu with fuses := s.rtu.fuses, stores := s.rtu.stores }
    pins := { r.pins with pwrGood := s.pins.pwrGood, rstLow := s.pins.rstLow, alertLow := s.pins.alertLow, tripLow := s.pins.tripLow }
    pw := { r.pw with low := s.pw.low } }
/-- PWR_GOOD rises (R445, R533): cause POWER_ON. -/
def State.pwrGoodRise (s : State) : State :=
  if s.pins.pwrGood then s
  else ({ s with pins := { s.pins with pwrGood := true } }).cold.wr bootPg F.BOOT.RESET_CAUSE 1
/-- PWR_GOOD falls (R534): every rail is off, nothing is saved, and the trip latch is cleared. -/
def State.pwrGoodFall (s : State) : State :=
  if !s.pins.pwrGood then s
  else ({ s with pins := { s.pins with pwrGood := false, tripLow := false } }).cold
/-- PKG_RESET_L is asserted (R445, R534): cause PIN; ignored while THERM_TRIP_L is held. -/
def State.rstAssert (s : State) : State :=
  if s.pins.rstLow then s
  else
    let s := { s with pins := { s.pins with rstLow := true } }
    if !s.pins.pwrGood || s.pins.tripLow then s else s.cold.wr bootPg F.BOOT.RESET_CAUSE 2
/-- PKG_RESET_L is released: t0 (R457, R462, R534). The fuses are sensed, the pins take PIN_FUSES, and an alert still held applies. With VIN12 out of range the package
stays OFF. -/
def State.rstRelease (s : State) : State :=
  if !s.pins.rstLow then s
  else
    let s := { s with pins := { s.pins with rstLow := false } }
    if !s.pins.pwrGood || s.pins.tripLow then s
    else if s.pw.low then { s with pw := { s.pw with mode := 3 } }
    else
      let s := { s with pins := { s.pins with gpio := (List.range 16).map fun k => bits s.cfg.pinFuses (2 * k + 1) (2 * k) } }
      if s.pins.alertLow then s.alertApply else s

/-! ### Images -/

/-- The flash offset of the directory that is read (R462, R463). -/
def State.dirBase (s : State) : Nat := if s.rd bootPg F.BOOT.IMAGE = 0 then s.act 40 4 else s.act 44 4
/-- The image of a directory fails to read or verify (R463). -/
def State.imageFail (s : State) (st : Status) : State :=
  let s := s.wr bootPg F.BOOT.BOOT_STATUS st.code
  if s.rd bootPg F.BOOT.IMAGE = 0 then ((s.wr bootPg F.BOOT.IMAGE 1).setEvt bootPg F.EVT.BOOT.IMAGE_FALLBACK).setStage 4
  else if s.cfg.pinFuses.getLsbD 34 then s.setStage 9
  else (s.wr bootPg F.BOOT.IMAGE 2).setStage 8
/-- An image has been verified (R462, R463, R482): the CPROCs are released with it, the microcode is in force on every group, and the
enabled ports and links begin to train. -/
def State.imageRun (s : State) (mem : Bool) (base : Nat) : State :=
  let svn := s.imgF mem base 8 4
  let iface := s.imgF mem base 21 1
  let d := leBytes 4 svn ++ leBytes 1 iface
  let s := { s with rtu := { s.rtu with micro := [(1000, compOf (s.imgComps mem base) 2)] } }
  let s := { s with rtu := { s.rtu with run := (List.range 8).map fun k => (k, svn), iface := iface, keys := (List.range 16).map fun k => (k, s.imgF mem base 20 1 % 4) } }
  let s := s.measure 1 1 (Config.shake256 (s.imgSigned mem base) 32) d
  let s := (s.measure 2 2 (compOf (s.imgComps mem base) 1) (d ++ leBytes 1 0xFF)).showSvn
  let s := forEach (List.range 8) (fun g s => s.measure 3 3 (compOf (s.imgComps mem base) 2) (d ++ leBytes 1 (2 ^ g))) s
  let s := s.setStage 6
  let s := forEach ([0, 1].filter fun k => !absentUnit s.cfg .btier k) (fun k s => s.btTrain k) s
  forEach ((List.range 24).filter fun k => !absentUnit s.cfg .flink k && s.on (pg .flink k) F.FLINK.ENABLE) (fun k s => s.flTrain k) s

/-! ### Warm reset -/

/-- A register keeps its value through a warm reset that saves (R447): its bank, its page and its offset. -/
def keptReg (p off : Nat) : Bool :=
  let within (a b : Nat) : Bool := decide (a ≤ off) && decide (off ≤ b)
  match unitOf p with
  | some (.contrail, _) => within 0x200 0x230
  | some (.stepseq, _) => off == 0x100 || off == 0x108 || off == 0x120 || off == 0x140 || off == 0x170 || off == 0x020
  | some (.halo, _) => within 0x110 0x138 || off == 0x148
  | some (.updraft, _) => within 0x180 0x1E8
  | some (.pool, _) => within 0x100 0x128
  | some (.tgroup, _) | some (.partition, _) => decide (0x100 ≤ off) || off == 0x020
  | some (.gang, _) => decide (0xE00 ≤ off) || off == 0x020
  | some (.tile, _) => off == 0x100 || off == 0x020
  | some (.frouter, _) =>
      within 0x108 0x118 || off == 0x128 || off == 0x130 || within 0x188 0x1A8 || within 0x1B0 0x1E8 || off == 0x200 || off == 0x208
      || off == 0x230 || off == 0x238 || within 0x240 0x250
  | _ => false
/-- What is saved of UNIT_STAT: the binding, and of the state only whether the unit is OFFLINE. -/
def savedStat (v : Word) : Word :=
  (v &&& 0x0FFFFF10) ||| BitVec.ofNat 64 (if UState.ofCode (bits v 3 0) = .offline then UState.offline.code else UState.idle.code)
/-- A swap that was PREPARED or COMMITTED returns to NONE (R447). -/
def State.swapNone (s : State) : State :=
  forEach (List.range 8) (fun u s =>
    let p := pg .updraft u
    let st := s.rd p F.UPDRAFT.SWAP_STATE
    if st = 1 || st = 2 then (s.wr p F.UPDRAFT.SWAP_STATE 0).wr p F.UPDRAFT.READY_AWAITED 0 else s) s
/-- The retained state (R447), of a package whose work has been dropped. -/
def State.retain (s : State) (notices : Nat) : Saved :=
  let ud (x : UdSt) : UdSt := { UdSt.init with barred := x.barred, todo := x.todo ++ x.flight.map (·.1), tries := x.tries, crcs := x.crcs, copy := x.copy,
                                               layout := x.layout, claimed := x.claimed, svn := x.svn, svnNext := x.svnNext }
  let back (x : PoolSt) : PoolSt :=
    { x with blocks := x.blocks.map fun (h, b) => (h, if b.st = .moving then { b with st := b.prior } else b)
             moves := [], active := [], started := [], ahead := [], next := none }
  let reg (x : Nat × Word) : Nat × Word := (x.1, if x.1 % 4096 = 0x020 then savedStat x.2 else x.2)
  let halo (x : HaloSt) : HaloSt := { HaloSt.init with raw := x.raw }
  { regs := (s.regs.filter fun x => keptReg (x.1 / 4096 % 2 ^ 20) (x.1 % 4096)).map reg
    slots := s.slots, buckets := s.buckets, pools := s.pools.map (fun x => (x.1, back x.2)), uds := s.uds.map (fun x => (x.1, ud x.2))
    halos := s.halos.map (fun x => (x.1, halo x.2)), leads := (List.range 8).flatMap fun g => (s.uds_ g).map fun u => (g, pg .updraft u)
    time := s.now, notices := notices }
/-- Groups whose last committed step has commit notices unacknowledged (R448). -/
def State.noticeGroups (s : State) : Nat :=
  let last (g : Nat) (n : Notice) : Bool :=
    n.grp.tg == g && extF n.pkt 38 1 == 1 && n.grp.step == s.rd (pg .stepseq g) F.STEPSEQ.LC_STEP && n.pkt.gen == s.rd (pg .stepseq g) F.STEPSEQ.LC_GEN
  ((List.range 8).map fun g => if s.fab.notices.any (last g) then 2 ^ g else 0).sum
/-- A register that a warm reset keeps whatever is saved (R446, R470): RESET_COUNT, the active option record, and the RTU's state. -/
def warmKept (k : Nat) : Bool :=
  let p := k / 4096 % 2 ^ 20
  let off := k % 4096
  off == 0x050 || (p == bootPg && decide (0x300 ≤ off) && decide (off < 0x400)) || (p == rtuPg && off == 0x108)
/-- GDDR7 and the board tier: what a warm reset keeps of memory (R446). -/
def warmMem (a : Nat) : Bool := inGddr a || inBoard a
/-- A warm package reset (R446, R447, R464): work is dropped without reports, the retained state is saved where RETAIN_EN is 1, every unit
is reset, and GDDR7 and the board tier keep their contents. A reset during a warm restart keeps the image that has not been restored. `saves` says
that the save completes; the image takes its place in GDDR7 at RETAIN_BASE all the same, and what its bytes are is not architected (log entry 140). -/
def State.warm (s : State) (cause mode : Nat) (saves : Bool) : State :=
  let s := s.breakOff
  let groups := s.noticeGroups
  let w := forEach (List.range 8) (fun g s => (s.setHeld g []).stepDrop g) s
  let w := w.sessEndAll.swapNone
  let (n, w) := w.free
  let (us, w) := w.free
  let save := s.act 35 1 / 128 == 1
  let saved := if s.pw.mode != 0 then s.saved else if save && saves then some (w.retain groups) else none
  let base := s.act 32 4 % 2 ^ 24 * 0x200000
  let image (a : Nat) : Bool := save && s.pw.mode == 0 && decide (base ≤ a) && decide (a < base + min n 0x4000000)
  let r := State.reset
  let keepAt := [F.BOOT.OPT_SOURCE, F.BOOT.ACTIVE_SERIAL]
  let z := { r with
    cfg := s.cfg, regs := s.regs.filter fun x => warmKept x.1
    mem := s.mem.filter (fun x => warmMem x.1 && !(image x.1)), poison := s.poison.filter (fun x => inBoard (x.1 * 32))
    gangOrder := if saved.isSome then s.gangOrder else []
    uaux := s.uaux.filterMap fun (p, x) =>
      if x.broken then some (p, { UAux.init with prior := x.comesBack, test := x.test, code := x.code, loc := x.loc, more := x.more }) else none
    rtu := { r.rtu with fuses := s.rtu.fuses, ak := s.rtu.ak, stores := s.rtu.stores, akFrom := s.rtu.akFrom, keys := s.rtu.keys }
    flash := s.flash, saved := saved, out := s.out, ret := s.ret, freeCtr := w.freeCtr, pending := s.pending
    pw := { r.pw with mode := mode, low := s.pw.low }
    pins := { r.pins with
      pwrGood := s.pins.pwrGood, alertLow := s.pins.alertLow, tripLow := s.pins.tripLow
      gpio := if s.cfg.pinFuses.getLsbD 33 then s.pins.gpio else (List.range 16).map fun k => bits s.cfg.pinFuses (2 * k + 1) (2 * k) } }
  let z := forEach keepAt (fun f z => z.wr bootPg f (s.rd bootPg f)) z
  let z := z.optApply
  let z := if z.rtu.fuses.kill then z.wr rtuPg F.RTU.RTU_STATE 3 else z
  let z := ((z.setReg 0 bootPg 0x028 0).setReg 0 bootPg 0x038 0).rejudge rtuPg
  let z := z.wr timePg F.TIME.DEVICE_TIME (match saved with | some x => x.time | none => 0)
  let z := forEach ([0, 1].flatMap fun k => [(k, 0), (k, 1)]) (fun (k, d) z =>
    if s.rd (pg .btier k) F.BTIER.DEV_UP / 2 ^ d % 2 = 1 then z.busySet (busyKey (pg .btier k) (10 + d)) else z) z
  let z := if save && s.pw.mode = 0 then (z.wr bootPg F.BOOT.RETAIN_BYTES n).wr bootPg F.BOOT.SAVE_US us else z
  ((z.wr bootPg F.BOOT.RESET_CAUSE cause).wr bootPg F.BOOT.WARM 1).setStage 1
/-- The warm restart goes on: an alert that is still held applies. -/
def State.warmGo (s : State) : State :=
  let s := { s with pw := { s.pw with mode := 1 } }
  if s.pins.alertLow then s.alertApply else s
/-- A warm package reset with the rails on (R445): causes SOFTWARE, CRITICAL and CPROC_ALL. -/
def State.warmReset (s : State) (cause : Nat) : State := (s.warm cause 1 true).warmGo
/-- The retained state is restored (R447, R448), and the manifest of every group whose CURRENT_VALID is 1 is verified again (R487): a restoration
is measured, and a group whose manifest fails keeps its image and opens no step until a LIVE load. The image names the instances of a group, of
which UD_CFG is not retained. -/
def State.restore (s : State) (x : Saved) : State :=
  let s := forEach x.regs (fun (k, v) s => { s with regs := tblSet (regReset s.cfg) s.regs k v }) s
  let now := s.now
  let bk (y : Nat × Bucket) : Nat × Bucket := (y.1, { y.2 with last := now })
  let s := { s with slots := x.slots, buckets := x.buckets.map bk, pools := x.pools, uds := x.uds,
                    halos := x.halos, saved := none }
  let s := forEach (List.range 8) (fun g s => let p := pg .stepseq g; s.setSs g { s.ss g with cfg := s.reg 0 p 0x100, pace := s.reg 0 p 0x118 }) s
  let s := (s.wr bootPg F.BOOT.RETAIN_VALID 1).wr bootPg F.BOOT.RESTART_GROUPS x.notices
  let s := if x.notices != 0 then s.setEvt bootPg F.EVT.BOOT.NOTICES_LOST else s
  forEach (List.range 8) (fun g s =>
    let ps := (x.leads.filter fun y => y.1 == g).map (·.2)
    match ps with
    | [] => s
    | p :: _ =>
      if !s.on p F.UPDRAFT.CURRENT_VALID then s else
      let b := s.rd p F.UPDRAFT.MANIFEST_BASE * 64
      let (st, s) := s.mfstVerify b
      let s := s.measureMfst g b (s.rd p F.UPDRAFT.TARGET) true
      if st = .ok then s
      else forEach ps (fun q s => s.wr q F.UPDRAFT.LOAD_STATUS st.code) (s.setUd g { s.ud g with barred := true })) s

/-! ### The stages -/

/-- The rails of some islands, or of others, do not come up (R463): an island whose rail fails is OFFLINE with its tiles. -/
def State.railsDone (s : State) (failed : List Nat) : State :=
  if failed.any fun p => (unitOf p).isSome && typeOf p != .island then s.bootFail .timeout
  else
    let s := forEach (failed.filter fun p => (unitOf p).isSome) (fun p s =>
      forEach (p :: (s.contents p).filter fun q => !absentPg s.cfg q) (fun q s => s.enter q .offline) s) s
    s.setStage (if s.on bootPg F.BOOT.WARM && s.rd rtuPg F.RTU.RTU_STATE != 0 && !s.rtu.fuses.kill then 4 else 2)
/-- Stage RTU_TEST ends (R462, R463, R470, R471, R481, R482, R494). -/
def State.rtuTested (s : State) (failed : List Nat) : State :=
  if s.rtu.fuses.kill then ((s.wr rtuPg F.RTU.RTU_STATE 3).rejudge rtuPg).bootFail .checkFail
  else if s.rd rtuPg F.RTU.RTU_STATE = 2 then s.bootFail .checkFail
  else if failed.contains rtuPg then (s.rtuFail 1).bootFail .checkFail
  else
    let s := (s.wr rtuPg F.RTU.RTU_STATE 1).rejudge rtuPg
    let w := leBytes 8 s.fusesWord ++ leBytes 8 s.cfg.pinFuses.toNat ++ leBytes 16 s.cfg.serial
    let s := (s.measure 0 0 (Config.shake256 w 32) []).wr rtuPg F.RTU.DEVCERT_OK
      (if Config.certifiedKey (s.flashBytes 0x4000 0x8000) = Config.identityKey then 1 else 0)
    s.setStage 3
/-- Stage OPTION ends (R460, R462, R479). -/
def State.optionDone (s : State) (failed : List Nat) (late : Bool) : State :=
  ((s.optSelect (late || failed.contains bootPg)).storeLoad (late || failed.contains rtuPg)).setStage 4
/-- Stage VERIFY ends (R462, R463, R473). -/
def State.verifyDone (s : State) : State :=
  let b := s.dirBase
  let (st, s) := s.imgVerify false b
  if st = .ok then s.imageRun false b else s.imageFail st
/-- The image in the staging buffer of RECOVERY is verified (R463). -/
def State.recoveryDone (s : State) : State :=
  let (st, s) := s.imgVerify true recBase true
  if st = .ok then
    ((s.imageRun true recBase).keepMem fun a => decide (a < recBase)).setEvt bootPg F.EVT.BOOT.IMAGE_FALLBACK
  else s.wr bootPg F.BOOT.BOOT_STATUS st.code
/-- The tests that a warm reset broke off run again as their units leave RESET (R456): of a gang, where its binding was restored; a gang is
held for the test of a member (R58). -/
def State.brokenTests (s : State) : State :=
  forEach s.uaux (fun (p, x) s =>
    if !x.broken || absentPg s.cfg p then s
    else if s.stored p = .offline && (typeOf p == .gang || x.prior != .offline) then s.setUa p { x with test := 0, code := 0, loc := 0, more := [] }
    else
      let s := s.testAgain p
      if s.on p F.COM.BOUND then s.holdGang (s.outer p) false else s) s
/-- The units of stage FIRMWARE are up, but for those that failed, and the package is READY (R189, R190, R462 to R464). -/
def State.firmwareDone (s : State) (failed : List Nat) : State :=
  let off (p : Nat) (s : State) : State := if absentPg s.cfg p then s else s.enter p .offline
  let s := forEach (List.range 20) (fun k s =>
    let p := pg .gmem k
    if absentPg s.cfg p then s
    else if s.act 14 3 / 2 ^ k % 2 = 0 || failed.contains p || 5 ≤ nth 0 s.cfg.density k then s.enter p .offline
    else s.wr p F.GMEM.IN_LIST 1) s
  let s := forEach s.gmList.zipIdx (fun (k, j) s => s.wr (pg .gmem k) F.GMEM.CHAN_FIRST (4 * j)) s
  let warm := s.on bootPg F.BOOT.WARM
  let s := match s.saved with
    | some x => s.restore x
    | none => if warm then s.setEvt bootPg F.EVT.BOOT.RETAIN_LOST else s
  let s := forEach (failed.filter fun p => typeOf p == .tile || typeOf p == .btier || typeOf p == .enet) (fun p s => off p s) s
  let s := s.brokenTests
  let (t, s) := s.free
  let s := ((s.wr bootPg F.BOOT.READY_TIME t).setStage 7).enter 0 .idle
  { s with pw := { s.pw with mode := 0 } }
/-- A boot stage ends: `failed` names the pages of the units that failed in it (R462); in stage FUSE the RTU, for an uncorrectable bank
(R471). -/
def State.bootDone (s : State) (failed : List Nat) : State :=
  if !s.powered then s else
  match s.bstage with
  | 0 => (if failed.contains rtuPg then s.rtuFail 4 else s).setStage 1
  | 1 => s.railsDone failed
  | 2 => s.rtuTested failed
  | 3 => s.optionDone failed false
  | 4 => if failed.contains bootPg then s.imageFail .timeout else s.setStage 5
  | 5 => s.verifyDone
  | 6 => s.firmwareDone failed
  | 8 => s.recoveryDone
  | _ => s
/-- A boot stage passes its time limit (R463); the other stages have none. -/
def State.bootTimeout (s : State) (failed : List Nat) : State :=
  if !s.powered then s else
  match s.bstage with
  | 1 => s.railsDone failed
  | 3 => s.optionDone failed true
  | 4 => s.imageFail .timeout
  | 6 => s.firmwareDone failed
  | _ => s

/-! ### Watchdogs and critical state -/

/-- A CPROC is reset by its watchdog or by an error (R445, R451, R453): its wrapper closes, unless it is closed, and opens again when it has
restarted. -/
def State.cprocReset (s : State) (p : Nat) : State := (if s.on p F.COM.ISOLATED then s else s.closeWrap p).resetUnit p
/-- A CPROC's watchdog expires (R445): the CPROC is reset; where all four of its die were within 1 s, the package is too. -/
def State.watchdog (s : State) (k : Nat) : State :=
  let p := pg .cproc k
  if 8 ≤ k || absentPg s.cfg p || s.stored p = .reset || s.stored p = .offline then s else
  let s := { s with pw := { s.pw with watchAt := tblInsert k s.now (tblErase k s.pw.watchAt) } }
  let all := (List.range 4).all fun j => match tblFind (k / 4 * 4 + j) s.pw.watchAt with
    | some t => decide (s.now ≤ t + 1000000000)
    | none => false
  let s := s.cprocReset p
  if all then s.warmReset 6 else s
/-- The work of a unit ends by an error (R58, R454): RUNNING or DRAINING, KILLING, IDLE. -/
def State.errKill (s : State) (p : Nat) : State :=
  match s.stored p with
  | .running | .draining => ((((s.wr p F.COM.HALT 0).wr p F.COM.DRAIN 0).enter p .killing).stopWork p).enter p .idle
  | .killing => s.enter p .idle
  | .idle | .halted => s.stopWork p
  | _ => s
/-- An uncorrectable error of a unit with a SELFTEST routine starts its test (R454 to R456), which it enters from IDLE, HALTED or OFFLINE
(R58); in TEST, one of another structure follows the test that runs. `code` names the structure. -/
def State.unitTest (s : State) (p code loc : Nat) : State :=
  if !capSelftest (typeOf p) then s
  else if s.stored p = .test then s.testMore p code loc
  else
    let s := s.errKill p
    let s := s.testDue p code loc (s.stored p)
    if s.stored p = .reset then s
    else if (s.ua p).test = 3 then
      let s := s.bumpSat p F.COM.LASTING_COUNT
      (if s.on p F.COM.ERR_VALID then s.wr p F.COM.ERR_LASTING 1 else s).testFailed p 0
    else (s.wr p F.COM.BUSY 1).enter p .test
/-- The tests of uncorrectable errors that have been captured begin (R454). -/
def State.dueTests (s : State) : State :=
  forEach (s.uaux.filter fun x => !x.2.due.isEmpty) (fun (p, x) s =>
    forEach x.due (fun (code, loc) s => s.unitTest p code loc) (s.setUa p { s.ua p with due := [] })) s
/-- The action on the structure (R453): `kind` says which of the unit's structures, `loc` which entry. None where the unit has no such one;
some false where the action is a warm reset. -/
def State.critAct (s : State) (p kind loc : Nat) : Option (Bool × State) :=
  let k := instOf p
  match typeOf p, kind with
  | .frouter, 0 => some (true, s.setReg loc frp 0x188 (setBits (s.reg loc frp 0x188) 40 40 0))
  | .frouter, 1 => some (true, s.setReg 0 frp (0x1B0 + loc % 8 * 8) (setBits (s.reg 0 frp (0x1B0 + loc % 8 * 8)) 48 48 0))
  | .frouter, 2 => some (true, s.wrB loc frp F.FROUTER.TG_VALID 0)
  | .frouter, 3 =>
      let o := 0x240 + loc % 24 / 8 * 8
      let b := loc % 8 * 8
      some (true, s.setReg 0 frp o (setBits (s.reg 0 frp o) (b + 7) b 0x80))
  | .frouter, 4 => some (true, s.wrB (loc % 256) frp F.FROUTER.IMP_VALID 0)
  | .frouter, 5 =>
      match s.fab.cb[loc]? with
      | none => some (true, s)
      | some e =>
        let ls := ((s.fab.cb.filter fun x => x.grp == e.grp).map (·.line)).eraseDups
        let s := forEach ls (fun l s => s.poisonMem (l * 256) 256) s
        let s := (s.tombstone e.grp).cbFree e.grp
        some (true, { s with fab := { s.fab with bad := e.grp :: s.fab.bad } })
  | .contrail, 0 =>
      let x := s.slot loc
      if x.st = 0 then some (true, s)
      else some (true, ((s.closeSlot loc 2).poolClose x.tg (loc * 2 ^ 19 + x.inc)).freeSlot loc)
  | .contrail, 1 => let b := s.bucket (loc / 4096) (loc % 4096); some (true, s.setBucket (loc / 4096) (loc % 4096) { b with bal := 0, en := true })
  | .contrail, 2 =>
      some (true, if s.ad loc F.CONTRAIL.AD_STATE = 0 then s else (s.setAd loc F.CONTRAIL.AD_STATE 3).adSettle loc)
  | .halo, 0 => some (true, s.wrB loc p F.HALO.ENABLE 0)
  | .halo, 1 => some (true, s.wrB loc p F.HALO.RCP_MODE 0xF)
  | .gct, _ => some (true, s.sessEnd loc)
  | .cproc, _ =>
      some (true, if s.on p F.COM.ISOLATED then s else (s.setUa p { s.ua p with test := 1, code := 0x100 + kind, loc := loc }).cprocReset p)
  | .partition, _ =>
      let s := (s.wr p F.PARTITION.MEMBERS0 0).wr p F.PARTITION.MEMBERS1 0
      let x := s.ua p
      some (true, (s.setUa p { x with busy := true, prior := if x.busy then x.prior else s.stored p }).enter p .halted)
  | .stepseq, _ =>
      let s := if (s.openOf k).isNone then s
        else ((s.stepKill k (.abort .poison)).wr p F.STEPSEQ.HELD_STEP 0).stepAbort k .poison 1 0
      some (true, (s.displaceAll k).haltWith k .poison 0)
  | .boot, _ | .frouter, _ => some (false, s)
  | _, _ => none
/-- The tile group that a unit belongs to, tiles apart (R43). -/
def State.groupOfUnit (s : State) (p : Nat) : Option Nat :=
  match typeOf p with
  | .stepseq | .pool | .halo | .tgroup => some (instOf p)
  | .updraft => s.udGroup (instOf p)
  | _ => none
/-- A unit of a tile group has reported an uncorrectable error: the open step does not commit as it stands (R266). -/
def State.groupErr (s : State) (p : Nat) : State :=
  match s.groupOfUnit p with | some g => s.stepErr g | none => s
/-- CRITICAL_UNCORR (R453, R454). -/
def State.criticalUncorr (s : State) (p kind loc : Nat) : State :=
  if (unitOf p).isNone || absentPg s.cfg p then s
  else
    if typeOf p = .tile then (if 3 ≤ kind && kind ≤ 6 then s.tileErr (instOf p) kind loc else s)
    else match s.critAct p kind loc with
      | none => s
      | some (false, s) => s.warmReset 5
      | some (true, s) =>
        let s := (((s.captureOpen p .poison loc).setEvt p F.EVT.COM.ERR_UNCORR).critCount).groupErr p
        if typeOf p = .cproc && s.stored p = .reset then s else s.unitTest p (0x100 + kind) loc

end Sys2Proof.Machine
end

