-- ==== Sys2Proof/Machine/Power.lean ====
section
/-! DEFINITION. Loss of the supply and thermal trip (R498, R507 to R509, R512, R532), loss of the rack manager (R513, R515), the event
summary and FAULT_L (R56, R65, R457, R509), and the I3C target (R538). -/

namespace Sys2Proof.Machine

/-! ### The supply -/

/-- State OFF (R508, R512): every rail is off, and the contents of GDDR7 are lost. -/
def State.off (s : State) : State := let s := s.cold; { s with pw := { s.pw with mode := 3 } }
/-- VIN12 enters the band below 10.8 V (R498). -/
def State.vinLow (s : State) : State :=
  if s.pw.low then s else
  let s := { s with pw := { s.pw with low := true } }
  if s.powered then s.setEvt pwrPg F.EVT.PWR.VIN_LOW else s
/-- VIN12 is at 10.8 V or above again (R498). -/
def State.vinBack (s : State) : State := { s with pw := { s.pw with low := false } }
/-- Brown-out entry (R507, R508): a warm package reset that leaves the package in BROWNOUT; `saves` says that the retention save completes. -/
def State.brownEntry (s : State) (saves : Bool) : State := if s.powered then s.warm 3 2 saves else s
/-- VIN12 falls below 10.2 V. Whether it falls on below 8.0 V before the save has completed is not the package's to say: it is a free value (R507,
log entry 140). -/
def State.brownOut (s : State) : State :=
  let (b, s) := s.pick true [true, false]
  ({ s with pw := { s.pw with low := true } }).brownEntry b
/-- REFCLK is lost (R532). -/
def State.refclkLoss (s : State) : State := s.brownEntry true
/-- VIN12 has held at 10.8 V for 1 ms in BROWNOUT (R498, R508). -/
def State.brownRecover (s : State) : State := if s.pw.mode = 2 then s.vinBack.warmGo else s
/-- 50 ms pass in BROWNOUT (R508). -/
def State.brownTimeout (s : State) : State := if s.pw.mode = 2 then s.off else s
/-- VIN12 falls below 7.0 V (R498, R508). -/
def State.undervoltage (s : State) : State := ({ s with pw := { s.pw with low := true } }).off
/-- A trip element reads 105 °C (R512, R516): it acts whatever the state of the package. -/
def State.thermTrip (s : State) : State := ({ s with pins := { s.pins with tripLow := true } }).off

/-! ### The rack manager -/

/-- A HEARTBEAT arrives (R513, R516): it arms the watch and ends UNMANAGED. -/
def State.heartbeat (s : State) (m : Msg) : State :=
  if m.body.length != 8 || rqF m.body 4 4 != 0 then (s.gctSend m.session 0x0F m.id Status.badArg.code []).answer .badArg
  else
    let s := (((s.wr 0 F.ROOT.LAST_HB_TIME s.now).wr 0 F.ROOT.HB_SEQ (rqF m.body 0 4)).wr 0 F.ROOT.HB_SESSION m.session).wr 0 F.ROOT.HB_ARMED 1
    if s.stored 0 = .unmanaged then
      ((s.enter 0 (s.ua 0).prior).setEvt 0 F.EVT.ROOT.MANAGED).wr 0 F.ROOT.ORPHANED 0
    else s
/-- No HEARTBEAT has come within HB_TIMEOUT (R513). -/
def State.hbTimeout (s : State) : State :=
  if !s.on 0 F.ROOT.HB_ARMED || s.rd 0 F.ROOT.HB_TIMEOUT = 0 || s.stored 0 = .unmanaged || s.stored 0 = .reset then s else
  let s := s.reach (s.rd 0 F.ROOT.LAST_HB_TIME + s.rd 0 F.ROOT.HB_TIMEOUT * 1000000 + 1)
  let s := { s.setUa 0 { s.ua 0 with prior := s.stored 0 } with pw := { s.pw with aloneAt := s.now } }
  (s.bumpSat 0 F.ROOT.UNMANAGED_COUNT).enter 0 .unmanaged
/-- ROOT has been UNMANAGED for ORPHAN_S (R515). -/
def State.orphan (s : State) : State :=
  let n := s.rd 0 F.ROOT.ORPHAN_S
  if n = 0 || s.stored 0 != .unmanaged || s.on 0 F.ROOT.ORPHANED then s else
  let s := s.reach (s.pw.aloneAt + n * 1000000000)
  (s.wr 0 F.ROOT.ORPHANED 1).setEvt 0 F.EVT.ROOT.ORPHANED

/-! ### The event summary and FAULT_L -/

/-- The units that have a unit as child or member (R43, R56): a free gang slot is no unit's child (R45). -/
def State.parents (s : State) (p : Nat) : List Nat :=
  (if typeOf p = .gang then (if s.gangOrder.contains p then [pg .tgroup (s.rd p F.GANG.TGROUP)] else []) else if p = 0 then [] else [fixedParent (typeOf p) (instOf p)])
  ++ (if s.on p F.COM.BOUND then [s.rd p F.COM.BOUND_TO] else [])
/-- A unit's summary reaches another unit: every unit below it on the way has EVT_SUMMARY_EN. `n` bounds the depth. -/
def State.sumsTo (s : State) (q : Nat) : Nat → Nat → Bool
  | 0, _ => false
  | n + 1, p => s.on p F.COM.EVT_SUMMARY_EN && (s.parents p).any fun x => x == q || s.sumsTo q n x
/-- CHILD_EVT of a unit (R56). -/
def State.childEvt (s : State) (q : Nat) : Bool :=
  s.regs.any fun x => x.1 % 4096 == 0x028 && decide (x.1 < 2 ^ 32) && s.unitEvt (x.1 / 4096) && s.sumsTo q 20 (x.1 / 4096)
/-- FAULT_L is asserted (R65, R457, R463, R509, R529): until the fuses are sensed, through a brown-out until READY, in FAILED, before READY
unless FAULT_L_REL = 1, and for events. -/
def State.faultL (s : State) : Bool :=
  if !s.pins.pwrGood || s.pins.tripLow || s.pw.mode = 3 then false
  else if s.pins.rstLow || s.pw.mode = 2 || (s.pw.mode = 1 && s.rd bootPg F.BOOT.RESET_CAUSE = 3) || s.bstage = 9 then true
  else if s.bstage != 7 && !s.cfg.pinFuses.getLsbD 32 then true
  else s.unitEvt 0 || s.childEvt 0
/-- An in-band interrupt is raised when FAULT_L asserts and the I3C target is up (R458, R538). -/
def State.ibiSettle (s : State) (was : Bool) : State :=
  if !was && s.faultL && 6 ≤ s.bstage && s.powered then { s with pins := { s.pins with ibi := true } } else s

/-! ### The I3C target -/

/-- The I3C target answers: its pins are in use from stage FIRMWARE on (R458, R463). -/
def State.i3cUp (s : State) : Bool := s.powered && decide (6 ≤ s.bstage)
/-- SETDASA or ENTDAA assigns a dynamic address. -/
def State.i3cAssign (s : State) (a : Nat) : State := if s.i3cUp then { s with pins := { s.pins with i3c := a % 128 } } else s
/-- The PLDM sensors are updated: VIN12 and the levels of the input GPIOs are measured. -/
def State.sensorUpdate (s : State) : State :=
  if !s.i3cUp then s else
  let (v, s) := s.free
  let (g, s) := s.free
  let inputs := (List.range 16).filter fun k => nth 0 s.pins.gpio k == 3
  let b (x : Bool) (n : Nat) : Nat := if x then 2 ^ n else 0
  let vals := [(1, s.bstage + (s.stored 0).code * 2 ^ 8 + b s.faultL 16), (2, v % 65536), (3, s.rd pwrPg F.PWR.PIN_W), (4, s.rd thermPg F.THERM.TJ_MAX)]
    ++ ((List.range 26).map fun k => (5 + k, s.rdB k thermPg F.THERM.SENSOR_TJ))
    ++ [(31, b s.pins.alertLow 0 + b (s.on pwrPg F.PWR.ALERT_ACTIVE) 1 + b (s.rd thermPg F.THERM.HELD != 0) 2),
        (32, (inputs.map fun k => g / 2 ^ k % 2 * 2 ^ k).sum)]
  { s with pins := { s.pins with sensors := vals } }
/-- A PLDM request (R538): its three header bytes come back as a response with a completion code. Base commands, and readings of sensors 1
to 32, succeed; the spec gives no layout for the rest of a response, and its bytes are open but for the reading in the last four bytes
of a sensor's (log entry 43). In FAILED only base commands and sensor 1 are answered. The controller's read takes a pending interrupt. -/
def State.pldmRequest (s : State) (b : List Byte) : State :=
  if !s.i3cUp || b.length < 3 then s else
  let s := { s with pins := { s.pins with ibi := false } }
  let typ := (nth 0 b 1).toNat % 64
  let cmd := (nth 0 b 2).toNat
  let head := leBytes 1 ((nth 0 b 0).toNat % 128) ++ (b.drop 1).take 2
  let id := rqF b 3 2
  let reading := typ == 2 && (cmd == 0x11 || cmd == 0x21)
  let (r, s) := s.free
  if typ = 0 then s.emit (.pldm (head ++ leBytes 1 0 ++ Config.entropy r))
  else if s.bstage = 9 && !(reading && id == 1) then s
  else if reading && 1 ≤ id && id ≤ 32 then
    s.emit (.pldm (head ++ leBytes 1 0 ++ (Config.entropy r).take 4 ++ leBytes 4 ((tblFind id s.pins.sensors).getD 0)))
  else s.emit (.pldm (head ++ leBytes 1 5))

end Sys2Proof.Machine
end

