-- ==== Sys2Proof/Machine/ReadReg.lean ====
section
/-! DEFINITION. Reading a register: the value that an access at a page and an offset finds (R10, R16, R46 to R56), with the fields
that show other state (R43 to R45, R51 to R56, R69, R71, R77, R103, R106, R180 to R183, R201, R217, R245, R246, R277, R280, R304,
R332, R333, R335, R360, R386, R409, R412, R441, R443, R465, R495, R520 to R524). -/

namespace Sys2Proof.Machine

/-! ### The common page -/

/-- The children of a unit, in the order of R43. -/
def State.childPages (s : State) (p : Nat) : List Nat :=
  match typeOf p with
  | .tgroup => s.gangsOf (instOf p)
  | t => fixedChildren t (instOf p)
/-- UNIT_ID (R45, R51). The last child, ROOT and a free gang slot show NEXT_SIBLING 0xF_FFFF. -/
def State.unitId (s : State) (p : Nat) : Nat :=
  let free := typeOf p = .gang && !s.gangOrder.contains p
  let parent := if free then 0xFFFFF else if typeOf p = .gang then pg .tgroup (s.rd p F.GANG.TGROUP) else fixedParent (typeOf p) (instOf p)
  let next := if p = 0 || free then 0xFFFFF else nextIn p (s.childPages parent)
  typeCode (typeOf p) + instOf p * 2 ^ 8 + parent * 2 ^ 20 + next * 2 ^ 40 + 2 ^ 60
/-- UNIT_CHILD (R44, R54). -/
def State.unitChild (s : State) (p : Nat) : Nat :=
  match s.childPages p with
  | [] => 0
  | l => l.headD 0 + l.length * 2 ^ 20
/-- The state that UNIT_STAT shows: an ISLAND is RUNNING while a tile of it is (R520), a STEPSEQ is OFFLINE while its group holds no
islands (R279), and a tile group is RUNNING while a step is open on it (R58). -/
def State.shownState (s : State) (p : Nat) : UState :=
  let st := s.ust p
  match typeOf p with
  | .island => if st == .idle && (List.range 12).any fun j => s.ust (pg .tile (12 * instOf p + j)) == .running then .running else st
  | .stepseq => if s.rd (pg .tgroup (instOf p)) F.TGROUP.ISLANDS = 0 then .offline else st
  | .tgroup => if st == .idle && s.groupBusy (instOf p) then .running else st
  | _ => st
/-- The layer of the section of the open step whose dispatch began last; 0 for the prologue and the epilogue, before the first
section and without a step (R280 names the field and no more: DEDUCED, log entry 34). -/
def State.curLayer (s : State) (g : Nat) : Nat :=
  match s.openOf g with
  | none => 0
  | some o =>
    let secs := s.stepSections g o.grant
    let begun := secs.length - o.todo.length + (if o.sent.isEmpty then 0 else 1)
    let sec := if begun = 0 then 0 else (secs.drop (begun - 1)).headD 0
    if sec = 0 || sec = 1 + 6 * s.progLayers g then 0 else (sec - 1) / 6
/-- TYPE_STAT, bits [63:32] of UNIT_STAT (R103, R183, R280, R335). Every leaf of a gang shows the engines of the outermost gang's commands,
and a GANG page shows the requests of its leaves together (DEDUCED, log entry 170). -/
def State.typeStat (s : State) (p : Nat) : Nat :=
  let b (x : Bool) (n : Nat) : Nat := if x then 2 ^ n else 0
  let k := instOf p
  match typeOf p with
  | .tile | .gang =>
    let busy (e : Nat) : Bool := (s.sq (s.outer p)).run.any fun r => r.engines.contains e
    let reqs := (s.fab.reqs.filter fun r => (s.tree p).contains r.unit).length
    ((List.range 4).map fun q => b (s.qOn p q && !(s.unstarted p q).isEmpty) q).sum
    + b (busy 0) 4 + b (busy 1) 5 + b (busy 2) 6 + b (s.on p F.TILE.BUF_A_VALID) 7 + b (s.on p F.TILE.BUF_B_VALID) 8
    + b (s.on p F.TILE.BUF_ACTIVE) 9 + s.rd p F.TILE.HALT_QUEUE * 2 ^ 10 + b (s.on p F.TILE.HALT_BY_ERROR) 12
    + min reqs 1023 * 2 ^ 20
  | .halo => ((List.range 4096).filter fun e => s.rdB e p F.HALO.ENABLE == 1).length + b (!(s.hl k).pendingEval.isEmpty) 13
  | .stepseq => (s.heldOf k).length % 4 + b (s.ss k).slice.isSome 2 + b (s.inLayerWait k) 3 + s.curLayer k * 2 ^ 4
  | .contrail => (s.slots.filter fun x => decide (x.1 / 4096 = k) && x.2.st != 0).length
  | _ => 0
/-- UNIT_STAT (R10, R55, R56, R64). -/
def State.unitStat (s : State) (p : Nat) : Nat :=
  let st := s.shownState p
  if st = .absent then UState.absent.code
  else
    let b (x : Bool) (n : Nat) : Nat := if x then 2 ^ n else 0
    st.code + b (s.on p F.COM.BOUND) 4 + b (s.unitEvt p) 5 + b (s.childEvt p) 6 + b (s.on p F.COM.ISOLATED) 7
    + s.rd p F.COM.BOUND_TO * 2 ^ 8 + s.typeStat p * 2 ^ 32
/-- A register of the common page (R50). -/
def State.readCommon (s : State) (p off : Nat) : Nat :=
  match off with
  | 0x000 => s.unitId p
  | 0x008 => unitCap s.cfg (typeOf p) (instOf p)
  | 0x010 => s.unitChild p
  | 0x020 => s.unitStat p
  | 0x050 => (setBits (s.reg 0 p off) 1 1 (if (s.ua p).iso then 1 else 0)).toNat
  | 0x018 | 0x028 | 0x030 | 0x038 | 0x040 | 0x048 | 0x058 => (s.reg 0 p off).toNat
  | _ => 0

/-! ### Banks -/

/-- The bank that an index register shows at an offset: watch entries and recipe layers of a HALO, the plan of a SQUALL, map entries
of a STEPSEQ, adapter slots, lanes of a FLINK, import and route entries and transit grants, and sensors. -/
def State.bankAt (s : State) (p off : Nat) : Nat :=
  match typeOf p with
  | .halo => if 0x110 ≤ off && off < 0x140 then s.rd p F.HALO.WP_INDEX else if off = 0x148 then s.rd p F.HALO.RCP_INDEX else 0
  | .squall => if off = 0x110 || off = 0x118 then s.rd p F.SQUALL.PLAN_SEL else 0
  | .stepseq => if off = 0x170 then s.rd p F.STEPSEQ.MAP_INDEX else 0
  | .contrail => if 0x210 ≤ off && off < 0x230 then s.rd p F.CONTRAIL.AD_INDEX else 0
  | .flink => if off = 0x158 then s.rd p F.FLINK.LANE_INDEX else 0
  | .frouter =>
    if 0x108 ≤ off && off < 0x120 then s.rd frp F.FROUTER.IMP_INDEX
    else if off = 0x188 then s.rd frp F.FROUTER.RT_SET * 128 + s.rd frp F.FROUTER.RT_INDEX
    else if off = 0x230 || off = 0x238 then s.rd frp F.FROUTER.TG_SEL else 0
  | .therm => if off = 0x118 then s.rd p F.THERM.SENSOR_INDEX else 0
  | _ => 0
/-- The page that holds a register: what FROUTER and GCT pages show once per package lies on instance 0 (R386, R412, R441). -/
def homePage (p off : Nat) : Nat :=
  match typeOf p with
  | .frouter => if 0x140 ≤ off && off < 0x180 then p else if 0x260 ≤ off then p else pg .frouter 0
  | .gct => if off = 0x118 || off = 0x138 then pg .gct 0 else p
  | _ => p
/-- The stored word that an access finds. -/
def State.word (s : State) (p off : Nat) : Word := s.reg (s.bankAt p off) (homePage p off) off

/-! ### Fields that show other state -/

/-- A word with a field replaced, as a number. -/
def putF (w : Nat) (f : Fld) (v : Nat) : Nat := (setBits (BitVec.ofNat 64 w) f.hi f.lo v).toNat

/-- HALO (R180). -/
def State.readHalo (s : State) (g off w : Nat) : Nat :=
  let x := s.hl g
  match off with
  | 0x150 => putF w F.HALO.RCP_PENDING (if s.stagedTable g = x.raw then 0 else 1)
  | 0x158 => putF w F.HALO.LOG_LEVEL x.log.length
  | 0x160 => (x.log.headD (0, 0)).1
  | 0x168 => (x.log.headD (0, 0)).2
  | _ => w
/-- POOL (R217). -/
def State.readPool (s : State) (g off w : Nat) : Nat :=
  let x := s.pl g
  match off with
  | 0x138 => x.gmFree % 2 ^ 24 + s.btFree g % 2 ^ 24 * 2 ^ 24
  | 0x140 =>
    (x.blocks.filter fun b => b.2.pin).length % 2 ^ 24 + (x.blocks.filter fun b => b.2.st == .lost).length % 2 ^ 24 * 2 ^ 24
    + x.moves.length % 2 ^ 7 * 2 ^ 48
  | _ => w
/-- UPDRAFT (R219, R245, R246): the lead registers of an instance that is not the lead read zero. -/
def State.readUpdraft (s : State) (u off w : Nat) : Nat :=
  match off with
  | 0x108 =>
    match s.udGroup u with
    | none => 0
    | some g =>
      let us := s.uds_ g
      let r := us.findIdx (· == u)
      r % 8 + (us.length - 1) * 2 ^ 4 + (if r = 0 then 2 ^ 8 else 0)
  | _ => if 0x180 ≤ off && (s.leadGroup u).isNone then 0 else w
/-- STEPSEQ (R277). -/
def State.readStepseq (s : State) (g off w : Nat) : Nat :=
  let held (h : Nat) : Nat :=
    match (s.heldOf g)[h]? with
    | none => 0
    | some x => x.step + x.gen * 2 ^ 32 + 2 ^ 48 + (if x.urgent then 2 ^ 49 else 0) + (if x.retag then 2 ^ 50 else 0)
  match off with
  | 0x128 =>
    match s.openOf g with
    | none => 0
    | some o => w / 2 ^ 50 * 2 ^ 50 + o.grant.step + o.grant.gen * 2 ^ 32 + 2 ^ 48 + (if o.grant.urgent then 2 ^ 49 else 0)
  | 0x130 => held 0
  | 0x138 => held 1
  | _ => w
/-- CONTRAIL (R332, R333): the slot, the bucket and the adapter slot that the index registers show. -/
def State.readContrail (s : State) (k off w : Nat) : Nat :=
  let x := s.slot (k * 4096 + s.rd (pg .contrail k) F.CONTRAIL.RING_INDEX)
  if off < 0x180 then
    match off with
    | 0x118 => x.pi + x.ci * 2 ^ 32
    | 0x120 => x.inc + x.st * 2 ^ 20 + x.tg * 2 ^ 24 + x.session * 2 ^ 32 + x.alive * 2 ^ 48 + (if x.lost then 2 ^ 52 else 0)
    | 0x128 => x.cust + x.keep * 2 ^ 16 + x.pending * 2 ^ 32
    | 0x130 => x.bindId + x.kind * 2 ^ 16 + (match x.pin with | some j => 2 ^ 18 + j * 2 ^ 32 | none => 0)
    | _ => w
  else if k != 0 then 0
  else
    let (g, c) := s.bkShown
    let b := s.bucket g c
    match off with
    | 0x1C8 => b.rate + b.cap * 2 ^ 32 + (if b.en then 2 ^ 56 else 0)
    | 0x1D0 => code48 b.bal
    | 0x1D8 => 0
    | 0x1E0 => b.debited % 2 ^ 64
    | 0x230 => ((List.range 4096).filter fun j => s.ad j F.CONTRAIL.AD_STATE != 0).length
    | _ => w
/-- FROUTER (R386, R412). -/
def State.readFrouter (s : State) (k off w : Nat) : Nat :=
  let mask (n : Nat) (f : Nat → Bool) : Nat := ((List.range n).map fun i => if f i then 2 ^ i else 0).sum
  match off with
  | 0x138 => s.fab.reqs.length
  | 0x150 => putF w F.FROUTER.HOT_QUEUES (s.fab.hot.filter fun x => x.1 == k).length
  | 0x210 => w % 2 ^ 7
  | 0x270 => putF w F.FROUTER.LAST_LOST (s.rd frp F.FROUTER.LAST_LOST)
  | 0x218 => mask 64 fun i => !s.set8Up i
  | 0x220 => mask 64 fun i => !s.set8Up (64 + i)
  | 0x258 => (mask 24 fun l => s.lst l == .active) + (mask 24 fun l => s.lst l == .quarantined) * 2 ^ 32
  | _ => w
/-- GCT (R441): the session that SESS_INDEX shows, and the counts of the unit. -/
def State.readGct (s : State) (k off w : Nat) : Nat :=
  let i := s.rd (pg .gct 0) F.GCT.SESS_INDEX
  let x := s.sess i
  let up := x.st == .up
  let b (y : Bool) (n : Nat) : Nat := if y then 2 ^ n else 0
  match off with
  | 0x120 =>
    if up then 1 + b (x.anchor == 1) 1 + b x.alt 2 + b x.raw.isSome 3 + x.ak * 2 ^ 4 + x.epoch * 2 ^ 16 + x.perm % 2 ^ 12 * 2 ^ 32 else 0
  | 0x128 => if up then (match x.queue with | g :: _ => g.seq | [] => x.tx) + x.rx * 2 ^ 32 else 0
  | 0x130 =>
    if up then min x.srtt 0xFFFF + min x.rto 0xFFFF * 2 ^ 16 + x.unacked.length * 2 ^ 32
      + (s.subs.filter fun y => y.1 == i).length * 2 ^ 48 else 0
  | 0x140 =>
    (s.sessions.filter fun y => y.2.st == .up && y.2.anchor == k).length
    + (s.sessions.filter fun y => y.2.st == .setup && y.2.anchor == k).length * 2 ^ 16 + (65536 - (s.retained k + 1023) / 1024) * 2 ^ 32
  | _ => w
/-- RTU (R495). Keys read zero. -/
def State.readRtu (s : State) (off w : Nat) : Nat :=
  match off with
  | 0x100 => s.fusesWord
  | 0x118 => putF w F.RTU.AK_VALID (if (s.akSlot (s.rd rtuPg F.RTU.AK_INDEX)).isSome then 1 else 0)
  | _ =>
    if (0x120 ≤ off && off < 0x140) || off = 0x158 then 0
    else if 0x178 ≤ off && off < 0x198 then
      let m := (tblFind (s.rd rtuPg F.RTU.MR_INDEX) s.rtu.mr).getD (List.replicate 32 0)
      leNat ((m.drop (off - 0x178)).take 8)
    else w

/-! ### The read -/

/-- Measured values of an island (R499, R502, R520): V_NOW within 10 mV of the rail's level, RATE within 4 % above the guaranteed rate at a level
that the rail had in the last 10 µs, and POWER, which nothing bounds; the rate of an island with a failed sensor or outside the operating range is
free (log entry 27). -/
def State.readIsland (s : State) (i : Nat) : Nat × State :=
  let (a, s) := s.free
  let (r, s) := s.free
  let (w, s) := s.free
  let (x, s) := s.free
  let (y, s) := s.free
  let v := s.railNow i x
  let before := match tblFind i s.pw.rails with
    | some r => if s.now < r.since + 10000 then r.level else r.at_ (s.now - 10000) x
    | none => v
  let mean := min v before + y % (max v before - min v before + 1)
  let tj := s.rdB i thermPg F.THERM.SENSOR_TJ
  let rate := if s.rdB i thermPg F.THERM.SENSOR_BAD = 1 then r else
    match rateAt mean tj with | some g => g + r % (g * 4 / 100 + 1) | none => r
  ((v - 10 + a % 21) % 2 ^ 10 + s.vLimit i * 2 ^ 12 + tj * 2 ^ 16 + rate % 2 ^ 16 * 2 ^ 24 + w % 2 ^ 16 * 2 ^ 40, s)
/-- PIN_PEAK_W clears when it is read (R16, R521), and VIN_MV is measured: it is free. -/
def State.readVin (s : State) : Nat × State :=
  let (v, s) := s.free
  (putF (s.reg 0 pwrPg 0x118).toNat F.PWR.VIN_MV v, s.wr pwrPg F.PWR.PIN_PEAK_W 0)
/-- The scratch registers of a GANG page show the leaves together, and TILE_INFO shows the group served (the page of R102 to R106). -/
def State.readGang (s : State) (p off w : Nat) : Nat :=
  let ls := (s.leaves p).map (pg .tile)
  if ls.isEmpty then w else
  let sum (f : Fld) : Nat := (ls.map fun x => s.rd x f).sum
  match off with
  | 0x100 => putF (putF 0 F.TILE.SERVES_TGROUP (s.rd p F.GANG.TGROUP)) F.TILE.SERVES_VALID 1
  | 0x140 => putF (putF (putF w F.TILE.CORR_COUNT (min (sum F.TILE.CORR_COUNT) 0xFFFF)) F.TILE.UNCORR_COUNT
      (min (sum F.TILE.UNCORR_COUNT) 0xFFFF)) F.TILE.SPARE_ROWS_LEFT ((ls.map fun x => s.rd x F.TILE.SPARE_ROWS_LEFT).foldl min 31)
  | 0x148 => putF (putF w F.TILE.SCRUB_EN (if ls.all fun x => s.on x F.TILE.SCRUB_EN then 1 else 0)) F.TILE.SCRUB_PERIOD
      ((ls.map fun x => s.rd x F.TILE.SCRUB_PERIOD).foldl max 0)
  | 0x150 => putF w F.TILE.STALE_ARRIVALS (sum F.TILE.STALE_ARRIVALS)
  | _ => w
/-- The unit-specific registers (R16, R48): a write-only field reads zero, and so does an offset that the map does not define. -/
def State.readType (s : State) (p off : Nat) : Nat × State :=
  let k := instOf p
  if (findRow (typeOf p) off).isNone then (0, s) else
  let w := (s.word p off).toNat
  match typeOf p with
  | .root => match off with
    | 0x108 => (putF (putF w F.ROOT.PKG_INDEX s.pkgIdx) F.ROOT.APPL_PKG_NUMBER s.applNum, s)
    | 0x110 => (putF w F.ROOT.GANG_FREE (2048 - s.gangOrder.length), s)
    | _ => (w, s)
  | .island => if off = 0x108 then s.readIsland k else (w, s)
  | .gang => (s.readGang p off w, s)
  | .tgroup => (if off = 0x110 then putF w F.TGROUP.GANG_COUNT (s.gangsOf k).length else w, s)
  | .partition => (if off = 0x110 then putF w F.PARTITION.GROUPS ((s.partGroups k).map (2 ^ ·)).sum else w, s)
  | .halo => (s.readHalo k off w, s)
  | .mcache => (if off = 0x1A8 then s.dirtyCount k % 2 ^ 21 else w, s)
  | .pool => (s.readPool k off w, s)
  | .updraft => (s.readUpdraft k off w, s)
  | .stepseq => (s.readStepseq k off w, s)
  | .squall => (if off = 0x120 then putF w F.SQUALL.OUTSTANDING (s.fab.reqs.filter fun r => r.unit == p).length else w, s)
  | .contrail => (s.readContrail k off w, s)
  | .frouter => (s.readFrouter k off w, s)
  | .gct => (s.readGct k off w, s)
  | .enet =>
    (if 0x138 ≤ off && off < 0x170 then 0 else w, s)
  | .rtu => (s.readRtu off w, s)
  | .pwr => if off = 0x118 then s.readVin else (w, s)
  | .therm => (if off = 0x118 && 24 ≤ s.rd p F.THERM.SENSOR_INDEX then putF w F.THERM.V_THERM 0 else w, s)
  | _ => (w, s)
/-- A register is read (R10, R46 to R49): the status, the value and the state, which some reads change. -/
def State.readReg (s : State) (p off : Nat) : Status × Nat × State :=
  if (unitOf p).isNone then (.range, 0, s)
  else if off < 0x100 then
    if absentPg s.cfg p && off != 0x000 && off != 0x008 && off != 0x020 then (.ok, 0, s) else (.ok, s.readCommon p off, s)
  else if absentPg s.cfg p then (.ok, 0, s)
  else let (v, s) := s.readType p off; (.ok, v, s)

end Sys2Proof.Machine
end

