-- ==== Sys2Proof/Machine/RegWrite.lean ====
section
/-! DEFINITION. Writing a register (R10, R16, R46 to R49, R59 to R62, R66 to R71, R73, R424, R443, R449, R469, R496, R514, R546 and the write
rules of each page): the checks that refuse a write as a whole, and what the write of each register does. -/

namespace Sys2Proof.Machine

/-- A register's word with the RW bits of the written word merged in. -/
def State.merged (s : State) (p off : Nat) (v : Word) : Word :=
  let rw := BitVec.ofNat 64 (rwMask (typeOf p) off)
  (s.word p off &&& ~~~ rw) ||| (v &&& rw)
/-- Store the RW bits of a write. -/
def State.store (s : State) (p off : Nat) (v : Word) : State := s.setReg (s.bankAt p off) (homePage p off) off (s.merged p off v)
/-- Complete with the status that an operation gives with its state. -/
def answerOf (x : Status × State) : State := x.2.answer x.1

/-! ### The common page -/

/-- EVT_MASK is written (R62, R64): clearing the mask of a flag that is set reports it. -/
def State.maskWrite (s : State) (p : Nat) (v : Word) : State :=
  let old := s.reg 0 p 0x030
  let hit := s.reg 0 p 0x028 &&& old &&& ~~~ v
  forEach ((List.range 64).filter fun i => hit.getLsbD i) (fun _ s => s.report p) (s.setReg 0 p 0x030 v)
/-- ERR_INFO0 is written (R66): clearing VALID clears both registers. -/
def State.errClear (s : State) (p : Nat) (v : Word) : State :=
  if v.getLsbD 16 then (s.setReg 0 p 0x040 0).setReg 0 p 0x048 0 else s
/-- A write of the common page (R50). A reset of ROOT is a warm reset (R446), and ROOT has no wrapper. -/
def State.writeCommon (s : State) (p off : Nat) (v : Word) : State :=
  match off with
  | 0x018 => s.unitCtrl p v
  | 0x028 => s.setReg 0 p 0x028 (s.reg 0 p 0x028 &&& ~~~ v)
  | 0x030 => s.maskWrite p v
  | 0x040 => s.errClear p v
  | 0x050 =>
    if p = 0 then
      if v.getLsbD 1 || v.getLsbD 2 then s.answer .badArg else if v.getLsbD 0 then s.warmReset 4 else s
    else s.unitReset p v
  | 0x058 => if v.getLsbD 0 then s.selftestStart p else s
  | _ => s

/-! ### Unit pages -/

/-- A write of a TILE or GANG page (R71, R106 to R109). -/
def State.writeTile (s : State) (p off : Nat) (v : Word) : State :=
  if typeOf p = .gang && 0xE00 ≤ off then
    if off = 0xE08 then s.gangCtrl p v
    else if !(off == 0xE00 || 0xF00 ≤ off) || s.stored p = .offline && !s.on p F.COM.BOUND then s.store p off v
    else s.answer .illegalState
  else if off = 0x118 then (if v.getLsbD 0 then answerOf (s.applyRegions p) else s)
  else if typeOf p = .gang && (off = 0x148 || (0x120 ≤ off && off < 0x140)) then
    forEach ((s.leaves p).map (pg .tile)) (fun x s => s.store x off v) (s.store p off v)
  else if 0x200 ≤ off && off < 0x300 then
    let q := (off - 0x200) / 0x40
    match (off - 0x200) % 0x40 with
    | 0x00 | 0x20 => answerOf (s.writeQBase p q off v)
    | 0x08 => answerOf (s.writeQCfg p q v)
    | 0x18 => answerOf (s.writeTail p q (bits v 15 0) true)
    | 0x28 => answerOf (s.writeCplHead p q (bits v 15 0) true)
    | _ => s
  else s.store p off v
/-- A write of a HALO page (R180 to R182). -/
def State.writeHalo (s : State) (g off : Nat) (v : Word) : State :=
  let p := pg .halo g
  if 0x110 ≤ off && off < 0x138 then s.haloWpWrite g ((off - 0x110) / 8) v
  else match off with
    | 0x148 => s.haloRcpWrite g (bits v 3 0)
    | 0x170 => if v.getLsbD 0 then s.haloPop g else s
    | _ => s.store p off v
/-- A write of a GMEM page (R194, R196). -/
def State.writeGmem (s : State) (k off : Nat) (v : Word) : State :=
  let p := pg .gmem k
  if off = 0x120 then
    if v.getLsbD 0 && v.getLsbD 1 then (s.wr p F.GMEM.RELOC_STATUS Status.badArg.code).answer .badArg
    else if v.getLsbD 0 then s.gmemCopy k else if v.getLsbD 1 then s.gmemReturn k else s
  else s.store p off v
/-- A write of a MCACHE page (R201): the masks of classes 13 to 15 keep their value. -/
def State.writeMcache (s : State) (k off : Nat) (v : Word) : State :=
  if off = 0x198 then (if v.getLsbD 0 then s.mcFlushStart k else s)
  else if 0x170 ≤ off && off < 0x188 then s
  else s.store (pg .mcache k) off v
/-- A write of a POOL page (R207, R215, R217). -/
def State.writePool (s : State) (g off : Nat) (v : Word) : State :=
  let p := pg .pool g
  match off with
  | 0x130 => if v.getLsbD 0 then s.poolApply g else s
  | 0x150 => s.poolTail g (bits v 15 0)
  | 0x168 => s.poolCplHead g (bits v 15 0)
  | 0x170 =>
    if v.getLsbD 0 && !s.on p F.POOL.REQ_ENABLE then
      if (s.pl g).metaR.2 = 0 then s.answer .illegalState
      else
        let s := forEach [F.POOL.REQ_TAIL, F.POOL.REQ_HEAD, F.POOL.CPL_TAIL, F.POOL.CPL_HEAD] (fun f s => s.wr p f 0) s
        (s.setPl g (s.pl g).ringClear).wr p F.POOL.REQ_ENABLE 1
    else s.store p off v
  | _ => s.store p off v
/-- A write of a CHECK page (R232). -/
def State.writeCheck (s : State) (k off : Nat) (v : Word) : State :=
  let p := pg .check k
  if (0x100 ≤ off && off ≤ 0x118) || off = 0x128 then
    match s.checkRefuse p off v with
    | some st => s.answer st
    | none => if off = 0x128 then s.checkPreset p (bits v 1 0) else s.store p off v
  else s
/-- A write of an UPDRAFT page (R235, R237, R240, R245, R246). -/
def State.writeUpdraft (s : State) (u off : Nat) (v : Word) : State :=
  let p := pg .updraft u
  let on := s.on p F.UPDRAFT.ENABLE
  let n (l : List Nat) : Nat := (l.filter fun i => v.getLsbD i).length
  if off < 0x180 then
    match off with
    | 0x100 => if s.ust p == .idle && !on then s.store p off v else s.answer .illegalState
    | 0x110 => if on then s.answer .illegalState else s.store p off v
    | 0x118 =>
      if v.getLsbD 1 then
        if v.getLsbD 0 && !on then (s.wr p F.UPDRAFT.TABLE_STATUS Status.illegalState.code).answer .illegalState else s.udTableCheck u
      else s.udEnable u (bits v 0 0)
    | _ => s
  else if (s.leadGroup u).isNone then s.answer .illegalState
  else
    let ls := s.rd p F.UPDRAFT.LOAD_STATE
    let none_ := s.rd p F.UPDRAFT.SWAP_STATE = 0
    match off with
    | 0x188 | 0x190 | 0x198 =>
      let old := s.reg 0 p off
      if ls = 1 || ls = 2 || (bits old 55 32 != 0 && bits v 23 0 != bits old 23 0) then s.answer .illegalState else s.store p off v
    | 0x1A8 =>
      if 1 < n [2, 3, 4] then (s.wr p F.UPDRAFT.LOAD_STATUS Status.badArg.code).answer .badArg
      else if v.getLsbD 2 then s.loadStart u v
      else
        let s' := s.store p off v
        if v.getLsbD 3 then (let t := s'.loadResume u; if t.ret = .ok then t else s.answer t.ret)
        else if v.getLsbD 4 then (let t := s.loadAbort u; if t.ret = .ok then t.store p off v else t)
        else s'
    | 0x1C0 =>
      if 1 < n [24, 25, 26] then s.swapFail u .badArg
      else if v.getLsbD 24 then s.swapPrepare u v
      else if v.getLsbD 25 then s.swapCommit u
      else if v.getLsbD 26 then s.swapCancel u
      else if none_ then s.store p off v else s.answer .illegalState
    | 0x1C8 | 0x1D0 | 0x1D8 => if none_ then s.store p off v else s.answer .illegalState
    | _ => s.store p off v
/-- A write of a STEPSEQ page (R250, R251, R257, R274, R277, R278). -/
def State.writeStepseq (s : State) (g off : Nat) (v : Word) : State :=
  let p := pg .stepseq g
  let busy := (s.openOf g).isSome || !(s.heldOf g).isEmpty
  match off with
  | 0x100 =>
    if bits v 17 16 = 3 then s.answer .badArg
    else if busy && bits v 15 0 != s.rd p F.STEPSEQ.JOB_ID then s.answer .illegalState else s.store p off v
  | 0x108 => s.progBaseWrite g v
  | 0x110 => if v.getLsbD 0 then s.progCheck g else s
  | 0x148 =>
    if v.getLsbD 0 && v.getLsbD 1 then s.answer .badArg
    else if v.getLsbD 0 then s.abortStep g else if v.getLsbD 1 then s.layerGo g else s
  | 0x170 =>
    let q := unitOf (bits v 19 0)
    let unit := match q with | some (.tile, _) | some (.gang, _) => true | _ => false
    if !unit then s.answer .range else if busy then s.answer .illegalState else s.store p off v
  | _ => s.store p off v
/-- A write of a SQUALL page (R289, R304). -/
def State.writeSquall (s : State) (k off : Nat) (v : Word) : State :=
  match off with
  | 0x100 => s.sqGroupsWrite k (bits v 7 0)
  | 0x110 => s.planBaseWrite k v
  | 0x118 => if v.getLsbD 0 then s.planCheck k else s
  | _ => s.store (pg .squall k) off v
/-- A write of a CONTRAIL page (R322, R324, R326, R327, R332 to R334). -/
def State.writeContrail (s : State) (k off : Nat) (v : Word) : State :=
  let p := pg .contrail k
  let adFree (j : Nat) : Bool := s.ad j F.CONTRAIL.AD_STATE == 0
  if off < 0x180 then
    match off with
    | 0x100 => s.ctEnable k (bits v 0 0)
    | 0x108 =>
      if bits v 36 32 < 10 || 16 < bits v 36 32 then s.answer .badArg
      else if s.on p F.CONTRAIL.ENABLE || s.slots.any (fun x => decide (x.1 / 4096 = k) && x.2.st != 0) then s.answer .illegalState
      else s.store p off v
    | _ => s.store p off v
  else if k != 0 then s.answer .illegalState
  else if off < 0x1C0 then (if 16 < bits v 4 0 then s.answer .badArg else s.store p off v)
  else match off with
    | 0x1C8 => s.bkRate v
    | 0x1D0 => s.bkBalance v.toNat
    | 0x1D8 => s.bkCredit v.toNat
    | 0x200 => if (List.range 4096).all adFree then s.store p off v else s.answer .illegalState
    | 0x210 | 0x218 => if adFree (s.rd p F.CONTRAIL.AD_INDEX) then s.store p off v else s.answer .illegalState
    | 0x228 =>
      if v.getLsbD 0 && v.getLsbD 2 then (s.setAd (s.rd p F.CONTRAIL.AD_INDEX) F.CONTRAIL.AD_STATUS Status.badArg.code).answer .badArg
      else if v.getLsbD 0 then s.adInstall (v.getLsbD 1) else if v.getLsbD 2 then s.adRetire else s
    | _ => s.store p off v
/-- A write of a FLINK page (R351, R357, R359 to R361). -/
def State.writeFlink (s : State) (l off : Nat) (v : Word) : State :=
  let p := pg .flink l
  match off with
  | 0x100 => s.flCfgWrite l (s.merged p off v)
  | 0x108 => (s.store p off v).nbrExpect l
  | 0x128 => s.vcAllocWrite l (s.merged p off v)
  | 0x130 => if 16 < bits v 20 16 then s.answer .badArg else (s.store p off v).flGo l
  | 0x138 =>
    let n := ([0, 1, 2].filter fun i => v.getLsbD i).length
    if 7 < bits v 11 8 || 1 < n then (if v.getLsbD 1 || v.getLsbD 2 then s.wr p F.FLINK.CTRL_STATUS Status.badArg.code else s).answer .badArg
    else
      let t := s.store p off v
      if v.getLsbD 0 then t.flRetrain l
      else if v.getLsbD 1 then (let x := t.flAccept l; if x.ret = .ok then x else (s.wr p F.FLINK.CTRL_STATUS x.ret.code).answer x.ret)
      else if v.getLsbD 2 then (let x := t.recal l; if x.ret = .ok then x else (s.wr p F.FLINK.CTRL_STATUS x.ret.code).answer x.ret)
      else t
  | 0x150 => if 8 < bits v 35 32 then s.answer .badArg else s.store p off v
  | _ => s.store p off v
/-- A write of a FROUTER page (R386, R387, R410, R412, R413). -/
def State.writeFrouter (s : State) (p off : Nat) (v : Word) : State :=
  if 0x108 ≤ off && off < 0x120 then s.impWrite (s.bankAt p off) off (s.merged p off v)
  else if 0x190 ≤ off && off < 0x1B0 then s.psetWrite ((off - 0x190) / 8) v
  else if 0x1B0 ≤ off && off < 0x1F0 then s.entryWrite 0 off (s.merged p off v)
  else match off with
    | 0x120 => s.frCfgWrite (s.merged p off v)
    | 0x180 => s.rtSelWrite (s.merged p off v)
    | 0x188 => s.entryWrite (s.bankAt p off) off (s.merged p off v)
    | 0x1F0 => s.domainWrite (s.merged p off v)
    | 0x210 => s.lostCtrl v
    | 0x230 | 0x238 => s.tgWrite (s.bankAt p off) off (s.merged p off v)
    | _ => s.store p off v
/-- A write of an ENET page (R425, R443): key registers are stored whole. -/
def State.writeEnet (s : State) (k off : Nat) (v : Word) : State :=
  let p := pg .enet k
  if 0x138 ≤ off && off < 0x170 then s.setReg 0 p off (if off = 0x158 || off = 0x168 then v &&& 0xFFFFFFFF else v)
  else match off with
    | 0x100 | 0x110 =>
      if s.rd p F.ENET.SPEED != 0 then s.answer .illegalState
      else if off = 0x100 && bits v 1 0 = 3 then s.answer .badArg else s.store p off v
    | 0x130 => let t := s.store p off v; if v.getLsbD 10 then t.saLoad k else t
    | _ => s.store p off v
/-- The status field of an RTU action that is refused records it (R546). -/
def State.rtuRefused (s : State) (off : Nat) (v : Word) : State :=
  let no := Status.illegalState.code
  if off = 0x110 && (v.getLsbD 9 || v.getLsbD 12) then s.wr rtuPg F.RTU.SVN_STATUS no
  else if off = 0x140 && (v.getLsbD 0 || v.getLsbD 1) then s.wr rtuPg F.RTU.AK_STATUS no
  else if off = 0x150 && (v.getLsbD 0 || v.getLsbD 1 || v.getLsbD 2) then s.wr rtuPg F.RTU.FW_STATUS no
  else s
/-- A write of the RTU page (R476 to R480, R488 to R496): services need the OPERATIONAL state, and key registers are stored whole. -/
def State.writeRtu (s : State) (off : Nat) (v : Word) : State :=
  if 0x110 ≤ off && off ≤ 0x160 && s.rd rtuPg F.RTU.RTU_STATE != 1 then (s.rtuRefused off v).answer .illegalState
  else if 0x120 ≤ off && off < 0x140 then s.setReg 0 rtuPg off v
  else match off with
    | 0x110 => s.svnWrite v
    | 0x140 => s.akCtrl v
    | 0x150 => s.fwCtrl v
    | 0x158 => s.rtuEnd v
    | _ => s.store rtuPg off v
/-- A write of the unit-specific registers of a page (R48): an offset that the map does not define discards it. -/
def State.writeType (s : State) (p off : Nat) (v : Word) : State :=
  let k := instOf p
  if (findRow (typeOf p) off).isNone then s else
  match typeOf p with
  | .island => if off = 0x100 then s.vSetWrite k v else s
  | .tgroup => if off = 0x100 then s.tgIslands k v else if off = 0x108 then s.tgPart k (s.merged p off v) else s
  | .partition => if off = 0x110 then s.partCtrl k v else s.membersWrite k off v
  | .tile | .gang => s.writeTile p off v
  | .halo => s.writeHalo k off v
  | .gmem => s.writeGmem k off v
  | .mcache => s.writeMcache k off v
  | .btier => if off = 0x120 && v.getLsbD 0 then s.btRetrain k else s
  | .pool => s.writePool k off v
  | .check => s.writeCheck k off v
  | .updraft => s.writeUpdraft k off v
  | .stepseq => s.writeStepseq k off v
  | .squall => s.writeSquall k off v
  | .contrail => s.writeContrail k off v
  | .flink => s.writeFlink k off v
  | .frouter => s.writeFrouter p off v
  | .gct => if off = 0x138 then s.sessCtrl v else s.store p off v
  | .enet => s.writeEnet k off v
  | .time =>
    if off = 0x108 then (if bits v 17 16 = 3 then s.answer .badArg else s.timeCfgWrite (s.merged p off v))
    else if off = 0x128 then (if v.getLsbD 0 then s.todArm else s) else s.store p off v
  | .boot => if off = 0x130 then (if v.getLsbD 0 then s.optCommit else s) else s.store p off v
  | .rtu => s.writeRtu off v
  | .pwr => s.pwrWrite off (s.merged p off v)
  | .therm => s.thermWrite off (s.merged p off v)
  | _ => s.store p off v

/-! ### The write -/

/-- The writes that an UNMANAGED package refuses (R514). -/
def State.unmanagedBars (s : State) (p off : Nat) (v : Word) : Bool :=
  s.stored 0 == .unmanaged &&
  match typeOf p with
  | .frouter =>
    (0x108 ≤ off && off < 0x120) || off = 0x128 || off = 0x130 || (0x188 ≤ off && off ≤ 0x1F0) || off = 0x230 || off = 0x238
    || (0x240 ≤ off && off < 0x258)
  | .flink =>
    let old := s.reg 0 p 0x100
    (off = 0x100 && (bits v 1 0 != bits old 1 0 || bits v 11 8 != bits old 11 8)) || off = 0x108 || (off = 0x138 && v.getLsbD 1)
  | .partition => off = 0x100 || off = 0x108 || (off = 0x110 && (v.getLsbD 0 || v.getLsbD 1))
  | .tgroup => off = 0x100 || off = 0x108
  | .rtu =>
    (off = 0x150 && (v.getLsbD 1 || v.getLsbD 2)) || (off = 0x110 && (v.getLsbD 9 || v.getLsbD 12)) || (off = 0x158 && v.getLsbD 1)
  | .boot => off = 0x130 && v.getLsbD 0
  | _ => false
/-- The status that refuses a write as a whole: the address (R46, R48), an ABSENT unit (R10), the role and the permission of the session
(R443, R469), a closed wrapper (R449), a bound unit (R73), and an UNMANAGED package (R514). -/
def State.writeBar (s : State) (co keys : Bool) (p off : Nat) (v : Word) : Option Status :=
  if off % 8 != 0 then some .badArg
  else if (unitOf p).isNone || 4096 ≤ off then some .range
  else if absentPg s.cfg p then some .absent
  else if typeOf p = .rtu && 0x110 ≤ off && off ≤ 0x160 && !co then some .perm
  else if typeOf p = .enet && 0x130 ≤ off && off < 0x170 && !keys then some .perm
  else if 0x100 ≤ off && s.on p F.COM.ISOLATED then some .isolated
  else if s.on p F.COM.BOUND && 0x100 ≤ off && off < 0xE00 then some .illegalState
  else if s.unmanagedBars p off v then some .illegalState
  else none
/-- The page of a tile position or a gang slot. -/
def isTile (p : Nat) : Bool := typeOf p == .tile || typeOf p == .gang
/-- The offset of a queue's Q_TAIL or Q_CPL_HEAD on a tile or gang page (R102). -/
def isQueueIndex (p off : Nat) : Bool :=
  isTile p && 0x200 ≤ off && off < 0x300 && ((off - 0x200) % 0x40 == 0x18 || (off - 0x200) % 0x40 == 0x28)
/-- A refused write of Q_TAIL or Q_CPL_HEAD sets Q_REFUSED (R105), whatever refuses it (DEDUCED, log entry 169). -/
def State.qRefused (s : State) (p off : Nat) : State := if isQueueIndex p off then s.setEvt p F.EVT.TILE.Q_REFUSED else s
/-- A register is written: `co` and `keys` say that the session has the Crypto Officer role and LINK_KEYS. -/
def State.regWrite (s : State) (co keys : Bool) (p off : Nat) (v : Word) : State :=
  match s.writeBar co keys p off v with
  | some st => (s.qRefused p off).answer st
  | none => if off < 0x100 then s.writeCommon p off v else s.writeType p off v

end Sys2Proof.Machine
end

