-- ==== Sys2Proof/Machine/Arrive.lean ====
section
/-! DEFINITION. What comes in from outside: REG_ACCESS and its remote form (R49, R430, R431), management messages (R385), the packets of a
link (R351, R354, R365, R371, R383 to R385, R393, R396), and the messages of a GCT session by type (R419). -/

namespace Sys2Proof.Machine

/-! ### REG_ACCESS -/

/-- The entries of a REG_ACCESS (R430). -/
def raCount (m : Msg) : Nat := rqF m.body 0 1
/-- A byte of entry `k`. -/
def raF (m : Msg) (k o n : Nat) : Nat := rqF m.body (8 + 16 * k + o) n
/-- COUNT, the length and the reserved bytes hold (R430). -/
def raOk (m : Msg) : Bool :=
  decide (1 ≤ raCount m) && decide (raCount m ≤ 64) && m.body.length == 8 + 16 * raCount m && decide (rqF m.body 1 1 < 2)
  && rqF m.body 3 5 == 0 && (List.range (raCount m)).all fun k => raF m k 5 3 == 0
/-- Bytes put into a list at a place. -/
def putAt (b : List Byte) (o : Nat) (x : List Byte) : List Byte := b.take o ++ x ++ b.drop (o + x.length)
/-- Entry `k` completes with a status and a value. -/
def raPut (k : Nat) (st : Status) (v : Nat) (m : Msg) : Msg :=
  { m with body := putAt (putAt m.body (8 + 16 * k + 5) [BitVec.ofNat 8 st.code]) (8 + 16 * k + 8) (leBytes 8 v) }
/-- Entry `k` completes; after a failure under STOP_ON_ERROR the entries that follow complete with KILLED. The entry that is next. -/
def raFill (k : Nat) (st : Status) (v : Nat) (m : Msg) : Nat × Msg :=
  let m := raPut k st v m
  if st != .ok && rqF m.body 1 1 == 1 then
    (raCount m, (List.range (raCount m)).foldl (fun m j => if k < j then raPut j .killed (raF m j 8 8) m else m) m)
  else (k + 1, m)
/-- The page and the offset of an address (R46). -/
def addrPage (a : Nat) : Nat × Nat := (a / 4096, a % 4096)
/-- The access of entry `k` of a session's message is performed in another package (R431). -/
def State.raFar (s : State) (m : Msg) : Bool := decide (128 ≤ rqF m.body 2 1) && rqF m.body 2 1 % 128 != s.pkgIdx
/-- The status that an entry meets before any access: permissions (R430, R431), OP, and the pages that RECOVERY serves (R463). -/
def State.raBar (s : State) (m : Msg) (k : Nat) : Option Status :=
  let perm := (s.sess m.session).perm
  let op := raF m k 4 1
  if 128 ≤ rqF m.body 2 1 && perm / 2 ^ 9 % 2 = 0 then some .perm
  else if 2 ≤ op then some .badArg
  else if perm / 2 ^ op % 2 = 0 then some .perm
  else if raF m k 0 4 % 8 != 0 then some .badArg
  else if s.recovering && typeOf (raF m k 0 4 / 4096) != .boot then some .illegalState
  else none
/-- The session's admission slot has the Crypto Officer role (R469, R479). -/
def State.sessCo (s : State) (i : Nat) : Bool := match s.akSlot (s.sess i).ak with | some a => a.co | none => false
/-- Entry `k` is performed here: its status and value. A write that UNMANAGED refuses returns ROOT's state code (R514). -/
def State.raLocal (s : State) (m : Msg) (k : Nat) : Status × Nat × State :=
  let (p, off) := addrPage (raF m k 0 4)
  let v := raF m k 8 8
  if raF m k 4 1 = 0 then
    let (st, x, s) := s.readReg p off
    (st, if st = .ok then x else 0, s)
  else
    let w := BitVec.ofNat 64 v
    let co := s.sessCo m.session
    let keys := (s.sess m.session).perm / 2 ^ 11 % 2 == 1
    let barred := s.unmanagedBars p off w && s.writeBar co keys p off w == some .illegalState
    let t := (s.answer .ok).regWrite co keys p off w
    (t.ret, if barred then (s.stored 0).code else v, t)
/-- The control processors that can issue a remote access. -/
def State.cprocsUp (s : State) : List Nat :=
  (List.range 8).filter fun k => s.stored (pg .cproc k) == .idle && !s.on (pg .cproc k) F.COM.ISOLATED
/-- Entry `k` goes out as MGMT_RD or MGMT_WR from a control processor (R385, R431); with none in service it has no answer to come. -/
def State.raIssue (s : State) (m : Msg) (k : Nat) : Option Status × State :=
  if s.cprocsUp.isEmpty then (some .timeout, s)
  else
    let (c, s) := s.pick 0 s.cprocsUp
    let wr := raF m k 4 1 == 1
    let p : Pkt := { op := if wr then 0x63 else 0x62, dstDom := s.ownDom, dstPkg := rqF m.body 2 1 % 128, addr := raF m k 0 4,
                     len := if wr then 8 else 0, pay := if wr then leBytes 8 (raF m k 8 8) else [] }
    (none, s.issue (mkReq (pg .cproc c) p 2 m.session k m.id))
/-- The first of a session's REG_ACCESS messages goes on to entry `k`. -/
def State.raSet (s : State) (i k : Nat) (m : Msg) : State :=
  match s.remote.findIdx? fun y => y.2.session == i with
  | some j => { s with remote := s.remote.take j ++ [(k, m)] ++ s.remote.drop (j + 1) }
  | none => s
/-- The session's REG_ACCESS messages are performed in order, each entry after the one before it, up to one that waits for another
package (R49, R430, R431). `n` bounds the entries. -/
def State.raRun (s : State) (i : Nat) : Nat → State
  | 0 => s
  | n + 1 =>
    match s.remote.find? fun y => y.2.session == i with
    | none => s
    | some (k, m) =>
      if raCount m ≤ k then (({ s with remote := s.remote.erase (k, m) }).gctSend i 0x11 m.id 0 m.body).raRun i n
      else
        let v := raF m k 8 8
        match s.raBar m k with
        | some st => let (j, m) := raFill k st (if raF m k 4 1 = 1 then v else 0) m; (s.raSet i j m).raRun i n
        | none =>
          if s.raFar m then
            match s.raIssue m k with
            | (none, s) => s
            | (some st, s) => let (j, m) := raFill k st (if raF m k 4 1 = 1 then v else 0) m; (s.raSet i j m).raRun i n
          else
            let (st, x, s) := s.raLocal m k
            let (j, m) := raFill k st x m
            (s.raSet i j m).raRun i n
/-- Enough passes for every entry that waits. -/
def State.raBound (s : State) : Nat := (s.remote.length + 1) * 66
/-- REG_ACCESS (R49, R430): messages of one session are performed in the order in which it sent them. -/
def State.regAccess (s : State) (m : Msg) : State :=
  if !raOk m then (s.gctSend m.session 0x0F m.id Status.badArg.code []).answer .badArg
  else
    let busy := s.remote.any fun y => y.2.session == m.session
    let s := { s with remote := s.remote ++ [(0, m)] }
    if busy then s else (s.raRun m.session s.raBound).answer .ok
/-- The entry that a session waits for has a status (R431). -/
def State.raAnswer (s : State) (i k id : Nat) (st : Status) (data : List Byte) : State :=
  match s.remote.find? fun y => y.2.session == i with
  | none => s
  | some (j, m) =>
    if j != k || m.id != id then s
    else
      let v := if raF m k 4 1 = 1 then raF m k 8 8 else if st = .ok then leNat (data.take 8) else 0
      let (j, m) := raFill k st v m
      let s := s.raSet i j m
      s.raRun i s.raBound
/-- An entry waits whose request nothing holds any more: it had no answer (R431). -/
def State.raSettle (s : State) : State :=
  let held (y : Nat × Msg) : Bool :=
    let mine (r : Req) : Bool := r.kind == 2 && r.a == y.2.session && r.b == y.1 && r.c == y.2.id
    s.fab.reqs.any mine || s.fab.wait.any mine || s.fab.done.any fun d => mine d.req
  forEach (s.remote.filter fun y =>
      (s.remote.find? fun z => z.2.session == y.2.session) == some y && !held y) (fun y s =>
    s.raAnswer y.2.session y.1 y.2.id .timeout []) s

/-! ### Management and packets -/

/-- The source of a management request may make it (R385). -/
def State.mgmtOk (s : State) (p : Pkt) : Bool :=
  p.srcDom == s.ownDom &&
  (if p.srcPkg < 64 then s.rd frp F.FROUTER.MGMT_ALLOW0 else s.rd frp F.FROUTER.MGMT_ALLOW1) / 2 ^ (p.srcPkg % 64) % 2 == 1
/-- MGMT_RD and MGMT_WR arrive (R46, R385, R514). -/
def State.mgmtServe (s : State) (l : Nat) (p : Pkt) : State :=
  let r := linkRouter l
  if !pktOk p then (s.checkFail r).sendAnswer (some l) p .badArg
  else if s.mgmtOk p && p.addr % 8 != 0 then s.sendAnswer (some l) p .badArg
  else if !s.mgmtOk p then
    ((s.bumpSat r F.FROUTER.MGMT_REFUSED).setEvt r F.EVT.FROUTER.MGMT_REFUSED).sendAnswer (some l) p .perm
  else
    let (q, off) := addrPage p.addr
    if p.op = 0x62 then
      let (st, v, s) := s.readReg q off
      s.sendAnswer (some l) p st (if st = .ok then leBytes 8 v else [])
    else
      let t := (s.answer .ok).regWrite false false q off (BitVec.ofNat 64 (leNat p.pay))
      t.sendAnswer (some l) p t.ret
/-- A packet for this package is acted on by its opcode (R365, R371, R383 to R385). `waiting` and `top` serve R381. -/
def State.pktServe (s : State) (l : Nat) (p : Pkt) (es : List MemErr) (waiting top : Nat) : State :=
  let r := linkRouter l
  let plain := answerOk p
  match p.op with
  | 0x01 | 0x02 | 0x03 | 0x04 | 0x05 => (s.hotLine l (p.addr % 2 ^ 45) waiting top).ftHome l p es
  | 0x06 | 0x07 => s.ftHome l p es
  | 0x21 | 0x22 | 0x26 | 0x43 | 0x64 => if plain then s.ftAnswer l p else s.checkFail r
  | 0x27 => if plain then s.noticeAck p else s.checkFail r
  | 0x23 => if plain then s.ftHold p else s.checkFail r
  | 0x40 | 0x41 => let (st, s) := s.msgTile (some l) p; s.sendAnswer (some l) p st
  | 0x42 => let (st, s) := s.sqFrag p; (if st = .ok then s else s.checkFail r).sendAnswer (some l) p st
  | 0x60 => if pktOk p then s.sqReady p else s.checkFail r
  | 0x61 => if pktOk p then s.swapReady l p else s.checkFail r
  | 0x62 | 0x63 => s.mgmtServe l p
  | _ => s
/-- A packet arrives on a link and a virtual channel: what the link does not carry is discarded (R351, R354), an opcode that the channel
does not carry is refused (R365), a private link serves its partition only (R396), and what is for another package goes on (R393), but for the answer
to a request that this router combined, which is split (R382). -/
def State.pktAct (s : State) (l vc : Nat) (p : Pkt) (es : List MemErr) (waiting top : Nat) (carried : Bool) : State :=
  let fits := match vcOf p.op with | some v => v == vc || vc == 3 | none => false
  if !carried then s.vcDiscard l
  else if !fits then s.checkFail (linkRouter l)
  else if !s.privateOk l vc p then
    let s := s.noteRefused (linkRouter l) false true
    if isRequest p.op then s.sendAnswer (some l) p .perm else s
  else if p.dstDom != s.ownDom || p.dstPkg != s.pkgIdx then
    match if p.op = 0x22 then s.splitOf p else none with
    | some w => s.splitAnswer w (pktStatus p)
    | none => s.forward l p
  else s.pktServe l p es waiting top
/-- A packet arrives on a link: it takes and frees its space in the receive buffer (R352). -/
def State.pktArrive (s : State) (l vc : Nat) (p : Pkt) (es : List MemErr := []) (waiting : Nat := 0) (top : Nat := 0)
    (units : Nat := pktUnits p) : State :=
  match s.carries l vc with
  | none => s
  | some c =>
    let f := s.fl l
    let s := s.setFl l { f with rxUsed := setNth (nth 0 f.rxUsed vc + units) f.rxUsed vc }
    let s := s.pktAct l vc p es waiting top c
    if s.flFramed l then s.creditBack l vc else s
/-- A packet of given opcodes arrives for this package on a link, on the opcode's own channel. -/
def State.ftArrive (s : State) (l : Nat) (p : Pkt) (ops : List Nat) (es : List MemErr := []) (waiting : Nat := 0) (top : Nat := 0) : State :=
  if s.ftOk l p ops then s.pktArrive l ((vcOf p.op).getD 0) p es waiting top else s
/-- A packet for another package arrives on a link (R393). -/
def State.passArrive (s : State) (l vc : Nat) (p : Pkt) : State :=
  if s.flHas l && vc < 5 && (p.dstDom != s.ownDom || p.dstPkg != s.pkgIdx) then s.pktArrive l vc p else s

/-! ### Messages of a session -/

/-- A message of a session is acted on by its type (R419). -/
def State.gctAct (s : State) (m : Msg) (es : List MemErr) : State :=
  s.gctMsg m fun s =>
    match m.typ with
    | 0x05 => s.sessEnd m.session
    | 0x10 => s.regAccess m
    | 0x18 | 0x19 => s.dpOp m es
    | 0x20 => s.evtSub m
    | 0x28 => s.grant m
    | 0x30 => s.seqReq m
    | 0x39 => s.pullData m es
    | 0x40 => s.attestReq m
    | 0x48 => s.heartbeat m
    | _ => s
/-- A message of a session. -/
def State.gctMessage (s : State) (session typ id status : Nat) (body : List Byte) (es : List MemErr := []) : State :=
  s.gctAct ⟨session, typ, id, status, body⟩ es
/-- A data segment arrives (R426): the messages that it completes are acted on in SEQ order, and then a segment that disagrees with its message
ends the session with BAD_ARG (R420). -/
def State.segmentRx (s : State) (d : Dgram) (es : List MemErr) : State :=
  let ((ms, bad), s) := s.gctSegment d
  let s := forEach ms (fun m s => s.gctAct m es) s
  if bad then (s.sessEnd d.session).answer .badArg else s

end Sys2Proof.Machine
end

