-- ==== Sys2Proof/Machine/Frame.lean ====
section
/-! DEFINITION. A frame arrives on a link (R341 to R347, R352, R355, R356): its tag, its order, its flits, its credits, its control
messages and the packets of its byte stream (R344, R366, R368). What the lanes delivered is an operand: whether both codewords decode,
whether the frame is good with the spare in a mirrored lane's place, the message, and the symbols corrected on each physical lane (log
entry 28). -/

namespace Sys2Proof.Machine

/-! ### The transaction header -/

/-- The transaction in the body of a link packet of `units` units (R366, R368): a body whose LENGTH does not fit its LEN counts as one
with a reserved bit set. -/
def readPkt (b : List Byte) (units : Nat) : Pkt :=
  let len := hdr b 36 2 % 8192
  let fits := units == (52 + len + 15) / 16
  { op := hdr b 0 1
    tagged := hdr b 1 1 / 128 == 1
    combined := hdr b 1 1 / 64 % 2 == 1
    srcDom := hdr b 1 1 / 8 % 8
    dstDom := hdr b 1 1 % 8
    dstPkg := hdr b 2 1 % 128
    srcPkg := hdr b 3 1 % 128
    job := hdr b 4 2
    part := hdr b 6 1 % 64
    status := hdr b 7 1
    step := hdr b 8 4
    gen := hdr b 12 2
    srcTg := hdr b 14 1 % 8
    run := hdr b 14 1 / 8 % 16
    dstTg := hdr b 15 1 % 8
    unit := hdr b 16 2 % 4096
    tag := hdr b 18 2
    cmd := hdr b 20 2
    count := hdr b 22 2
    addr := hdr b 24 8
    index := hdr b 32 4
    len := len
    ext := hdr b 38 10
    rsv := hdr b 2 1 / 128 + hdr b 3 1 / 128 + hdr b 6 1 / 64 + hdr b 14 1 / 128 + hdr b 15 1 / 8 + hdr b 16 2 / 4096
      + hdr b 36 2 / 8192 + (if fits then 0 else 1)
    pay := (b.drop 48).take len }

/-! ### Flits -/

/-- A protocol error is a link fault (R355, R359): the enabled link trains again after its wait in DOWN (R339). -/
def State.protoError (s : State) (l : Nat) : State := s.linkFault l 3
/-- The header of a link packet is at fault (R344, R355); `room` is what the sender's credits allow. -/
def linkHdrBad (h : List Byte) (room : Nat → Nat) : Bool :=
  let a := hdr h 0 1
  let len := hdr h 1 2 % 512
  a / 8 % 16 != 0 || 5 ≤ a % 8 || 512 ≤ hdr h 1 2 || hdr h 3 1 != 0 || len = 0 || 288 < len || room (a % 8) < len
/-- Units that the sender may still use of a receive buffer (R352). -/
def State.rxRoom (s : State) (l vc : Nat) : Nat := s.rxBuf l vc * 1024 - nth 0 (s.fl l).rxUsed vc
/-- The bytes of DATA payloads form a stream of link packets (R344). How many requests wait for the line of a request that comes this way, and
which source has most of them (R381), are free values (log entry 196). `n` bounds the packets of a flit. -/
def State.rxStream (s : State) (l : Nat) : Nat → List Byte → State
  | 0, _ => s
  | n + 1, rest =>
    let f := s.fl l
    if f.buf.isEmpty && (rest.headD 0).toNat < 128 then s
    else
      let all := f.buf ++ rest
      if all.length < 4 then s.setFl l { f with buf := all }
      else if linkHdrBad (all.take 4) (s.rxRoom l) then s.protoError l
      else
        let len := hdr all 1 2 % 512
        if all.length < 16 * len then s.setFl l { f with buf := all }
        else
          let s := s.setFl l { f with buf := [] }
          let p := readPkt ((all.take (16 * len)).drop 4) len
          let (w, s) := if p.op ≤ 5 then s.free else (0, s)
          let s := s.pktArrive l (hdr all 0 1 % 8) p [] (w / 128) (w % 128) len
          if s.flFramed l then s.rxStream l n (all.drop (16 * len)) else s
/-- A control message (R347): `b` holds its field bytes. -/
def State.rxCtrl (s : State) (l typ : Nat) (b : List Nat) : State :=
  match typ with
  | 0x01 => s.rxIdent l b
  | 0x02 => s.rxIdentAck l (beF b 0 1)
  | 0x10 => s.rxMirror l (beF b 0 1)
  | 0x11 => s.rxMirrorOn l (beF b 0 1)
  | 0x12 => s.rxSteered l (beF b 0 1) (beF b 1 1)
  | 0x13 => s.rxRelease l (beF b 0 1)
  | 0x14 => s.rxEqReq l (beF b 0 1) (beF b 1 1)
  | 0x15 => s.rxEqSet l (beF b 0 1) (beF b 1 1)
  | 0x20 => s.rxReplay l (beF b 0 2 % 1024)
  | _ => s.bumpSat (pg .flink l) F.FLINK.CTRL_UNKNOWN
/-- Credits come back (R343, R352, R355). -/
def State.rxCredit (s : State) (l vc blocks : Nat) : State :=
  let f := s.fl l
  if 5 ≤ vc || blocks = 0 then s
  else
    let n := nth 0 f.credits vc + 16 * blocks
    if nth 0 f.farBuf vc * 1024 < n then s.protoError l
    else (s.setFl l { f with credits := setNth n f.credits vc }).flGo l
/-- A flit of an accepted frame (R343). -/
def State.rxFlit (s : State) (l : Nat) (b : List Byte) : State :=
  if !s.flFramed l then s else
  let h := hdr b 0 1
  let s := s.rxCredit l (h / 8 % 8) (h % 8)
  if !s.flFramed l then s
  else match h / 64 with
    | 1 => (s.bump (pg .flink l) F.FLINK.DATA_FLITS_RX).rxStream l 32 (b.drop 1)
    | 2 => s.rxCtrl l (hdr b 1 1) ((b.drop 2).map BitVec.toNat)
    | _ => s

/-! ### Frames -/

/-- A frame is discarded: one REPLAY_REQ names the frame that is expected (R346). -/
def State.askReplay (s : State) (l : Nat) : State :=
  let f := s.fl l
  if f.waiting && s.now < f.askedAt + 2000 then s
  else (s.setFl l { f with waiting := true, askedAt := s.now }).flCtrl l 0x20 [f.expect / 256, f.expect % 256]
/-- Corrected symbols are counted by physical lane (R356, R360). For the lane that is the spare the count is that of its PRBS errors (R340),
which no decoder corrects. -/
def State.frameCorr (s : State) (l : Nat) (corr : List Nat) : State :=
  let s := s.bump (pg .flink l) F.FLINK.FEC_CORR
    ((corr.take 9).zipIdx.map fun (n, k) => if s.laneRd l k F.FLINK.LANE_STATE = 1 then 0 else n).sum
  let s := forEach ((corr.take 9).zipIdx.filter fun x => x.1 != 0)
    (fun (n, k) s => s.laneWr l k F.FLINK.LANE_CORR (s.laneRd l k F.FLINK.LANE_CORR + n)) s
  let f := s.fl l
  let run (k : Nat) : Nat := if 8 < nth 0 corr k then (tblFind k f.excess).getD 0 + 1 else 0
  s.setFl l { f with excess := ((s.lanesOn l).map fun j => (s.laneOf l j, run (s.laneOf l j))).filter fun x => x.2 != 0 }
/-- Lanes that have needed more than 8 corrected symbols in 16 frames in succession fail (R356). -/
def State.frameLanes (s : State) (l : Nat) : State :=
  let bad := (s.fl l).excess.filter fun x => 16 ≤ x.2
  forEach ((s.lanesOn l).filter fun j => bad.any fun x => x.1 == s.laneOf l j) (fun j s => s.laneFail l j) s
/-- A frame that is good: accepted, used as a duplicate, or discarded (R346). -/
def State.frameGood (s : State) (l : Nat) (m : List Byte) : State :=
  let f := s.fl l
  let tag := hdr m 1280 5
  let seq := tag / 2 ^ 30
  let back := (f.expect + 1024 - seq) % 1024
  let s := s.setFl l { f with frameAt := s.now }
  if back = 0 then
    let s := s.setFl l { s.fl l with expect := (f.expect + 1) % 1024, waiting := false }
    let s := s.flAck l (tag / 2 ^ 20 % 1024)
    forEach (List.range 5) (fun k s => s.rxFlit l ((m.drop (256 * k)).take 256)) s
  else if back ≤ 511 && !f.waiting then s.flAck l (tag / 2 ^ 20 % 1024)
  else s.askReplay l
/-- A frame arrives (R341, R342, R346): `decoded` says that both codewords decode, `mirror` that the frame is good with the spare in place of a
mirrored lane (R356), and `corr` counts the symbols that the decoder corrected on each physical lane, or the PRBS errors of the spare. A
frame that has taken the ACK on, with nothing else to send, is acknowledged in a filler (R345). -/
def State.frameRx (s : State) (l : Nat) (decoded mirror : Bool) (m : List Byte) (corr : List Nat) : State :=
  if !s.flHas l || !s.flFramed l || m.length != 1285 then s else
  let p := pg .flink l
  let s := s.frameCorr l corr
  let good := decoded && framePar m == hdr m 1280 5 % 2 ^ 20
  let s := if !decoded then s.bumpSat p F.FLINK.FEC_UNCORR else if !good then s.bumpSat p F.FLINK.PARITY_FAIL else s
  let s := s.steerFrame l mirror
  let s := if good then s.frameGood l m else s.askReplay l
  let s := if s.flFramed l then s.frameLanes l else s
  if s.flFramed l && (s.fl l).ackSent != ((s.fl l).expect + 1023) % 1024 then s.flFiller l else s

end Sys2Proof.Machine
end

