-- ==== Sys2Proof/Machine/Act.lean ====
section
/-! DEFINITION. A command as one step: its effect, then everything that follows from it at once (answers reach the engines that asked,
waiting requests and jobs go on, completion records reach STEPSEQ, states that follow others settle, messages leave). -/

namespace Sys2Proof.Machine

/-- An answer reaches the engine that asked (R369). -/
def State.deliver (s : State) (x : Done) : State :=
  match x.req.kind with
  | 0 => s.tileDone x
  | 1 => s.sqDone x
  | 2 => s.raAnswer x.req.a x.req.b x.req.c x.st x.data
  | _ => s
/-- Answers reach their engines, and requests that waited for a slot go out (R369); one whose data would land in a granule in use waits
(R124). `n` bounds the answers. -/
def State.deliverAll (s : State) : Nat → State
  | 0 => s
  | n + 1 =>
    match s.fab.done.find? s.mayLand with
    | none => s
    | some x =>
      let s := ({ s with fab := { s.fab with done := s.fab.done.erase x } }).deliver x
      (s.pumpWait s.fab.wait.length).deliverAll n
/-- One pass over what may go on. -/
def State.settleOnce (s : State) : State :=
  let s := s.dueTests
  let s := s.homePump
  let s := s.pumpWait s.fab.wait.length
  let s := s.deliverAll 65536
  let s := s.lostSettle
  let s := forEach (List.range 8) (fun g s =>
    match s.openOf g with
    | none => s.stepSettle g
    | some o => ((((s.stepCollect g).placeRun g (placeFuel o.grant)).udRelease g).stepSettle g)) s
  let s := s.seqPump s.seqWait.length
  let s := s.grantPump s.seqWait.length
  let s := s.dpPump s.seqWait.length
  let s := forEach (List.range 8) (fun g s => s.poolPump g) s
  forEach [0, 1] (fun k s => s.sqPump k) s
/-- No answer is left that may land, and no error whose test is to begin. -/
def State.settled (t : State) : Bool := (t.fab.done.filter t.mayLand).isEmpty && t.uaux.all fun x => x.2.due.isEmpty
/-- Passes until all is settled. `n` bounds them; what is left goes on with the next command. -/
def State.settleAll (s : State) : Nat → State
  | 0 => s
  | n + 1 => let t := s.settleOnce; if t.settled then t else t.settleAll n
/-- The partitions that are in service, whose state follows their groups (R410). -/
def State.partsOn (s : State) : List Nat := (List.range 64).filter fun k => s.stored (pg .partition k) != .offline
/-- What follows from a command. `was` says whether FAULT_L was asserted before it. -/
def State.after (s : State) (was : Bool) : State :=
  let s := (s.settleAll 64).drainSettle
  let s := s.raSettle
  let s := forEach s.partsOn (fun k s => s.partSettle k) s
  let s := s.ppsSettle
  let s := s.gctPump
  let s := s.akEnd
  s.ibiSettle was
/-- The state in which a command starts: nothing sent yet, and OK as the status. -/
def State.entry (s : State) : State := { s with out := [], ret := .ok }
/-- The state of the package after a command: the configuration and the queue are as before. -/
def State.closed (s t : State) : State := { t with cfg := s.cfg, pending := s.pending }
/-- A command of the pins and the supply, which needs no power (R445, R498, R534). -/
def actPin (s : State) (f : State → State) : Host.Outcome State Fault Refusal := .next (s.closed ((f s.entry).after s.faultL))
/-- Any other command: with an operand out of range, or without power, it has no effect (log entry 29). -/
def act (s : State) (ok : Bool) (f : State → State) : Host.Outcome State Fault Refusal :=
  if ok && s.powered then actPin s f else .next s.entry

/-- With no command waiting a powered package counts 1 ns of DEVICE_TIME (R439, log entry 30). -/
def State.idle (s : State) : State := if s.powered then s.bump timePg F.TIME.DEVICE_TIME else s

/-- The offsets of route entries, domain entries and LINK_OWNER (R412). -/
def isEntryOff (off : Nat) : Bool :=
  off == 0x188 || (decide (0x1B0 ≤ off) && decide (off < 0x1F0)) || (decide (0x240 ≤ off) && decide (off < 0x258))
/-- A register action: the word is written with its action bit set. -/
def State.press (s : State) (co keys : Bool) (p off bit : Nat) (v : Word) : State :=
  s.regWrite co keys p off (v ||| BitVec.ofNat 64 (2 ^ bit))
/-- EVT_STAT is written while hardware sets the flags of a word (R18, R61): a flag that is set at that instant stays, and the set counts. -/
def State.clearEvts (s : State) (p : Nat) (v set : Word) : State :=
  let hit := (List.range (evtBits (typeOf p))).filter fun i => set.getLsbD i
  forEach hit (fun i s => s.setEvt p i) (s.regWrite false false p 0x028 (v &&& ~~~ set))
/-- ERR_INFO0.VALID is cleared; an error that arrives at that instant is captured (R18, R66): its code, status and location. -/
def State.clearErr (s : State) (p : Nat) (v : Word) (err : Option (Nat × Nat × Nat)) : State :=
  let s := s.press false false p 0x040 16 v
  match err with
  | some (code, st, loc) => s.capture p code (statusOf st) loc
  | none => s
/-- The body of a request whose first byte names its operation. -/
def withOp (op : Nat) (body : List Byte) : List Byte := BitVec.ofNat 8 op :: body.drop 1

end Sys2Proof.Machine
end

