-- ==== Sys2Proof/Machine/CmdFabric.lean ====
section
/-! DEFINITION. The commands of the fabric and of the FROUTER (R364 to R414). -/

namespace Sys2Proof.Machine

/-- FT_RD (R371). -/
def execFtRd (l : Nat) (q : Pkt) (es : List MemErr) (waiting top : Nat) (s : State) : Host.Outcome State Fault Refusal :=
  act s (l < 24) fun s => s.ftArrive l q [0x01] es waiting top
/-- FT_WR_STAGED (R375). -/
def execFtWrStaged (l : Nat) (q : Pkt) (es : List MemErr) (waiting top : Nat) (s : State) : Host.Outcome State Fault Refusal :=
  act s (l < 24) fun s => s.ftArrive l q [0x02] es waiting top
/-- FT_ADD_F32 (R375). -/
def execFtAddF32 (l : Nat) (q : Pkt) (es : List MemErr) (waiting top : Nat) (s : State) : Host.Outcome State Fault Refusal :=
  act s (l < 24) fun s => s.ftArrive l q [0x03] es waiting top
/-- FT_ADD_I64 (R375). -/
def execFtAddI64 (l : Nat) (q : Pkt) (es : List MemErr) (waiting top : Nat) (s : State) : Host.Outcome State Fault Refusal :=
  act s (l < 24) fun s => s.ftArrive l q [0x04] es waiting top
/-- FT_MAX_F32 (R375). -/
def execFtMaxF32 (l : Nat) (q : Pkt) (es : List MemErr) (waiting top : Nat) (s : State) : Host.Outcome State Fault Refusal :=
  act s (l < 24) fun s => s.ftArrive l q [0x05] es waiting top
/-- FT_FENCE (R374). -/
def execFtFence (l : Nat) (q : Pkt) (s : State) : Host.Outcome State Fault Refusal :=
  act s (l < 24) fun s => s.ftArrive l q [0x06]
/-- FT_NOTICE (R377). -/
def execFtNotice (l : Nat) (q : Pkt) (s : State) : Host.Outcome State Fault Refusal :=
  act s (l < 24) fun s => s.ftArrive l q [0x07]
/-- FT_RD_RSP (R369). -/
def execFtRdRsp (l : Nat) (q : Pkt) (s : State) : Host.Outcome State Fault Refusal :=
  act s (l < 24) fun s => s.ftArrive l q [0x21]
/-- FT_STAGED_ACK (R369). -/
def execFtStagedAck (l : Nat) (q : Pkt) (s : State) : Host.Outcome State Fault Refusal :=
  act s (l < 24) fun s => s.ftArrive l q [0x22]
/-- FT_HOLD (R370). -/
def execFtHold (l : Nat) (q : Pkt) (s : State) : Host.Outcome State Fault Refusal :=
  act s (l < 24) fun s => s.ftArrive l q [0x23]
/-- FT_FENCE_ACK (R374). -/
def execFtFenceAck (l : Nat) (q : Pkt) (s : State) : Host.Outcome State Fault Refusal :=
  act s (l < 24) fun s => s.ftArrive l q [0x26]
/-- FT_NOTICE_ACK (R377). -/
def execFtNoticeAck (l : Nat) (q : Pkt) (s : State) : Host.Outcome State Fault Refusal :=
  act s (l < 24) fun s => s.ftArrive l q [0x27]
/-- FT_MSG_TILE (R383). -/
def execFtMsgTile (l : Nat) (q : Pkt) (s : State) : Host.Outcome State Fault Refusal :=
  act s (l < 24) fun s => s.ftArrive l q [0x40]
/-- FT_MSG_MARK (R384). -/
def execFtMsgMark (l : Nat) (q : Pkt) (s : State) : Host.Outcome State Fault Refusal :=
  act s (l < 24) fun s => s.ftArrive l q [0x41]
/-- FT_MSG_BUNDLE (R384). -/
def execFtMsgBundle (l : Nat) (q : Pkt) (s : State) : Host.Outcome State Fault Refusal :=
  act s (l < 24) fun s => s.ftArrive l q [0x42]
/-- FT_MSG_ACK (R383). -/
def execFtMsgAck (l : Nat) (q : Pkt) (s : State) : Host.Outcome State Fault Refusal :=
  act s (l < 24) fun s => s.ftArrive l q [0x43]
/-- FABRIC_READY (R295). -/
def execFabricReady (l : Nat) (q : Pkt) (s : State) : Host.Outcome State Fault Refusal :=
  act s (l < 24) fun s => s.ftArrive l q [0x60]
/-- SWAP_READY_MSG (R242). -/
def execSwapReadyMsg (l : Nat) (q : Pkt) (s : State) : Host.Outcome State Fault Refusal :=
  act s (l < 24) fun s => s.ftArrive l q [0x61]
/-- MGMT_RD (R385). -/
def execMgmtRd (l : Nat) (q : Pkt) (s : State) : Host.Outcome State Fault Refusal :=
  act s (l < 24) fun s => s.ftArrive l q [0x62]
/-- MGMT_WR (R385). -/
def execMgmtWr (l : Nat) (q : Pkt) (s : State) : Host.Outcome State Fault Refusal :=
  act s (l < 24) fun s => s.ftArrive l q [0x63]
/-- MGMT_RSP (R431). -/
def execMgmtRsp (l : Nat) (q : Pkt) (s : State) : Host.Outcome State Fault Refusal :=
  act s (l < 24) fun s => s.ftArrive l q [0x64]
/-- REQ_TIMEOUT_EXPIRY (R370). -/
def execReqTimeoutExpiry (p slot : Nat) (s : State) : Host.Outcome State Fault Refusal :=
  act s true fun s => s.reqTimeout p slot
/-- HOLD_TIMER_EXPIRY (R370). -/
def execHoldTimerExpiry (k : Nat) (s : State) : Host.Outcome State Fault Refusal :=
  act s true fun s => s.holdTimer k
/-- NOTICE_RETRY_EXPIRY (R377). -/
def execNoticeRetryExpiry (k : Nat) (s : State) : Host.Outcome State Fault Refusal :=
  act s true fun s => s.noticeRetry k
/-- CB_TIMEOUT_EXPIRY (R379). -/
def execCbTimeoutExpiry (src tg step run : Nat) (s : State) : Host.Outcome State Fault Refusal :=
  act s true fun s => s.cbTimeout ⟨src, tg, step, run⟩
/-- COMBINE_WINDOW_CLOSE (R382). -/
def execCombineWindowClose (k : Nat) (s : State) : Host.Outcome State Fault Refusal :=
  act s true fun s => s.windowClose k
/-- HOT_QUEUE_RELEASE (R381). -/
def execHotQueueRelease (half line : Nat) (s : State) : Host.Outcome State Fault Refusal :=
  act s (half < 2) fun s => s.hotRelease half line
/-- IMP_VALID_WRITE (R387). -/
def execImpValidWrite (k : Nat) (v : Word) (s : State) : Host.Outcome State Fault Refusal :=
  act s (k < 2) fun s => s.regWrite false false (pg .frouter k) 0x118 v
/-- ROUTE_FAULT (R401). -/
def execRouteFault (l : Nat) (s : State) : Host.Outcome State Fault Refusal :=
  act s (l < 24) fun s => s.routeFault l
/-- PACKET_FORWARD (R393). -/
def execPacketForward (l vc : Nat) (q : Pkt) (s : State) : Host.Outcome State Fault Refusal :=
  act s (l < 24) fun s => s.passArrive l vc q
/-- LOST_DELAY_EXPIRY (R404). -/
def execLostDelayExpiry (x : Nat) (s : State) : Host.Outcome State Fault Refusal :=
  act s (x < 128) fun s => s.lostDelay x
/-- LOST_SET (R404). -/
def execLostSet (k : Nat) (v : Word) (s : State) : Host.Outcome State Fault Refusal :=
  act s (k < 2) fun s => s.press false false (pg .frouter k) 0x210 8 v
/-- LOST_CLEAR (R404). -/
def execLostClear (k : Nat) (v : Word) (s : State) : Host.Outcome State Fault Refusal :=
  act s (k < 2) fun s => s.press false false (pg .frouter k) 0x210 9 v
/-- JOIN (R410). -/
def execJoin (k : Nat) (v : Word) (s : State) : Host.Outcome State Fault Refusal :=
  act s (k < 64) fun s => s.press false false (pg .partition k) 0x110 0 v
/-- LEAVE (R410). -/
def execLeave (k : Nat) (v : Word) (s : State) : Host.Outcome State Fault Refusal :=
  act s (k < 64) fun s => s.press false false (pg .partition k) 0x110 1 v
/-- RT_ENTRY_WRITE (R413). -/
def execRtEntryWrite (k off : Nat) (v : Word) (s : State) : Host.Outcome State Fault Refusal :=
  act s (k < 2 && isEntryOff off) fun s => s.regWrite false false (pg .frouter k) off v
/-- PSET_WRITE (R413). -/
def execPsetWrite (k w : Nat) (v : Word) (s : State) : Host.Outcome State Fault Refusal :=
  act s (k < 2 && w < 4) fun s => s.regWrite false false (pg .frouter k) (0x190 + 8 * w) v
/-- TG_VALID_WRITE (R413). -/
def execTgValidWrite (k : Nat) (v : Word) (s : State) : Host.Outcome State Fault Refusal :=
  act s (k < 2) fun s => s.regWrite false false (pg .frouter k) 0x230 v
/-- DOMAIN_CFG_WRITE (R413). -/
def execDomainCfgWrite (k : Nat) (v : Word) (s : State) : Host.Outcome State Fault Refusal :=
  act s (k < 2) fun s => s.regWrite false false (pg .frouter k) 0x1F0 v

end Sys2Proof.Machine
end

