-- ==== Sys2Proof/Machine/CmdGct.lean ====
section
/-! DEFINITION. The commands of the control transport, of the Ethernet ports and of TIME (R415 to R444, R484, R485, R513, R539). -/

namespace Sys2Proof.Machine

/-- HELLO (R421). -/
def execHello (d : Setup) (s : State) : Host.Outcome State Fault Refusal :=
  act s true fun s => s.hello d
/-- FINISH (R421). -/
def execFinish (via : Via) (header ct confirm : List Byte) (s : State) : Host.Outcome State Fault Refusal :=
  act s true fun s => s.finishSetup ⟨via, header, ct ++ confirm⟩
/-- SETUP_TIMEOUT (R423). -/
def execSetupTimeout (i : Nat) (s : State) : Host.Outcome State Fault Refusal :=
  act s (i < 4096) fun s => s.setupTimeout i
/-- GCT_CLOSE (R429). -/
def execGctClose (i : Nat) (s : State) : Host.Outcome State Fault Refusal :=
  act s (i < 4096) fun s => s.gctAct ⟨i, 0x05, 0, 0, []⟩ []
/-- ACK_ONLY (R426). -/
def execAckOnly (d : Dgram) (s : State) : Host.Outcome State Fault Refusal :=
  act s true fun s => s.ackOnly d
/-- SEGMENT_RX (R426). -/
def execSegmentRx (d : Dgram) (es : List MemErr) (s : State) : Host.Outcome State Fault Refusal :=
  act s true fun s => s.segmentRx d es
/-- RTO_EXPIRY (R427). -/
def execRtoExpiry (i : Nat) (s : State) : Host.Outcome State Fault Refusal :=
  act s (i < 4096) fun s => s.rtoExpiry i
/-- ACK_DELAY_EXPIRY (R426). -/
def execAckDelayExpiry (i : Nat) (s : State) : Host.Outcome State Fault Refusal :=
  act s (i < 4096) fun s => s.ackDelay i
/-- SESSION_IDLE_EXPIRY (R429). -/
def execSessionIdleExpiry (i : Nat) (s : State) : Host.Outcome State Fault Refusal :=
  act s (i < 4096) fun s => s.idleExpiry i
/-- REG_ACCESS (R430). -/
def execRegAccess (session id : Nat) (body : List Byte) (s : State) : Host.Outcome State Fault Refusal :=
  act s (session < 4096) fun s => s.gctAct ⟨session, 0x10, id, 0, body⟩ []
/-- DP_WRITE (R432). -/
def execDpWrite (session id : Nat) (body : List Byte) (es : List MemErr) (s : State) : Host.Outcome State Fault Refusal :=
  act s (session < 4096) fun s => s.gctAct ⟨session, 0x18, id, 0, body⟩ es
/-- DP_READ (R432). -/
def execDpRead (session id : Nat) (body : List Byte) (es : List MemErr) (s : State) : Host.Outcome State Fault Refusal :=
  act s (session < 4096) fun s => s.gctAct ⟨session, 0x19, id, 0, body⟩ es
/-- EVT_SUB (R434). -/
def execEvtSub (session id : Nat) (body : List Byte) (s : State) : Host.Outcome State Fault Refusal :=
  act s (session < 4096) fun s => s.gctAct ⟨session, 0x20, id, 0, body⟩ []
/-- GET_CERTS (R484). -/
def execGetCerts (session id : Nat) (body : List Byte) (s : State) : Host.Outcome State Fault Refusal :=
  act s (session < 4096) fun s => s.gctAct ⟨session, 0x40, id, 0, withOp 1 body⟩ []
/-- GET_EVIDENCE (R485). -/
def execGetEvidence (session id : Nat) (body : List Byte) (s : State) : Host.Outcome State Fault Refusal :=
  act s (session < 4096) fun s => s.gctAct ⟨session, 0x40, id, 0, withOp 2 body⟩ []
/-- HEARTBEAT (R513). -/
def execHeartbeat (session id : Nat) (body : List Byte) (s : State) : Host.Outcome State Fault Refusal :=
  act s (session < 4096) fun s => s.gctAct ⟨session, 0x48, id, 0, body⟩ []
/-- SESS_CLOSE (R441). -/
def execSessClose (k : Nat) (v : Word) (s : State) : Host.Outcome State Fault Refusal :=
  act s (k < 2) fun s => s.press false false (pg .gct k) 0x138 0 v
/-- SESS_MOVE (R441). -/
def execSessMove (k : Nat) (v : Word) (s : State) : Host.Outcome State Fault Refusal :=
  act s (k < 2) fun s => s.press false false (pg .gct k) 0x138 1 v
/-- SA_LOAD (R443). -/
def execSaLoad (k : Nat) (keys : Bool) (v : Word) (s : State) : Host.Outcome State Fault Refusal :=
  act s (k < 8) fun s => s.press false keys (pg .enet k) 0x130 10 v
/-- ENET_LINK_CHANGE (R415). -/
def execEnetLinkChange (k speed : Nat) (s : State) : Host.Outcome State Fault Refusal :=
  act s (k < 8) fun s => s.enetLink k speed
/-- PTP_MESSAGE (R438). -/
def execPtpMessage (via : PtpVia) (kind master value : Nat) (s : State) : Host.Outcome State Fault Refusal :=
  act s true fun s => s.ptpMessage via kind master value
/-- SYNC_LOSS_EXPIRY (R439). -/
def execSyncLossExpiry (net : Nat) (s : State) : Host.Outcome State Fault Refusal :=
  act s true fun s => s.syncLoss net
/-- TOD_ARM (R439). -/
def execTodArm (v : Word) (s : State) : Host.Outcome State Fault Refusal :=
  act s true fun s => s.press false false (pg .time 0) 0x128 0 v
/-- PPS_IN_EDGE (R539). -/
def execPpsInEdge (s : State) : Host.Outcome State Fault Refusal :=
  act s true fun s => s.ppsIn
/-- PPS_OUT_PULSE (R539). -/
def execPpsOutPulse (s : State) : Host.Outcome State Fault Refusal :=
  act s true fun s => s.ppsOut

end Sys2Proof.Machine
end

