-- ==== Sys2Proof/Machine/CmdLink.lean ====
section
/-! DEFINITION. The commands of a FLINK (R338 to R363). -/

namespace Sys2Proof.Machine

/-- FL_ENABLE_WRITE (R361). -/
def execFlEnableWrite (l : Nat) (v : Word) (s : State) : Host.Outcome State Fault Refusal :=
  act s (l < 24) fun s => s.regWrite false false (pg .flink l) 0x100 v
/-- LINK_DETECT (R339). -/
def execLinkDetect (l lanes : Nat) (s : State) : Host.Outcome State Fault Refusal :=
  act s (l < 24) fun s => s.linkDetect l lanes
/-- LINK_RX_READY (R339). -/
def execLinkRxReady (l lanes : Nat) (s : State) : Host.Outcome State Fault Refusal :=
  act s (l < 24) fun s => s.linkRxReady l lanes
/-- LINK_ALIGN_DONE (R339). -/
def execLinkAlignDone (l : Nat) (words : List Nat) (s : State) : Host.Outcome State Fault Refusal :=
  act s (l < 24) fun s => s.linkAlign l words
/-- TRAINING_TIMEOUT (R339). -/
def execTrainingTimeout (l : Nat) (s : State) : Host.Outcome State Fault Refusal :=
  act s (l < 24) fun s => s.trainTimeout l
/-- LINK_DOWN_WAIT_EXPIRY (R339). -/
def execLinkDownWaitExpiry (l : Nat) (s : State) : Host.Outcome State Fault Refusal :=
  act s (l < 24) fun s => s.downWait l
/-- FRAME_RX (R346). -/
def execFrameRx (l : Nat) (decoded : Bool × Bool) (msg : List Byte) (corr : List Nat) (s : State) : Host.Outcome State Fault Refusal :=
  act s (l < 24) fun s => s.frameRx l decoded.1 decoded.2 msg corr
/-- REPLAY_REQ (R346). -/
def execReplayReq (l fseq : Nat) (s : State) : Host.Outcome State Fault Refusal :=
  act s (l < 24) fun s => s.rxReplay l fseq
/-- ACK_STALL_EXPIRY (R346). -/
def execAckStallExpiry (l : Nat) (s : State) : Host.Outcome State Fault Refusal :=
  act s (l < 24) fun s => s.ackStall l
/-- IDENT (R349). -/
def execIdent (l : Nat) (fields : List Nat) (s : State) : Host.Outcome State Fault Refusal :=
  act s (l < 24) fun s => s.rxIdent l fields
/-- IDENT_ACK (R349). -/
def execIdentAck (l verdict _rev : Nat) (s : State) : Host.Outcome State Fault Refusal :=
  act s (l < 24) fun s => s.rxIdentAck l verdict
/-- IDENT_RESEND_EXPIRY (R347). -/
def execIdentResendExpiry (l : Nat) (s : State) : Host.Outcome State Fault Refusal :=
  act s (l < 24) fun s => s.identResend l
/-- MIRROR (R356). -/
def execMirror (l lane : Nat) (s : State) : Host.Outcome State Fault Refusal :=
  act s (l < 24) fun s => s.rxMirror l lane
/-- MIRROR_ON (R356). -/
def execMirrorOn (l lane _fseq : Nat) (s : State) : Host.Outcome State Fault Refusal :=
  act s (l < 24) fun s => s.rxMirrorOn l lane
/-- STEERED (R356). -/
def execSteered (l lane phys : Nat) (s : State) : Host.Outcome State Fault Refusal :=
  act s (l < 24) fun s => s.rxSteered l lane phys
/-- LANE_RELEASE (R357). -/
def execLaneRelease (l phys : Nat) (s : State) : Host.Outcome State Fault Refusal :=
  act s (l < 24) fun s => s.rxRelease l phys
/-- EQ_REQ (R357). -/
def execEqReq (l phys preset : Nat) (s : State) : Host.Outcome State Fault Refusal :=
  act s (l < 24) fun s => s.rxEqReq l phys preset
/-- EQ_SET (R357). -/
def execEqSet (l phys preset : Nat) (s : State) : Host.Outcome State Fault Refusal :=
  act s (l < 24) fun s => s.rxEqSet l phys preset
/-- LANE_FAIL (R356). -/
def execLaneFail (l lane : Nat) (s : State) : Host.Outcome State Fault Refusal :=
  act s (l < 24) fun s => s.laneFail l lane
/-- RECAL (R357). -/
def execRecal (l : Nat) (v : Word) (s : State) : Host.Outcome State Fault Refusal :=
  act s (l < 24) fun s => s.press false false (pg .flink l) 0x138 2 v
/-- AUTO_RECAL_TURN (R357). -/
def execAutoRecalTurn (l : Nat) (s : State) : Host.Outcome State Fault Refusal :=
  act s (l < 24) fun s => s.autoRecal l
/-- RECAL_ADAPT_DONE (R357). -/
def execRecalAdaptDone (l : Nat) (ok : Bool) (s : State) : Host.Outcome State Fault Refusal :=
  act s (l < 24) fun s => s.recalDone l ok
/-- NO_FRAME_TIMEOUT (R359). -/
def execNoFrameTimeout (l : Nat) (s : State) : Host.Outcome State Fault Refusal :=
  act s (l < 24) fun s => s.noFrame l
/-- FL_RETRAIN (R359). -/
def execFlRetrain (l : Nat) (v : Word) (s : State) : Host.Outcome State Fault Refusal :=
  act s (l < 24) fun s => s.press false false (pg .flink l) 0x138 0 v
/-- ACCEPT (R351). -/
def execAccept (l : Nat) (v : Word) (s : State) : Host.Outcome State Fault Refusal :=
  act s (l < 24) fun s => s.press false false (pg .flink l) 0x138 1 v
/-- NBR_EXPECT_WRITE (R351). -/
def execNbrExpectWrite (l : Nat) (v : Word) (s : State) : Host.Outcome State Fault Refusal :=
  act s (l < 24) fun s => s.regWrite false false (pg .flink l) 0x108 v

end Sys2Proof.Machine
end

