-- ==== Sys2Proof/Machine/CmdMem.lean ====
section
/-! DEFINITION. The commands of HALO, of the memory tiers, of POOL and of Updraft (R176 to R248). -/

namespace Sys2Proof.Machine

/-- HALO_EVALUATE (R178). -/
def execHaloEvaluate (g : Nat) (s : State) : Host.Outcome State Fault Refusal :=
  act s (g < 8) fun s => s.haloEvaluate g
/-- HALO_LOG_POP (R180). -/
def execHaloLogPop (g : Nat) (v : Word) (s : State) : Host.Outcome State Fault Refusal :=
  act s (g < 8) fun s => s.press false false (pg .halo g) 0x170 0 v
/-- HALO_WP_WRITE (R182). -/
def execHaloWpWrite (g off : Nat) (v : Word) (s : State) : Host.Outcome State Fault Refusal :=
  act s (g < 8 && 0x110 ≤ off && off < 0x138) fun s => s.regWrite false false (pg .halo g) off v
/-- RCP_MODE_WRITE (R187). -/
def execRcpModeWrite (g off : Nat) (v : Word) (s : State) : Host.Outcome State Fault Refusal :=
  act s (g < 8 && off == 0x148) fun s => s.regWrite false false (pg .halo g) off v
/-- GMEM_COPY (R196). -/
def execGmemCopy (k : Nat) (v : Word) (s : State) : Host.Outcome State Fault Refusal :=
  act s (k < 20) fun s => s.press false false (pg .gmem k) 0x120 0 v
/-- GMEM_RETURN (R196). -/
def execGmemReturn (k : Nat) (v : Word) (s : State) : Host.Outcome State Fault Refusal :=
  act s (k < 20) fun s => s.press false false (pg .gmem k) 0x120 1 v
/-- GMEM_RELOC_DONE (R196). -/
def execGmemRelocDone (k : Nat) (s : State) : Host.Outcome State Fault Refusal :=
  act s (k < 20) fun s => s.relocDone k
/-- MC_FLUSH_START (R200). -/
def execMcFlushStart (k : Nat) (v : Word) (s : State) : Host.Outcome State Fault Refusal :=
  act s (k < 2) fun s => s.press false false (pg .mcache k) 0x198 0 v
/-- MC_FLUSH_DONE (R200). -/
def execMcFlushDone (k : Nat) (s : State) : Host.Outcome State Fault Refusal :=
  act s (k < 2) fun s => s.mcFlushDone k
/-- BT_LINK_DOWN (R204). -/
def execBtLinkDown (k d : Nat) (s : State) : Host.Outcome State Fault Refusal :=
  act s (k < 2 && d < 2) fun s => s.btLinkDown k d
/-- BT_RETRAIN (R205). -/
def execBtRetrain (k : Nat) (v : Word) (s : State) : Host.Outcome State Fault Refusal :=
  act s (k < 2) fun s => s.press false false (pg .btier k) 0x120 0 v
/-- POOL_APPLY (R207). -/
def execPoolApply (g : Nat) (v : Word) (s : State) : Host.Outcome State Fault Refusal :=
  act s (g < 8) fun s => s.press false false (pg .pool g) 0x130 0 v
/-- POOL_APPLY_DONE (R207). -/
def execPoolApplyDone (g : Nat) (s : State) : Host.Outcome State Fault Refusal :=
  act s (g < 8) fun s => s.poolApplyDone g
/-- EVICT_WAIT_EXPIRY (R210). -/
def execEvictWaitExpiry (g : Nat) (s : State) : Host.Outcome State Fault Refusal :=
  act s (g < 8) fun s => s.evictWaitExpiry g
/-- EVICT_START (R213). -/
def execEvictStart (g : Nat) (s : State) : Host.Outcome State Fault Refusal :=
  act s (g < 8) fun s => s.evictStart g
/-- POOL_MOVE_DONE (R214). -/
def execPoolMoveDone (g h : Nat) (s : State) : Host.Outcome State Fault Refusal :=
  act s (g < 8) fun s => s.moveDone g h false false
/-- POOL_AGE (R208). -/
def execPoolAge (g : Nat) (s : State) : Host.Outcome State Fault Refusal :=
  act s (g < 8) fun s => s.poolAge g (s.rd (pg .stepseq g) F.STEPSEQ.LC_STEP)
/-- POOL_REQ_TAIL_WRITE (R215). -/
def execPoolReqTailWrite (g : Nat) (v : Word) (s : State) : Host.Outcome State Fault Refusal :=
  act s (g < 8) fun s => s.regWrite false false (pg .pool g) 0x150 v
/-- POOL_CPL_HEAD_WRITE (R215). -/
def execPoolCplHeadWrite (g : Nat) (v : Word) (s : State) : Host.Outcome State Fault Refusal :=
  act s (g < 8) fun s => s.regWrite false false (pg .pool g) 0x168 v
/-- PARK (R216). -/
def execPark (g i : Nat) (s : State) : Host.Outcome State Fault Refusal :=
  act s (g < 8) fun s => s.poolReq g i 1 fun s => s.reqPark g i
/-- PROMOTE (R216). -/
def execPromote (g i : Nat) (s : State) : Host.Outcome State Fault Refusal :=
  act s (g < 8) fun s => s.poolReq g i 2 fun s => s.reqPromote g i
/-- DROP (R216). -/
def execDrop (g i : Nat) (s : State) : Host.Outcome State Fault Refusal :=
  act s (g < 8) fun s => s.poolReq g i 3 fun s => s.reqDrop g i
/-- FORK (R216). -/
def execFork (g i : Nat) (s : State) : Host.Outcome State Fault Refusal :=
  act s (g < 8) fun s => s.poolReq g i 4 fun s => s.reqFork g i
/-- SET_QUOTA (R216). -/
def execSetQuota (g i : Nat) (s : State) : Host.Outcome State Fault Refusal :=
  act s (g < 8) fun s => s.poolReq g i 5 fun s => s.reqQuota g i
/-- QUERY_SEQ (R216). -/
def execQuerySeq (g i : Nat) (s : State) : Host.Outcome State Fault Refusal :=
  act s (g < 8) fun s => s.poolReq g i 6 fun s => s.reqQuerySeq g i
/-- QUERY_CUST (R216). -/
def execQueryCust (g i : Nat) (s : State) : Host.Outcome State Fault Refusal :=
  act s (g < 8) fun s => s.poolReq g i 7 fun s => s.reqQueryCust g i
/-- UD_TABLE_CHECK (R224). -/
def execUdTableCheck (k : Nat) (v : Word) (s : State) : Host.Outcome State Fault Refusal :=
  act s (k < 8) fun s => s.press false false (pg .updraft k) 0x118 1 v
/-- UD_ENABLE_WRITE (R245). -/
def execUdEnableWrite (k : Nat) (v : Word) (s : State) : Host.Outcome State Fault Refusal :=
  act s (k < 8) fun s => s.regWrite false false (pg .updraft k) 0x118 (v &&& ~~~ 2)
/-- USE_ARM (R225). -/
def execUseArm (g : Nat) (s : State) : Host.Outcome State Fault Refusal :=
  act s (g < 8) fun s => s.useArm g
/-- FILL_ENTRY (R230). -/
def execFillEntry (u layer e : Nat) (es : List MemErr) (s : State) : Host.Outcome State Fault Refusal :=
  act s (u < 8) fun s => s.fillEntry u layer e es
/-- LOAD_START (R235). -/
def execLoadStart (k : Nat) (v : Word) (s : State) : Host.Outcome State Fault Refusal :=
  act s (k < 8) fun s => s.press false false (pg .updraft k) 0x1A8 2 v
/-- PULL_DATA (R236). -/
def execPullData (session id status : Nat) (body : List Byte) (es : List MemErr) (s : State) : Host.Outcome State Fault Refusal :=
  act s (session < 4096) fun s => s.gctAct ⟨session, 0x39, id, status, body⟩ es
/-- PULL_TIMEOUT_EXPIRY (R236). -/
def execPullTimeoutExpiry (u c : Nat) (s : State) : Host.Outcome State Fault Refusal :=
  act s (u < 8) fun s => s.pullTimeout u c
/-- LOAD_RESUME (R237). -/
def execLoadResume (k : Nat) (v : Word) (s : State) : Host.Outcome State Fault Refusal :=
  act s (k < 8) fun s => s.press false false (pg .updraft k) 0x1A8 3 v
/-- LOAD_ABORT (R237). -/
def execLoadAbort (k : Nat) (v : Word) (s : State) : Host.Outcome State Fault Refusal :=
  act s (k < 8) fun s => s.press false false (pg .updraft k) 0x1A8 4 v
/-- SWAP_PREPARE (R240). -/
def execSwapPrepare (k : Nat) (v : Word) (s : State) : Host.Outcome State Fault Refusal :=
  act s (k < 8) fun s => s.press false false (pg .updraft k) 0x1C0 24 v
/-- SWAP_COMMIT (R240). -/
def execSwapCommit (k : Nat) (v : Word) (s : State) : Host.Outcome State Fault Refusal :=
  act s (k < 8) fun s => s.press false false (pg .updraft k) 0x1C0 25 v
/-- SWAP_CANCEL (R240). -/
def execSwapCancel (k : Nat) (v : Word) (s : State) : Host.Outcome State Fault Refusal :=
  act s (k < 8) fun s => s.press false false (pg .updraft k) 0x1C0 26 v
/-- SWAP_COPY_CHUNK (R243). -/
def execSwapCopyChunk (u : Nat) (es : List MemErr) (s : State) : Host.Outcome State Fault Refusal :=
  act s (u < 8) fun s => s.copyChunk u es
/-- GMEM_RETRAIN_DONE (R519). -/
def execGmemRetrainDone (k : Nat) (ok : Bool) (s : State) : Host.Outcome State Fault Refusal :=
  act s (k < 20) fun s => s.gmemRetrainDone k ok
/-- BT_LINK_UP (R204). -/
def execBtLinkUp (k d speed width : Nat) (s : State) : Host.Outcome State Fault Refusal :=
  act s (k < 2 && d < 2) fun s => s.btLinkUp k d speed width
/-- LOAD_VERIFY_DONE (R235). -/
def execLoadVerifyDone (u : Nat) (s : State) : Host.Outcome State Fault Refusal :=
  act s (u < 8) fun s => s.loadVerified u
/-- TABLE_CHECK_DONE (R224). -/
def execTableCheckDone (u : Nat) (s : State) : Host.Outcome State Fault Refusal :=
  act s (u < 8) fun s => s.udTableDone u
/-- CXL_DEVICE_EVENT (R205). -/
def execCxlDeviceEvent (k d : Nat) (s : State) : Host.Outcome State Fault Refusal :=
  act s (k < 2 && d < 2) fun s => s.cxlEvent k d

end Sys2Proof.Machine
end

