-- ==== Sys2Proof/Machine/CmdStep.lean ====
section
/-! DEFINITION. The commands of STEPSEQ, Squall and CONTRAIL (R249 to R336). -/

namespace Sys2Proof.Machine

/-- GRANT (R259). -/
def execGrant (session id : Nat) (body : List Byte) (s : State) : Host.Outcome State Fault Refusal :=
  act s (session < 4096) fun s => s.gctAct ⟨session, 0x28, id, 0, body⟩ []
/-- PROGRAM_CHECK (R257). -/
def execProgramCheck (g : Nat) (v : Word) (s : State) : Host.Outcome State Fault Refusal :=
  act s (g < 8) fun s => s.press false false (pg .stepseq g) 0x110 0 v
/-- STEP_OPEN (R261). -/
def execStepOpen (g : Nat) (s : State) : Host.Outcome State Fault Refusal :=
  act s (g < 8) fun s => s.stepOpen g
/-- GAP_WAIT_EXPIRY (R260). -/
def execGapWaitExpiry (g : Nat) (s : State) : Host.Outcome State Fault Refusal :=
  act s (g < 8) fun s => s.gapExpiry g
/-- SLICE_END (R251). -/
def execSliceEnd (g : Nat) (s : State) : Host.Outcome State Fault Refusal :=
  act s (g < 8) fun s => s.sliceEnd g
/-- SECTION_DISPATCH (R254). -/
def execSectionDispatch (g : Nat) (s : State) : Host.Outcome State Fault Refusal :=
  act s (g < 8) fun s => s.sectionDispatch g
/-- LAYER_GO (R251). -/
def execLayerGo (g : Nat) (v : Word) (s : State) : Host.Outcome State Fault Refusal :=
  act s (g < 8) fun s => s.press false false (pg .stepseq g) 0x148 1 v
/-- STEP_COMMIT (R266). -/
def execStepCommit (g : Nat) (s : State) : Host.Outcome State Fault Refusal :=
  act s (g < 8) fun s => s.stepCommit g
/-- STEP_KILL_RESOLVE (R271). -/
def execStepKillResolve (g : Nat) (s : State) : Host.Outcome State Fault Refusal :=
  act s (g < 8) fun s => (s.retirePending g).killResolve g
/-- ABORT_STEP (R269). -/
def execAbortStep (g : Nat) (v : Word) (s : State) : Host.Outcome State Fault Refusal :=
  act s (g < 8) fun s => s.press false false (pg .stepseq g) 0x148 0 v
/-- ISOLATION_LIMIT_EXPIRY (R270). -/
def execIsolationLimitExpiry (g : Nat) (s : State) : Host.Outcome State Fault Refusal :=
  act s (g < 8) fun s => s.isolationLimit g
/-- EXPERT_FETCH (R291). -/
def execExpertFetch (k g idx : Nat) (s : State) : Host.Outcome State Fault Refusal :=
  act s (k < 2 && g < 8) fun s => s.expertFetch k g idx
/-- COMBINE (R294). -/
def execCombine (k g idx : Nat) (s : State) : Host.Outcome State Fault Refusal :=
  act s (k < 2 && g < 8) fun s => s.combine k g idx
/-- DISPATCH (R297). -/
def execDispatch (k g idx : Nat) (s : State) : Host.Outcome State Fault Refusal :=
  act s (k < 2 && g < 8) fun s => s.dispatchJob k g idx
/-- RETURN_JOB (R299). -/
def execReturnJob (k g idx : Nat) (s : State) : Host.Outcome State Fault Refusal :=
  act s (k < 2 && g < 8) fun s => s.returnJob k g idx
/-- ALL_REDUCE (R300). -/
def execAllReduce (k g idx : Nat) (s : State) : Host.Outcome State Fault Refusal :=
  act s (k < 2 && g < 8) fun s => s.collective k g idx 5
/-- REDUCE_SCATTER (R300). -/
def execReduceScatter (k g idx : Nat) (s : State) : Host.Outcome State Fault Refusal :=
  act s (k < 2 && g < 8) fun s => s.collective k g idx 6
/-- ALL_GATHER (R300). -/
def execAllGather (k g idx : Nat) (s : State) : Host.Outcome State Fault Refusal :=
  act s (k < 2 && g < 8) fun s => s.collective k g idx 7
/-- SQ_JOB_COMPLETE (R290). -/
def execSqJobComplete (k g idx : Nat) (s : State) : Host.Outcome State Fault Refusal :=
  act s (k < 2 && g < 8) fun s => s.sqJobComplete k g idx
/-- SQ_JOB_TIMEOUT (R290). -/
def execSqJobTimeout (k g idx : Nat) (s : State) : Host.Outcome State Fault Refusal :=
  act s (k < 2 && g < 8) fun s => s.sqJobTimeout k g idx
/-- PLAN_CHECK (R289). -/
def execPlanCheck (k : Nat) (v : Word) (s : State) : Host.Outcome State Fault Refusal :=
  act s (k < 2) fun s => s.press false false (pg .squall k) 0x118 0 v
/-- SEQ_OPEN (R313). -/
def execSeqOpen (session id : Nat) (body : List Byte) (s : State) : Host.Outcome State Fault Refusal :=
  act s (session < 4096) fun s => s.gctAct ⟨session, 0x30, id, 0, withOp 1 body⟩ []
/-- SEQ_PROMPT (R315). -/
def execSeqPrompt (session id : Nat) (body : List Byte) (s : State) : Host.Outcome State Fault Refusal :=
  act s (session < 4096) fun s => s.gctAct ⟨session, 0x30, id, 0, withOp 2 body⟩ []
/-- SEQ_BIND (R329). -/
def execSeqBind (session id : Nat) (body : List Byte) (s : State) : Host.Outcome State Fault Refusal :=
  act s (session < 4096) fun s => s.gctAct ⟨session, 0x30, id, 0, withOp 3 body⟩ []
/-- SEQ_CLOSE (R314). -/
def execSeqClose (session id : Nat) (body : List Byte) (s : State) : Host.Outcome State Fault Refusal :=
  act s (session < 4096) fun s => s.gctAct ⟨session, 0x30, id, 0, withOp 4 body⟩ []
/-- SEQ_SUBSCRIBE (R320). -/
def execSeqSubscribe (session id : Nat) (body : List Byte) (s : State) : Host.Outcome State Fault Refusal :=
  act s (session < 4096) fun s => s.gctAct ⟨session, 0x30, id, 0, withOp 5 body⟩ []
/-- SEQ_ACK (R319). -/
def execSeqAck (session id : Nat) (body : List Byte) (s : State) : Host.Outcome State Fault Refusal :=
  act s (session < 4096) fun s => s.gctAct ⟨session, 0x30, id, 0, withOp 6 body⟩ []
/-- SEQ_QUERY (R310). -/
def execSeqQuery (session id : Nat) (body : List Byte) (s : State) : Host.Outcome State Fault Refusal :=
  act s (session < 4096) fun s => s.gctAct ⟨session, 0x30, id, 0, withOp 7 body⟩ []
/-- KEEPALIVE_EXPIRY (R318). -/
def execKeepaliveExpiry (i : Nat) (s : State) : Host.Outcome State Fault Refusal :=
  act s (i < 8192) fun s => s.keepalive i
/-- BK_BALANCE_WRITE (R324). -/
def execBkBalanceWrite (k : Nat) (v : Word) (s : State) : Host.Outcome State Fault Refusal :=
  act s (k < 2) fun s => s.regWrite false false (pg .contrail k) 0x1D0 v
/-- BK_CREDIT (R324). -/
def execBkCredit (k : Nat) (v : Word) (s : State) : Host.Outcome State Fault Refusal :=
  act s (k < 2) fun s => s.regWrite false false (pg .contrail k) 0x1D8 v
/-- AD_INSTALL (R327). -/
def execAdInstall (k : Nat) (v : Word) (s : State) : Host.Outcome State Fault Refusal :=
  act s (k < 2) fun s => s.press false false (pg .contrail k) 0x228 0 v
/-- AD_INSTALL_DONE (R327). -/
def execAdInstallDone (k : Nat) (s : State) : Host.Outcome State Fault Refusal :=
  act s (k < 4096) fun s => s.adInstallDone k
/-- AD_RETIRE (R326). -/
def execAdRetire (k : Nat) (v : Word) (s : State) : Host.Outcome State Fault Refusal :=
  act s (k < 2) fun s => s.press false false (pg .contrail k) 0x228 2 v
/-- CT_ENABLE_WRITE (R334). -/
def execCtEnableWrite (k : Nat) (v : Word) (s : State) : Host.Outcome State Fault Refusal :=
  act s (k < 2) fun s => s.regWrite false false (pg .contrail k) 0x100 v
/-- PROGRAM_CHECK_DONE (R257). -/
def execProgramCheckDone (g : Nat) (s : State) : Host.Outcome State Fault Refusal :=
  act s (g < 8) fun s => s.progCheckDone g
/-- PLAN_CHECK_DONE (R289). -/
def execPlanCheckDone (k g : Nat) (s : State) : Host.Outcome State Fault Refusal :=
  act s (k < 2 && g < 8) fun s => s.planCheckDone k g

end Sys2Proof.Machine
end

