-- ==== Sys2Proof/Machine/CmdSys.lean ====
section
/-! DEFINITION. The commands of BOOT, the RTU, the supply, the thermal guard and the I3C target (R445 to R524, R529 to R539). -/

namespace Sys2Proof.Machine

/-- PWR_GOOD_RISE (R445). -/
def execPwrGoodRise (s : State) : Host.Outcome State Fault Refusal :=
  actPin s fun s => s.pwrGoodRise
/-- PWR_GOOD_FALL (R534). -/
def execPwrGoodFall (s : State) : Host.Outcome State Fault Refusal :=
  actPin s fun s => s.pwrGoodFall
/-- PKG_RESET_ASSERT (R534). -/
def execPkgResetAssert (s : State) : Host.Outcome State Fault Refusal :=
  actPin s fun s => s.rstAssert
/-- PKG_RESET_RELEASE (R462). -/
def execPkgResetRelease (s : State) : Host.Outcome State Fault Refusal :=
  actPin s fun s => s.rstRelease
/-- BOOT_STAGE_DONE (R462). -/
def execBootStageDone (failed : List Nat) (s : State) : Host.Outcome State Fault Refusal :=
  act s true fun s => s.bootDone failed
/-- BOOT_STAGE_TIMEOUT (R463). -/
def execBootStageTimeout (failed : List Nat) (s : State) : Host.Outcome State Fault Refusal :=
  act s true fun s => s.bootTimeout failed
/-- WARM_RESET (R447). -/
def execWarmReset (v : Word) (s : State) : Host.Outcome State Fault Refusal :=
  act s true fun s => s.press false false 0 0x050 0 v
/-- WATCHDOG_EXPIRY (R445). -/
def execWatchdogExpiry (k : Nat) (s : State) : Host.Outcome State Fault Refusal :=
  act s (k < 8) fun s => s.watchdog k
/-- CRITICAL_UNCORR (R453). -/
def execCriticalUncorr (p kind loc : Nat) (s : State) : Host.Outcome State Fault Refusal :=
  act s (unitOf p).isSome fun s => s.criticalUncorr p kind loc
/-- OPT_COMMIT (R461). -/
def execOptCommit (v : Word) (s : State) : Host.Outcome State Fault Refusal :=
  act s true fun s => s.press false false (pg .boot 0) 0x130 0 v
/-- OPT_COMMIT_DONE (R461). -/
def execOptCommitDone (ok : Bool) (s : State) : Host.Outcome State Fault Refusal :=
  act s true fun s => s.optDone ok
/-- SVN_COMMIT (R476). -/
def execSvnCommit (co : Bool) (v : Word) (s : State) : Host.Outcome State Fault Refusal :=
  act s true fun s => s.press co false (pg .rtu 0) 0x110 9 v
/-- REVOKE (R478). -/
def execRevoke (co : Bool) (v : Word) (s : State) : Host.Outcome State Fault Refusal :=
  act s true fun s => s.press co false (pg .rtu 0) 0x110 12 v
/-- AK_LOAD (R480). -/
def execAkLoad (co : Bool) (v : Word) (s : State) : Host.Outcome State Fault Refusal :=
  act s true fun s => s.press co false (pg .rtu 0) 0x140 0 v
/-- AK_CLEAR (R480). -/
def execAkClear (co : Bool) (v : Word) (s : State) : Host.Outcome State Fault Refusal :=
  act s true fun s => s.press co false (pg .rtu 0) 0x140 1 v
/-- FW_VERIFY (R488). -/
def execFwVerify (co : Bool) (v : Word) (s : State) : Host.Outcome State Fault Refusal :=
  act s true fun s => s.press co false (pg .rtu 0) 0x150 0 v
/-- FW_VERIFY_DONE (R488). -/
def execFwVerifyDone (s : State) : Host.Outcome State Fault Refusal :=
  act s true fun s => s.fwVerified
/-- FW_APPLY (R489). -/
def execFwApply (co : Bool) (v : Word) (s : State) : Host.Outcome State Fault Refusal :=
  act s true fun s => s.press co false (pg .rtu 0) 0x150 2 v
/-- CPROC_READY_TIMEOUT (R489). -/
def execCprocReadyTimeout (k : Nat) (s : State) : Host.Outcome State Fault Refusal :=
  act s (k < 8) fun s => s.cprocTimeout k
/-- UCODE_LOAD (R490). -/
def execUcodeLoad (g : Nat) (s : State) : Host.Outcome State Fault Refusal :=
  act s (g < 8) fun s => s.ucodeLoad g
/-- UCODE_IDLE_EXPIRY (R490). -/
def execUcodeIdleExpiry (g : Nat) (s : State) : Host.Outcome State Fault Refusal :=
  act s (g < 8) fun s => s.ucodeIdle g
/-- FW_PERSIST (R491). -/
def execFwPersist (co : Bool) (v : Word) (s : State) : Host.Outcome State Fault Refusal :=
  act s true fun s => s.press co false (pg .rtu 0) 0x150 1 v
/-- FW_PERSIST_DONE (R491). -/
def execFwPersistDone (ok : Bool) (s : State) : Host.Outcome State Fault Refusal :=
  act s true fun s => s.persistDone ok
/-- ZEROIZE (R493). -/
def execZeroize (co : Bool) (v : Word) (s : State) : Host.Outcome State Fault Refusal :=
  act s true fun s => s.press co false (pg .rtu 0) 0x158 0 v
/-- DECOMMISSION (R494). -/
def execDecommission (co : Bool) (v : Word) (s : State) : Host.Outcome State Fault Refusal :=
  act s true fun s => s.press co false (pg .rtu 0) 0x158 1 v
/-- RTU_HEALTH_FAIL (R470). -/
def execRtuHealthFail (cause : Nat) (s : State) : Host.Outcome State Fault Refusal :=
  act s true fun s => s.rtuFail cause
/-- VIN_LOW (R498). -/
def execVinLow (s : State) : Host.Outcome State Fault Refusal :=
  actPin s fun s => s.vinLow
/-- BROWN_OUT (R507). -/
def execBrownOut (s : State) : Host.Outcome State Fault Refusal :=
  actPin s fun s => s.brownOut
/-- BROWNOUT_RECOVER (R508). -/
def execBrownoutRecover (s : State) : Host.Outcome State Fault Refusal :=
  actPin s fun s => s.brownRecover
/-- BROWNOUT_TIMEOUT (R508). -/
def execBrownoutTimeout (s : State) : Host.Outcome State Fault Refusal :=
  actPin s fun s => s.brownTimeout
/-- VIN_UNDERVOLTAGE (R508). -/
def execVinUndervoltage (s : State) : Host.Outcome State Fault Refusal :=
  actPin s fun s => s.undervoltage
/-- REFCLK_LOSS (R532). -/
def execRefclkLoss (s : State) : Host.Outcome State Fault Refusal :=
  actPin s fun s => s.refclkLoss
/-- CAP_TICK (R503). -/
def execCapTick (power : Nat) (s : State) : Host.Outcome State Fault Refusal :=
  act s true fun s => s.capTick power
/-- PWR_ALERT (R505). -/
def execPwrAlert (s : State) : Host.Outcome State Fault Refusal :=
  actPin s fun s => s.pwrAlert
/-- PWR_ALERT_RELEASE (R506). -/
def execPwrAlertRelease (s : State) : Host.Outcome State Fault Refusal :=
  actPin s fun s => s.alertRelease
/-- ALERT_HOLD_EXPIRY (R506). -/
def execAlertHoldExpiry (s : State) : Host.Outcome State Fault Refusal :=
  act s true fun s => s.alertEnd
/-- V_SET_WRITE (R500). -/
def execVSetWrite (k : Nat) (v : Word) (s : State) : Host.Outcome State Fault Refusal :=
  act s (k < 24) fun s => s.regWrite false false (pg .island k) 0x100 v
/-- THERM_SAMPLE (R511). -/
def execThermSample (temps : List Nat) (s : State) : Host.Outcome State Fault Refusal :=
  act s true fun s => s.thermSample temps
/-- THERM_TRIP (R512). -/
def execThermTrip (_sensor : Nat) (s : State) : Host.Outcome State Fault Refusal :=
  actPin s fun s => s.thermTrip
/-- HB_TIMEOUT_EXPIRY (R513). -/
def execHbTimeoutExpiry (s : State) : Host.Outcome State Fault Refusal :=
  act s true fun s => s.hbTimeout
/-- ORPHAN_EXPIRY (R515). -/
def execOrphanExpiry (s : State) : Host.Outcome State Fault Refusal :=
  act s true fun s => s.orphan
/-- I3C_ADDR_ASSIGN (R538). -/
def execI3cAddrAssign (addr : Nat) (s : State) : Host.Outcome State Fault Refusal :=
  act s true fun s => s.i3cAssign addr
/-- PLDM_REQUEST (R538). -/
def execPldmRequest (bytes : List Byte) (s : State) : Host.Outcome State Fault Refusal :=
  act s true fun s => s.pldmRequest bytes
/-- PLDM_SENSOR_UPDATE (R538). -/
def execPldmSensorUpdate (s : State) : Host.Outcome State Fault Refusal :=
  act s true fun s => s.sensorUpdate
/-- CPROC_READY (R489). -/
def execCprocReady (k : Nat) (s : State) : Host.Outcome State Fault Refusal :=
  act s (k < 8) fun s => s.cprocReady k
/-- FUSE_BLOW_DONE (R476). -/
def execFuseBlowDone (ok : Bool) (s : State) : Host.Outcome State Fault Refusal :=
  act s true fun s => s.fuseDone ok
/-- KEY_STORE_WRITE_DONE (R480). -/
def execKeyStoreWriteDone (ok : Bool) (s : State) : Host.Outcome State Fault Refusal :=
  act s true fun s => s.keyStoreDone ok
/-- EVIDENCE_SIGNED (R485). -/
def execEvidenceSigned (s : State) : Host.Outcome State Fault Refusal :=
  act s true fun s => s.evidenceDone
/-- VIN_OPERATING_RANGE (R498). -/
def execVinOperatingRange (s : State) : Host.Outcome State Fault Refusal :=
  actPin s fun s => s.vinBack

end Sys2Proof.Machine
end

