-- ==== Sys2Proof/Machine/CmdTile.lean ====
section
/-! DEFINITION. The commands of tiles and gangs (R82 to R141, R547). -/

namespace Sys2Proof.Machine

/-- TILE_ERROR (R111): codes 0x02 to 0x06, and 0x01 for a word that a read corrects (R110); a hop failure has its own command. -/
def execTileError (pos code loc : Nat) (s : State) : Host.Outcome State Fault Refusal :=
  act s (pos < 288 && 1 ≤ code && code ≤ 6) fun s => if code = 1 then (s.wordCorrected pos loc).lastingIdle (pg .tile pos) else s.tileErr pos code loc
/-- TILE_RETIRE (R104). -/
def execTileRetire (p : Nat) (v : Word) (s : State) : Host.Outcome State Fault Refusal :=
  act s (isTile p) fun s => s.press false false p 0x018 18 v
/-- Q_TAIL_WRITE (R90). -/
def execQTailWrite (p q : Nat) (v : Word) (s : State) : Host.Outcome State Fault Refusal :=
  act s (isTile p && q < 4) fun s => s.regWrite false false p (0x218 + 0x40 * q) v
/-- Q_CPL_HEAD_WRITE (R90). -/
def execQCplHeadWrite (p q : Nat) (v : Word) (s : State) : Host.Outcome State Fault Refusal :=
  act s (isTile p && q < 4) fun s => s.regWrite false false p (0x228 + 0x40 * q) v
/-- Q_ENABLE_WRITE (R109). -/
def execQEnableWrite (p q : Nat) (v : Word) (s : State) : Host.Outcome State Fault Refusal :=
  act s (isTile p && q < 4) fun s => s.regWrite false false p (0x208 + 0x40 * q) v
/-- TILE_APPLY (R107). -/
def execTileApply (p : Nat) (v : Word) (s : State) : Host.Outcome State Fault Refusal :=
  act s (isTile p) fun s => s.press false false p 0x118 0 v
/-- CMD_START (R117). -/
def execCmdStart (p : Nat) (s : State) : Host.Outcome State Fault Refusal :=
  act s (isTile p) fun s => s.cmdStart p
/-- CMD_COMPLETE (R92). -/
def execCmdComplete (p q idx : Nat) (s : State) : Host.Outcome State Fault Refusal :=
  act s (isTile p) fun s => s.cmdComplete p q idx
/-- KILL_COMPLETE (R94). -/
def execKillComplete (p : Nat) (s : State) : Host.Outcome State Fault Refusal :=
  act s (isTile p) fun s => s.killComplete p
/-- MESH_HOP_CRC_FAIL (R82). -/
def execMeshHopCrcFail (pos port : Nat) (s : State) : Host.Outcome State Fault Refusal :=
  act s (pos < 288 && port < 4) fun s => (s.hopFail pos port).lastingIdle (pg .tile pos)
/-- MESH_ARRIVAL (R547). -/
def execMeshArrival (p step gen peer off : Nat) (w : List Byte ⊕ (Nat × Nat)) (s : State) : Host.Outcome State Fault Refusal :=
  act s (peer < 288) fun s => s.meshArrival p step gen peer off w
/-- SCRUB (R110). -/
def execScrub (pos bad : Nat) (s : State) : Host.Outcome State Fault Refusal :=
  act s (pos < 288) fun s => s.scrubWord pos bad
/-- NULL (R139). -/
def execNull (p : Nat) (s : State) : Host.Outcome State Fault Refusal :=
  act s (isTile p) fun s => s.work p 0x00 0 fun r s => s.nullWork p r
/-- SYNC_WAIT (R137). -/
def execSyncWait (p : Nat) (s : State) : Host.Outcome State Fault Refusal :=
  act s (isTile p) fun s => s.work p 0x01 0 fun r s => s.waitWork p r
/-- SYNC_SIGNAL (R137). -/
def execSyncSignal (p : Nat) (s : State) : Host.Outcome State Fault Refusal :=
  act s (isTile p) fun s => s.work p 0x01 1 fun r s => s.signalWork p r
/-- SYNC_BARRIER (R137). -/
def execSyncBarrier (p : Nat) (s : State) : Host.Outcome State Fault Refusal :=
  act s (isTile p) fun s => s.work p 0x01 2 fun r s => s.barrierWork p r
/-- SYNC_FENCE (R137). -/
def execSyncFence (p : Nat) (s : State) : Host.Outcome State Fault Refusal :=
  act s (isTile p) fun s => s.work p 0x01 3 fun r s => s.fenceWork p r
/-- SYNC_TIMEOUT (R137). -/
def execSyncTimeout (p op : Nat) (s : State) : Host.Outcome State Fault Refusal :=
  act s (isTile p) fun s => s.syncTimeout p op
/-- HALO_CHECK (R138). -/
def execHaloCheck (p : Nat) (s : State) : Host.Outcome State Fault Refusal :=
  act s (isTile p) fun s => s.work p 0x02 0 fun r s => s.checkWork p r
/-- HALO_FLUSH (R138). -/
def execHaloFlush (p : Nat) (s : State) : Host.Outcome State Fault Refusal :=
  act s (isTile p) fun s => s.work p 0x02 1 fun r s => s.flushWork p r
/-- HALO_CLEAR (R138). -/
def execHaloClear (p : Nat) (s : State) : Host.Outcome State Fault Refusal :=
  act s (isTile p) fun s => s.work p 0x02 2 fun r s => s.clearWork p r
/-- MMA_DENSE (R122). -/
def execMmaDense (p : Nat) (s : State) : Host.Outcome State Fault Refusal :=
  act s (isTile p) fun s => s.work p 0x10 0 fun r s => s.denseWork p false r
/-- MMA_GROUPED (R123). -/
def execMmaGrouped (p : Nat) (s : State) : Host.Outcome State Fault Refusal :=
  act s (isTile p) fun s => s.work p 0x10 1 fun r s => s.groupedWork p r
/-- ATTN (R125). -/
def execAttn (p : Nat) (s : State) : Host.Outcome State Fault Refusal :=
  act s (isTile p) fun s => s.work p 0x11 0 fun r s => s.attnWork p r
/-- VEC_ADD (R128). -/
def execVecAdd (p : Nat) (s : State) : Host.Outcome State Fault Refusal :=
  act s (isTile p) fun s => s.work p 0x20 0x00 fun r s => s.vecWork p r
/-- VEC_MUL (R128). -/
def execVecMul (p : Nat) (s : State) : Host.Outcome State Fault Refusal :=
  act s (isTile p) fun s => s.work p 0x20 0x01 fun r s => s.vecWork p r
/-- VEC_FMA (R128). -/
def execVecFma (p : Nat) (s : State) : Host.Outcome State Fault Refusal :=
  act s (isTile p) fun s => s.work p 0x20 0x02 fun r s => s.vecWork p r
/-- VEC_AXPB (R128). -/
def execVecAxpb (p : Nat) (s : State) : Host.Outcome State Fault Refusal :=
  act s (isTile p) fun s => s.work p 0x20 0x03 fun r s => s.vecWork p r
/-- VEC_RMSNORM (R128). -/
def execVecRmsnorm (p : Nat) (s : State) : Host.Outcome State Fault Refusal :=
  act s (isTile p) fun s => s.work p 0x20 0x04 fun r s => s.vecWork p r
/-- VEC_LAYERNORM (R128). -/
def execVecLayernorm (p : Nat) (s : State) : Host.Outcome State Fault Refusal :=
  act s (isTile p) fun s => s.work p 0x20 0x05 fun r s => s.vecWork p r
/-- VEC_SOFTMAX (R128). -/
def execVecSoftmax (p : Nat) (s : State) : Host.Outcome State Fault Refusal :=
  act s (isTile p) fun s => s.work p 0x20 0x06 fun r s => s.vecWork p r
/-- VEC_SILU_MUL (R128). -/
def execVecSiluMul (p : Nat) (s : State) : Host.Outcome State Fault Refusal :=
  act s (isTile p) fun s => s.work p 0x20 0x07 fun r s => s.vecWork p r
/-- VEC_GELU (R128). -/
def execVecGelu (p : Nat) (s : State) : Host.Outcome State Fault Refusal :=
  act s (isTile p) fun s => s.work p 0x20 0x08 fun r s => s.vecWork p r
/-- VEC_ROPE (R128). -/
def execVecRope (p : Nat) (s : State) : Host.Outcome State Fault Refusal :=
  act s (isTile p) fun s => s.work p 0x20 0x09 fun r s => s.vecWork p r
/-- VEC_EXP2 (R128). -/
def execVecExp2 (p : Nat) (s : State) : Host.Outcome State Fault Refusal :=
  act s (isTile p) fun s => s.work p 0x20 0x0A fun r s => s.vecWork p r
/-- VEC_LOG2 (R128). -/
def execVecLog2 (p : Nat) (s : State) : Host.Outcome State Fault Refusal :=
  act s (isTile p) fun s => s.work p 0x20 0x0B fun r s => s.vecWork p r
/-- VEC_RECIP (R128). -/
def execVecRecip (p : Nat) (s : State) : Host.Outcome State Fault Refusal :=
  act s (isTile p) fun s => s.work p 0x20 0x0C fun r s => s.vecWork p r
/-- VEC_RSQRT (R128). -/
def execVecRsqrt (p : Nat) (s : State) : Host.Outcome State Fault Refusal :=
  act s (isTile p) fun s => s.work p 0x20 0x0D fun r s => s.vecWork p r
/-- VEC_TANH (R128). -/
def execVecTanh (p : Nat) (s : State) : Host.Outcome State Fault Refusal :=
  act s (isTile p) fun s => s.work p 0x20 0x0E fun r s => s.vecWork p r
/-- VEC_ROWSUM (R128). -/
def execVecRowsum (p : Nat) (s : State) : Host.Outcome State Fault Refusal :=
  act s (isTile p) fun s => s.work p 0x20 0x10 fun r s => s.vecWork p r
/-- VEC_ROWMAX (R128). -/
def execVecRowmax (p : Nat) (s : State) : Host.Outcome State Fault Refusal :=
  act s (isTile p) fun s => s.work p 0x20 0x11 fun r s => s.vecWork p r
/-- VEC_TOPK (R285). -/
def execVecTopk (p : Nat) (s : State) : Host.Outcome State Fault Refusal :=
  act s (isTile p) fun s => s.work p 0x20 0x12 fun r s => s.topkWork p r
/-- VEC_CAST (R128). -/
def execVecCast (p : Nat) (s : State) : Host.Outcome State Fault Refusal :=
  act s (isTile p) fun s => s.work p 0x20 0x13 fun r s => s.vecWork p r
/-- VEC_ADAMW (R128). -/
def execVecAdamw (p : Nat) (s : State) : Host.Outcome State Fault Refusal :=
  act s (isTile p) fun s => s.work p 0x20 0x20 fun r s => s.vecWork p r
/-- QNT_QUANT (R157). -/
def execQntQuant (p : Nat) (s : State) : Host.Outcome State Fault Refusal :=
  act s (isTile p) fun s => s.work p 0x21 0 fun r s => s.quantWork p r
/-- QNT_DEQUANT (R162). -/
def execQntDequant (p : Nat) (s : State) : Host.Outcome State Fault Refusal :=
  act s (isTile p) fun s => s.work p 0x21 1 fun r s => s.dequantWork p r
/-- SAMPLE (R131). -/
def execSample (p : Nat) (s : State) : Host.Outcome State Fault Refusal :=
  act s (isTile p) fun s => s.work p 0x22 0 fun r s => s.sampleWork p r
/-- MOV_COPY (R132). -/
def execMovCopy (p : Nat) (s : State) : Host.Outcome State Fault Refusal :=
  act s (isTile p) fun s => s.work p 0x30 0 fun r s => s.copyWork p r
/-- MOV_LOAD (R132). -/
def execMovLoad (p : Nat) (es : List MemErr) (s : State) : Host.Outcome State Fault Refusal :=
  act s (isTile p) fun s => s.work p 0x30 1 fun r s => s.loadWork p es r
/-- MOV_STORE (R133). -/
def execMovStore (p : Nat) (es : List MemErr) (s : State) : Host.Outcome State Fault Refusal :=
  act s (isTile p) fun s => s.work p 0x30 2 fun r s => s.storeWork p es r
/-- MOV_MESH_PUT (R132). -/
def execMovMeshPut (p : Nat) (s : State) : Host.Outcome State Fault Refusal :=
  act s (isTile p) fun s => s.work p 0x30 3 fun r s => s.meshPutWork p r
/-- MOV_BCAST (R132). -/
def execMovBcast (p : Nat) (s : State) : Host.Outcome State Fault Refusal :=
  act s (isTile p) fun s => s.work p 0x30 4 fun r s => s.bcastWork p r
/-- MOV_FILL (R132). -/
def execMovFill (p : Nat) (s : State) : Host.Outcome State Fault Refusal :=
  act s (isTile p) fun s => s.work p 0x30 5 fun r s => s.fillWork p r
/-- FETCH_SINGLE (R134). -/
def execFetchSingle (p : Nat) (s : State) : Host.Outcome State Fault Refusal :=
  act s (isTile p) fun s => s.work p 0x31 0 fun r s => s.fetchSingle p r
/-- FETCH_LIST (R134). -/
def execFetchList (p : Nat) (s : State) : Host.Outcome State Fault Refusal :=
  act s (isTile p) fun s => s.work p 0x31 1 fun r s => s.fetchList p r
/-- EXCH_PUT (R135). -/
def execExchPut (p : Nat) (s : State) : Host.Outcome State Fault Refusal :=
  act s (isTile p) fun s => s.work p 0x32 0 fun r s => s.exchWork p 0x02 64 r
/-- EXCH_ADD_F32 (R135). -/
def execExchAddF32 (p : Nat) (s : State) : Host.Outcome State Fault Refusal :=
  act s (isTile p) fun s => s.work p 0x32 1 fun r s => s.exchWork p 0x03 4 r
/-- EXCH_ADD_I64 (R135). -/
def execExchAddI64 (p : Nat) (s : State) : Host.Outcome State Fault Refusal :=
  act s (isTile p) fun s => s.work p 0x32 2 fun r s => s.exchWork p 0x04 8 r
/-- EXCH_MAX_F32 (R135). -/
def execExchMaxF32 (p : Nat) (s : State) : Host.Outcome State Fault Refusal :=
  act s (isTile p) fun s => s.work p 0x32 3 fun r s => s.exchWork p 0x05 4 r
/-- EXCH_SEND (R135). -/
def execExchSend (p : Nat) (s : State) : Host.Outcome State Fault Refusal :=
  act s (isTile p) fun s => s.work p 0x32 4 fun r s => s.sendWork p r
/-- TMMA (R140). -/
def execTmma (p : Nat) (s : State) : Host.Outcome State Fault Refusal :=
  act s (isTile p) fun s => s.work p 0x40 0 fun r s => s.denseWork p true r
/-- TGRAD (R141). -/
def execTgrad (p : Nat) (s : State) : Host.Outcome State Fault Refusal :=
  act s (isTile p) fun s => s.work p 0x41 0 fun r s => s.gradWork p r

end Sys2Proof.Machine
end

