-- ==== Sys2Proof/Machine/CmdUnit.lean ====
section
/-! DEFINITION. The commands of every unit page, of tile groups and of gangs (R59 to R75, R446 to R456). -/

namespace Sys2Proof.Machine

/-- REG_WRITE (R60). -/
def execRegWrite (co keys : Bool) (p off : Nat) (v : Word) (s : State) : Host.Outcome State Fault Refusal :=
  act s true fun s => s.regWrite co keys p off v
/-- HALT (R59). -/
def execHalt (p : Nat) (v : Word) (s : State) : Host.Outcome State Fault Refusal :=
  act s true fun s => s.press false false p 0x018 0 v
/-- DRAIN (R59). -/
def execDrain (p : Nat) (v : Word) (s : State) : Host.Outcome State Fault Refusal :=
  act s true fun s => s.press false false p 0x018 1 v
/-- KILL (R59). -/
def execKill (p : Nat) (v : Word) (s : State) : Host.Outcome State Fault Refusal :=
  act s true fun s => s.press false false p 0x018 2 v
/-- RESUME (R59). -/
def execResume (p : Nat) (v : Word) (s : State) : Host.Outcome State Fault Refusal :=
  act s true fun s => s.press false false p 0x018 3 v
/-- EVT_STAT_CLEAR (R61). -/
def execEvtStatClear (p : Nat) (v set : Word) (s : State) : Host.Outcome State Fault Refusal :=
  act s true fun s => s.clearEvts p v set
/-- EVT_MASK_WRITE (R62). -/
def execEvtMaskWrite (p : Nat) (v : Word) (s : State) : Host.Outcome State Fault Refusal :=
  act s true fun s => s.regWrite false false p 0x030 v
/-- ERR_INFO_CLEAR (R66). -/
def execErrInfoClear (p : Nat) (v : Word) (err : Option (Nat × Nat × Nat)) (s : State) : Host.Outcome State Fault Refusal :=
  act s true fun s => s.clearErr p v err
/-- UNIT_RESET (R451). -/
def execUnitReset (p : Nat) (v : Word) (s : State) : Host.Outcome State Fault Refusal :=
  act s true fun s => s.press false false p 0x050 0 v
/-- ISOLATE (R449). -/
def execIsolate (p : Nat) (v : Word) (s : State) : Host.Outcome State Fault Refusal :=
  act s true fun s => s.press false false p 0x050 1 v
/-- RELEASE (R67). -/
def execRelease (p : Nat) (v : Word) (s : State) : Host.Outcome State Fault Refusal :=
  act s true fun s => s.press false false p 0x050 2 v
/-- SELFTEST_START (R68). -/
def execSelftestStart (p : Nat) (v : Word) (s : State) : Host.Outcome State Fault Refusal :=
  act s true fun s => s.press false false p 0x058 0 v
/-- SELFTEST_DONE (R454). -/
def execSelftestDone (p : Nat) (pass : Bool) (detail : Nat) (s : State) : Host.Outcome State Fault Refusal :=
  act s (unitOf p).isSome fun s => s.selftestDone p pass detail
/-- TG_ISLANDS_WRITE (R70). -/
def execTgIslandsWrite (g : Nat) (v : Word) (s : State) : Host.Outcome State Fault Refusal :=
  act s (g < 8) fun s => s.regWrite false false (pg .tgroup g) 0x100 v
/-- BIND (R72). -/
def execBind (p : Nat) (v : Word) (s : State) : Host.Outcome State Fault Refusal :=
  act s (typeOf p == .gang) fun s => s.press false false p 0xE08 0 v
/-- UNBIND (R75). -/
def execUnbind (p : Nat) (v : Word) (s : State) : Host.Outcome State Fault Refusal :=
  act s (typeOf p == .gang) fun s => s.press false false p 0xE08 1 v

end Sys2Proof.Machine
end

