-- ==== Sys2Proof/Machine/Dispatch.lean ====
section
/-! DEFINITION. What each command does: one meaning for each constructor. -/

namespace Sys2Proof.Machine

def exec (i : Instr) (s : State) : Host.Outcome State Fault Refusal :=
  match i with
  | .regWrite co keys p off v => Sys2Proof.Machine.execRegWrite co keys p off v s
  | .halt p v => Sys2Proof.Machine.execHalt p v s
  | .drain p v => Sys2Proof.Machine.execDrain p v s
  | .kill p v => Sys2Proof.Machine.execKill p v s
  | .resume p v => Sys2Proof.Machine.execResume p v s
  | .evtStatClear p v set => Sys2Proof.Machine.execEvtStatClear p v set s
  | .evtMaskWrite p v => Sys2Proof.Machine.execEvtMaskWrite p v s
  | .errInfoClear p v err => Sys2Proof.Machine.execErrInfoClear p v err s
  | .unitReset p v => Sys2Proof.Machine.execUnitReset p v s
  | .isolate p v => Sys2Proof.Machine.execIsolate p v s
  | .release p v => Sys2Proof.Machine.execRelease p v s
  | .selftestStart p v => Sys2Proof.Machine.execSelftestStart p v s
  | .selftestDone p pass detail => Sys2Proof.Machine.execSelftestDone p pass detail s
  | .tgIslandsWrite g v => Sys2Proof.Machine.execTgIslandsWrite g v s
  | .bind p v => Sys2Proof.Machine.execBind p v s
  | .unbind p v => Sys2Proof.Machine.execUnbind p v s
  | .tileError pos code loc => Sys2Proof.Machine.execTileError pos code loc s
  | .tileRetire p v => Sys2Proof.Machine.execTileRetire p v s
  | .qTailWrite p q v => Sys2Proof.Machine.execQTailWrite p q v s
  | .qCplHeadWrite p q v => Sys2Proof.Machine.execQCplHeadWrite p q v s
  | .qEnableWrite p q v => Sys2Proof.Machine.execQEnableWrite p q v s
  | .tileApply p v => Sys2Proof.Machine.execTileApply p v s
  | .cmdStart p => Sys2Proof.Machine.execCmdStart p s
  | .cmdComplete p q idx => Sys2Proof.Machine.execCmdComplete p q idx s
  | .killComplete p => Sys2Proof.Machine.execKillComplete p s
  | .meshHopCrcFail pos port => Sys2Proof.Machine.execMeshHopCrcFail pos port s
  | .meshArrival p step gen peer off w => Sys2Proof.Machine.execMeshArrival p step gen peer off w s
  | .scrub pos bad => Sys2Proof.Machine.execScrub pos bad s
  | .null p => Sys2Proof.Machine.execNull p s
  | .syncWait p => Sys2Proof.Machine.execSyncWait p s
  | .syncSignal p => Sys2Proof.Machine.execSyncSignal p s
  | .syncBarrier p => Sys2Proof.Machine.execSyncBarrier p s
  | .syncFence p => Sys2Proof.Machine.execSyncFence p s
  | .syncTimeout p op => Sys2Proof.Machine.execSyncTimeout p op s
  | .haloCheck p => Sys2Proof.Machine.execHaloCheck p s
  | .haloFlush p => Sys2Proof.Machine.execHaloFlush p s
  | .haloClear p => Sys2Proof.Machine.execHaloClear p s
  | .mmaDense p => Sys2Proof.Machine.execMmaDense p s
  | .mmaGrouped p => Sys2Proof.Machine.execMmaGrouped p s
  | .attn p => Sys2Proof.Machine.execAttn p s
  | .vecAdd p => Sys2Proof.Machine.execVecAdd p s
  | .vecMul p => Sys2Proof.Machine.execVecMul p s
  | .vecFma p => Sys2Proof.Machine.execVecFma p s
  | .vecAxpb p => Sys2Proof.Machine.execVecAxpb p s
  | .vecRmsnorm p => Sys2Proof.Machine.execVecRmsnorm p s
  | .vecLayernorm p => Sys2Proof.Machine.execVecLayernorm p s
  | .vecSoftmax p => Sys2Proof.Machine.execVecSoftmax p s
  | .vecSiluMul p => Sys2Proof.Machine.execVecSiluMul p s
  | .vecGelu p => Sys2Proof.Machine.execVecGelu p s
  | .vecRope p => Sys2Proof.Machine.execVecRope p s
  | .vecExp2 p => Sys2Proof.Machine.execVecExp2 p s
  | .vecLog2 p => Sys2Proof.Machine.execVecLog2 p s
  | .vecRecip p => Sys2Proof.Machine.execVecRecip p s
  | .vecRsqrt p => Sys2Proof.Machine.execVecRsqrt p s
  | .vecTanh p => Sys2Proof.Machine.execVecTanh p s
  | .vecRowsum p => Sys2Proof.Machine.execVecRowsum p s
  | .vecRowmax p => Sys2Proof.Machine.execVecRowmax p s
  | .vecTopk p => Sys2Proof.Machine.execVecTopk p s
  | .vecCast p => Sys2Proof.Machine.execVecCast p s
  | .vecAdamw p => Sys2Proof.Machine.execVecAdamw p s
  | .qntQuant p => Sys2Proof.Machine.execQntQuant p s
  | .qntDequant p => Sys2Proof.Machine.execQntDequant p s
  | .sample p => Sys2Proof.Machine.execSample p s
  | .movCopy p => Sys2Proof.Machine.execMovCopy p s
  | .movLoad p es => Sys2Proof.Machine.execMovLoad p es s
  | .movStore p es => Sys2Proof.Machine.execMovStore p es s
  | .movMeshPut p => Sys2Proof.Machine.execMovMeshPut p s
  | .movBcast p => Sys2Proof.Machine.execMovBcast p s
  | .movFill p => Sys2Proof.Machine.execMovFill p s
  | .fetchSingle p => Sys2Proof.Machine.execFetchSingle p s
  | .fetchList p => Sys2Proof.Machine.execFetchList p s
  | .exchPut p => Sys2Proof.Machine.execExchPut p s
  | .exchAddF32 p => Sys2Proof.Machine.execExchAddF32 p s
  | .exchAddI64 p => Sys2Proof.Machine.execExchAddI64 p s
  | .exchMaxF32 p => Sys2Proof.Machine.execExchMaxF32 p s
  | .exchSend p => Sys2Proof.Machine.execExchSend p s
  | .tmma p => Sys2Proof.Machine.execTmma p s
  | .tgrad p => Sys2Proof.Machine.execTgrad p s
  | .haloEvaluate g => Sys2Proof.Machine.execHaloEvaluate g s
  | .haloLogPop g v => Sys2Proof.Machine.execHaloLogPop g v s
  | .haloWpWrite g off v => Sys2Proof.Machine.execHaloWpWrite g off v s
  | .rcpModeWrite g off v => Sys2Proof.Machine.execRcpModeWrite g off v s
  | .gmemCopy k v => Sys2Proof.Machine.execGmemCopy k v s
  | .gmemReturn k v => Sys2Proof.Machine.execGmemReturn k v s
  | .gmemRelocDone k => Sys2Proof.Machine.execGmemRelocDone k s
  | .mcFlushStart k v => Sys2Proof.Machine.execMcFlushStart k v s
  | .mcFlushDone k => Sys2Proof.Machine.execMcFlushDone k s
  | .btLinkDown k d => Sys2Proof.Machine.execBtLinkDown k d s
  | .btRetrain k v => Sys2Proof.Machine.execBtRetrain k v s
  | .poolApply g v => Sys2Proof.Machine.execPoolApply g v s
  | .poolApplyDone g => Sys2Proof.Machine.execPoolApplyDone g s
  | .evictWaitExpiry g => Sys2Proof.Machine.execEvictWaitExpiry g s
  | .evictStart g => Sys2Proof.Machine.execEvictStart g s
  | .poolMoveDone g h => Sys2Proof.Machine.execPoolMoveDone g h s
  | .poolAge g => Sys2Proof.Machine.execPoolAge g s
  | .poolReqTailWrite g v => Sys2Proof.Machine.execPoolReqTailWrite g v s
  | .poolCplHeadWrite g v => Sys2Proof.Machine.execPoolCplHeadWrite g v s
  | .park g x => Sys2Proof.Machine.execPark g x s
  | .promote g x => Sys2Proof.Machine.execPromote g x s
  | .drop g x => Sys2Proof.Machine.execDrop g x s
  | .fork g x => Sys2Proof.Machine.execFork g x s
  | .setQuota g x => Sys2Proof.Machine.execSetQuota g x s
  | .querySeq g x => Sys2Proof.Machine.execQuerySeq g x s
  | .queryCust g x => Sys2Proof.Machine.execQueryCust g x s
  | .udTableCheck k v => Sys2Proof.Machine.execUdTableCheck k v s
  | .udEnableWrite k v => Sys2Proof.Machine.execUdEnableWrite k v s
  | .useArm g => Sys2Proof.Machine.execUseArm g s
  | .fillEntry u layer e es => Sys2Proof.Machine.execFillEntry u layer e es s
  | .loadStart k v => Sys2Proof.Machine.execLoadStart k v s
  | .pullData session id status body es => Sys2Proof.Machine.execPullData session id status body es s
  | .pullTimeoutExpiry u c => Sys2Proof.Machine.execPullTimeoutExpiry u c s
  | .loadResume k v => Sys2Proof.Machine.execLoadResume k v s
  | .loadAbort k v => Sys2Proof.Machine.execLoadAbort k v s
  | .swapPrepare k v => Sys2Proof.Machine.execSwapPrepare k v s
  | .swapCommit k v => Sys2Proof.Machine.execSwapCommit k v s
  | .swapCancel k v => Sys2Proof.Machine.execSwapCancel k v s
  | .swapCopyChunk u es => Sys2Proof.Machine.execSwapCopyChunk u es s
  | .grant session id body => Sys2Proof.Machine.execGrant session id body s
  | .programCheck g v => Sys2Proof.Machine.execProgramCheck g v s
  | .stepOpen g => Sys2Proof.Machine.execStepOpen g s
  | .gapWaitExpiry g => Sys2Proof.Machine.execGapWaitExpiry g s
  | .sliceEnd g => Sys2Proof.Machine.execSliceEnd g s
  | .sectionDispatch g => Sys2Proof.Machine.execSectionDispatch g s
  | .layerGo g v => Sys2Proof.Machine.execLayerGo g v s
  | .stepCommit g => Sys2Proof.Machine.execStepCommit g s
  | .stepKillResolve g => Sys2Proof.Machine.execStepKillResolve g s
  | .abortStep g v => Sys2Proof.Machine.execAbortStep g v s
  | .isolationLimitExpiry g => Sys2Proof.Machine.execIsolationLimitExpiry g s
  | .expertFetch k g idx => Sys2Proof.Machine.execExpertFetch k g idx s
  | .combine k g idx => Sys2Proof.Machine.execCombine k g idx s
  | .dispatch k g idx => Sys2Proof.Machine.execDispatch k g idx s
  | .returnJob k g idx => Sys2Proof.Machine.execReturnJob k g idx s
  | .allReduce k g idx => Sys2Proof.Machine.execAllReduce k g idx s
  | .reduceScatter k g idx => Sys2Proof.Machine.execReduceScatter k g idx s
  | .allGather k g idx => Sys2Proof.Machine.execAllGather k g idx s
  | .sqJobComplete k g idx => Sys2Proof.Machine.execSqJobComplete k g idx s
  | .sqJobTimeout k g idx => Sys2Proof.Machine.execSqJobTimeout k g idx s
  | .planCheck k v => Sys2Proof.Machine.execPlanCheck k v s
  | .seqOpen session id body => Sys2Proof.Machine.execSeqOpen session id body s
  | .seqPrompt session id body => Sys2Proof.Machine.execSeqPrompt session id body s
  | .seqBind session id body => Sys2Proof.Machine.execSeqBind session id body s
  | .seqClose session id body => Sys2Proof.Machine.execSeqClose session id body s
  | .seqSubscribe session id body => Sys2Proof.Machine.execSeqSubscribe session id body s
  | .seqAck session id body => Sys2Proof.Machine.execSeqAck session id body s
  | .seqQuery session id body => Sys2Proof.Machine.execSeqQuery session id body s
  | .keepaliveExpiry x => Sys2Proof.Machine.execKeepaliveExpiry x s
  | .bkBalanceWrite k v => Sys2Proof.Machine.execBkBalanceWrite k v s
  | .bkCredit k v => Sys2Proof.Machine.execBkCredit k v s
  | .adInstall k v => Sys2Proof.Machine.execAdInstall k v s
  | .adInstallDone k => Sys2Proof.Machine.execAdInstallDone k s
  | .adRetire k v => Sys2Proof.Machine.execAdRetire k v s
  | .ctEnableWrite k v => Sys2Proof.Machine.execCtEnableWrite k v s
  | .flEnableWrite l v => Sys2Proof.Machine.execFlEnableWrite l v s
  | .linkDetect l lanes => Sys2Proof.Machine.execLinkDetect l lanes s
  | .linkRxReady l lanes => Sys2Proof.Machine.execLinkRxReady l lanes s
  | .linkAlignDone l words => Sys2Proof.Machine.execLinkAlignDone l words s
  | .trainingTimeout l => Sys2Proof.Machine.execTrainingTimeout l s
  | .linkDownWaitExpiry l => Sys2Proof.Machine.execLinkDownWaitExpiry l s
  | .frameRx l decoded msg corr => Sys2Proof.Machine.execFrameRx l decoded msg corr s
  | .replayReq l fseq => Sys2Proof.Machine.execReplayReq l fseq s
  | .ackStallExpiry l => Sys2Proof.Machine.execAckStallExpiry l s
  | .ident l fields => Sys2Proof.Machine.execIdent l fields s
  | .identAck l verdict rev => Sys2Proof.Machine.execIdentAck l verdict rev s
  | .identResendExpiry l => Sys2Proof.Machine.execIdentResendExpiry l s
  | .mirror l lane => Sys2Proof.Machine.execMirror l lane s
  | .mirrorOn l lane fseq => Sys2Proof.Machine.execMirrorOn l lane fseq s
  | .steered l lane phys => Sys2Proof.Machine.execSteered l lane phys s
  | .laneRelease l phys => Sys2Proof.Machine.execLaneRelease l phys s
  | .eqReq l phys preset => Sys2Proof.Machine.execEqReq l phys preset s
  | .eqSet l phys preset => Sys2Proof.Machine.execEqSet l phys preset s
  | .laneFail l lane => Sys2Proof.Machine.execLaneFail l lane s
  | .recal l v => Sys2Proof.Machine.execRecal l v s
  | .autoRecalTurn l => Sys2Proof.Machine.execAutoRecalTurn l s
  | .recalAdaptDone l ok => Sys2Proof.Machine.execRecalAdaptDone l ok s
  | .noFrameTimeout l => Sys2Proof.Machine.execNoFrameTimeout l s
  | .flRetrain l v => Sys2Proof.Machine.execFlRetrain l v s
  | .accept l v => Sys2Proof.Machine.execAccept l v s
  | .nbrExpectWrite l v => Sys2Proof.Machine.execNbrExpectWrite l v s
  | .ftRd l q es waiting top => Sys2Proof.Machine.execFtRd l q es waiting top s
  | .ftWrStaged l q es waiting top => Sys2Proof.Machine.execFtWrStaged l q es waiting top s
  | .ftAddF32 l q es waiting top => Sys2Proof.Machine.execFtAddF32 l q es waiting top s
  | .ftAddI64 l q es waiting top => Sys2Proof.Machine.execFtAddI64 l q es waiting top s
  | .ftMaxF32 l q es waiting top => Sys2Proof.Machine.execFtMaxF32 l q es waiting top s
  | .ftFence l q => Sys2Proof.Machine.execFtFence l q s
  | .ftNotice l q => Sys2Proof.Machine.execFtNotice l q s
  | .ftRdRsp l q => Sys2Proof.Machine.execFtRdRsp l q s
  | .ftStagedAck l q => Sys2Proof.Machine.execFtStagedAck l q s
  | .ftHold l q => Sys2Proof.Machine.execFtHold l q s
  | .ftFenceAck l q => Sys2Proof.Machine.execFtFenceAck l q s
  | .ftNoticeAck l q => Sys2Proof.Machine.execFtNoticeAck l q s
  | .ftMsgTile l q => Sys2Proof.Machine.execFtMsgTile l q s
  | .ftMsgMark l q => Sys2Proof.Machine.execFtMsgMark l q s
  | .ftMsgBundle l q => Sys2Proof.Machine.execFtMsgBundle l q s
  | .ftMsgAck l q => Sys2Proof.Machine.execFtMsgAck l q s
  | .fabricReady l q => Sys2Proof.Machine.execFabricReady l q s
  | .swapReadyMsg l q => Sys2Proof.Machine.execSwapReadyMsg l q s
  | .mgmtRd l q => Sys2Proof.Machine.execMgmtRd l q s
  | .mgmtWr l q => Sys2Proof.Machine.execMgmtWr l q s
  | .mgmtRsp l q => Sys2Proof.Machine.execMgmtRsp l q s
  | .reqTimeoutExpiry p slot => Sys2Proof.Machine.execReqTimeoutExpiry p slot s
  | .holdTimerExpiry k => Sys2Proof.Machine.execHoldTimerExpiry k s
  | .noticeRetryExpiry k => Sys2Proof.Machine.execNoticeRetryExpiry k s
  | .cbTimeoutExpiry src tg step run => Sys2Proof.Machine.execCbTimeoutExpiry src tg step run s
  | .combineWindowClose k => Sys2Proof.Machine.execCombineWindowClose k s
  | .hotQueueRelease half line => Sys2Proof.Machine.execHotQueueRelease half line s
  | .impValidWrite k v => Sys2Proof.Machine.execImpValidWrite k v s
  | .routeFault l => Sys2Proof.Machine.execRouteFault l s
  | .packetForward l vc q => Sys2Proof.Machine.execPacketForward l vc q s
  | .lostDelayExpiry x => Sys2Proof.Machine.execLostDelayExpiry x s
  | .lostSet k v => Sys2Proof.Machine.execLostSet k v s
  | .lostClear k v => Sys2Proof.Machine.execLostClear k v s
  | .join k v => Sys2Proof.Machine.execJoin k v s
  | .leave k v => Sys2Proof.Machine.execLeave k v s
  | .rtEntryWrite k off v => Sys2Proof.Machine.execRtEntryWrite k off v s
  | .psetWrite k w v => Sys2Proof.Machine.execPsetWrite k w v s
  | .tgValidWrite k v => Sys2Proof.Machine.execTgValidWrite k v s
  | .domainCfgWrite k v => Sys2Proof.Machine.execDomainCfgWrite k v s
  | .hello d => Sys2Proof.Machine.execHello d s
  | .finish via header ct confirm => Sys2Proof.Machine.execFinish via header ct confirm s
  | .setupTimeout x => Sys2Proof.Machine.execSetupTimeout x s
  | .gctClose x => Sys2Proof.Machine.execGctClose x s
  | .ackOnly d => Sys2Proof.Machine.execAckOnly d s
  | .segmentRx d es => Sys2Proof.Machine.execSegmentRx d es s
  | .rtoExpiry x => Sys2Proof.Machine.execRtoExpiry x s
  | .ackDelayExpiry x => Sys2Proof.Machine.execAckDelayExpiry x s
  | .sessionIdleExpiry x => Sys2Proof.Machine.execSessionIdleExpiry x s
  | .regAccess session id body => Sys2Proof.Machine.execRegAccess session id body s
  | .dpWrite session id body es => Sys2Proof.Machine.execDpWrite session id body es s
  | .dpRead session id body es => Sys2Proof.Machine.execDpRead session id body es s
  | .evtSub session id body => Sys2Proof.Machine.execEvtSub session id body s
  | .getCerts session id body => Sys2Proof.Machine.execGetCerts session id body s
  | .getEvidence session id body => Sys2Proof.Machine.execGetEvidence session id body s
  | .heartbeat session id body => Sys2Proof.Machine.execHeartbeat session id body s
  | .sessClose k v => Sys2Proof.Machine.execSessClose k v s
  | .sessMove k v => Sys2Proof.Machine.execSessMove k v s
  | .saLoad k keys v => Sys2Proof.Machine.execSaLoad k keys v s
  | .enetLinkChange k speed => Sys2Proof.Machine.execEnetLinkChange k speed s
  | .ptpMessage via kind master value => Sys2Proof.Machine.execPtpMessage via kind master value s
  | .syncLossExpiry net => Sys2Proof.Machine.execSyncLossExpiry net s
  | .todArm v => Sys2Proof.Machine.execTodArm v s
  | .ppsInEdge => Sys2Proof.Machine.execPpsInEdge s
  | .ppsOutPulse => Sys2Proof.Machine.execPpsOutPulse s
  | .pwrGoodRise => Sys2Proof.Machine.execPwrGoodRise s
  | .pwrGoodFall => Sys2Proof.Machine.execPwrGoodFall s
  | .pkgResetAssert => Sys2Proof.Machine.execPkgResetAssert s
  | .pkgResetRelease => Sys2Proof.Machine.execPkgResetRelease s
  | .bootStageDone failed => Sys2Proof.Machine.execBootStageDone failed s
  | .bootStageTimeout failed => Sys2Proof.Machine.execBootStageTimeout failed s
  | .warmReset v => Sys2Proof.Machine.execWarmReset v s
  | .watchdogExpiry k => Sys2Proof.Machine.execWatchdogExpiry k s
  | .criticalUncorr p kind loc => Sys2Proof.Machine.execCriticalUncorr p kind loc s
  | .optCommit v => Sys2Proof.Machine.execOptCommit v s
  | .optCommitDone ok => Sys2Proof.Machine.execOptCommitDone ok s
  | .svnCommit co v => Sys2Proof.Machine.execSvnCommit co v s
  | .revoke co v => Sys2Proof.Machine.execRevoke co v s
  | .akLoad co v => Sys2Proof.Machine.execAkLoad co v s
  | .akClear co v => Sys2Proof.Machine.execAkClear co v s
  | .fwVerify co v => Sys2Proof.Machine.execFwVerify co v s
  | .fwVerifyDone => Sys2Proof.Machine.execFwVerifyDone s
  | .fwApply co v => Sys2Proof.Machine.execFwApply co v s
  | .cprocReadyTimeout k => Sys2Proof.Machine.execCprocReadyTimeout k s
  | .ucodeLoad g => Sys2Proof.Machine.execUcodeLoad g s
  | .ucodeIdleExpiry g => Sys2Proof.Machine.execUcodeIdleExpiry g s
  | .fwPersist co v => Sys2Proof.Machine.execFwPersist co v s
  | .fwPersistDone ok => Sys2Proof.Machine.execFwPersistDone ok s
  | .zeroize co v => Sys2Proof.Machine.execZeroize co v s
  | .decommission co v => Sys2Proof.Machine.execDecommission co v s
  | .rtuHealthFail cause => Sys2Proof.Machine.execRtuHealthFail cause s
  | .vinLow => Sys2Proof.Machine.execVinLow s
  | .brownOut => Sys2Proof.Machine.execBrownOut s
  | .brownoutRecover => Sys2Proof.Machine.execBrownoutRecover s
  | .brownoutTimeout => Sys2Proof.Machine.execBrownoutTimeout s
  | .vinUndervoltage => Sys2Proof.Machine.execVinUndervoltage s
  | .refclkLoss => Sys2Proof.Machine.execRefclkLoss s
  | .capTick power => Sys2Proof.Machine.execCapTick power s
  | .pwrAlert => Sys2Proof.Machine.execPwrAlert s
  | .pwrAlertRelease => Sys2Proof.Machine.execPwrAlertRelease s
  | .alertHoldExpiry => Sys2Proof.Machine.execAlertHoldExpiry s
  | .vSetWrite k v => Sys2Proof.Machine.execVSetWrite k v s
  | .thermSample temps => Sys2Proof.Machine.execThermSample temps s
  | .thermTrip sensor => Sys2Proof.Machine.execThermTrip sensor s
  | .hbTimeoutExpiry => Sys2Proof.Machine.execHbTimeoutExpiry s
  | .orphanExpiry => Sys2Proof.Machine.execOrphanExpiry s
  | .i3cAddrAssign addr => Sys2Proof.Machine.execI3cAddrAssign addr s
  | .pldmRequest bytes => Sys2Proof.Machine.execPldmRequest bytes s
  | .pldmSensorUpdate => Sys2Proof.Machine.execPldmSensorUpdate s
  | .cprocReady k => Sys2Proof.Machine.execCprocReady k s
  | .gmemRetrainDone k ok => Sys2Proof.Machine.execGmemRetrainDone k ok s
  | .btLinkUp k d speed width => Sys2Proof.Machine.execBtLinkUp k d speed width s
  | .loadVerifyDone u => Sys2Proof.Machine.execLoadVerifyDone u s
  | .programCheckDone g => Sys2Proof.Machine.execProgramCheckDone g s
  | .tableCheckDone u => Sys2Proof.Machine.execTableCheckDone u s
  | .planCheckDone k g => Sys2Proof.Machine.execPlanCheckDone k g s
  | .fuseBlowDone ok => Sys2Proof.Machine.execFuseBlowDone ok s
  | .keyStoreWriteDone ok => Sys2Proof.Machine.execKeyStoreWriteDone ok s
  | .evidenceSigned => Sys2Proof.Machine.execEvidenceSigned s
  | .vinOperatingRange => Sys2Proof.Machine.execVinOperatingRange s
  | .cxlDeviceEvent k d => Sys2Proof.Machine.execCxlDeviceEvent k d s

end Sys2Proof.Machine
end

