-- ==== Sys2Proof/Safety.lean ====
section
/-! DEFINITION. What the statements speak of: the canonical form of memory, a state in which nothing follows from a command, runs of the
queue, and what every command leaves as it is. -/

namespace Sys2Proof.Machine

/-- Package memory is in canonical form: addresses strictly rising, and no byte that an unlisted address reads as. -/
def Memory.wf (m : List Host.Cell) : Bool := tblWf memDefault m

/-- Nothing waits and nothing is open: what `State.after` does in such a state is nothing (log entry 31). `was` says whether FAULT_L was
asserted before. -/
def State.quiet (s : State) (was : Bool) : Bool :=
  s.fab.held.isEmpty && s.fab.wait.isEmpty && s.fab.done.isEmpty
  && s.rd frp F.FROUTER.LOST0 == 0 && s.rd frp F.FROUTER.LOST1 == 0
  && (List.range 8).all (fun g => (s.openOf g).isNone && (s.heldOf g).length + (if s.on (pg .stepseq g) F.COM.HALT then 1 else 0) == 0
        && s.stored (pg .stepseq g) != .draining)
  && s.seqWait.isEmpty && s.remote.isEmpty
  && [0, 1].all (fun k => (s.squ k).jobs.isEmpty && (s.squ k).forward.isEmpty)
  && (List.range 8).all (fun g => !s.poolDue g) && s.drainEnds.isEmpty
  && s.partsOn.isEmpty && !s.pins.ppsHigh && s.late.isEmpty && s.uaux.all (fun x => x.2.due.isEmpty)
  && s.sessions.all (fun x => x.2.queue.isEmpty && !(x.2.st == .up && x.2.ak == 16))
  && (was || !s.faultL || decide (s.bstage < 6))

/-- The state after a command with this effect: the effect, and then what follows from it (R18; `State.after`), with the configuration and the
queue as they were. -/
def State.ran (s : State) (f : State → State) : State := s.closed ((f s.entry).after s.faultL)

/-- Nothing follows from this effect: after it nothing waits. -/
def State.calm (s : State) (f : State → State) : Prop := (f s.entry).quiet s.faultL = true

/-- No fuse is being blown, and neither the key store, a firmware directory nor the option record is being written. -/
def State.storesIdle (s : State) : Bool :=
  s.rtu.blow.isEmpty && s.rtu.akNew.isNone && !s.busy.contains (rtuKey 1) && !s.on bootPg F.BOOT.OPT_BUSY

/-- The commands of the pins and of the supply, which act without power (R445, R498, R534). -/
def isPin : Instr → Bool
  | .pwrGoodRise | .pwrGoodFall | .pkgResetAssert | .pkgResetRelease | .vinLow | .brownOut | .brownoutRecover | .brownoutTimeout
  | .vinUndervoltage | .refclkLoss | .pwrAlert | .pwrAlertRelease | .thermTrip _ | .vinOperatingRange => true
  | _ => false

/-- A register write that a command carries: the rights of the session (Crypto Officer, LINK_KEYS), the page, the offset and the word. -/
structure RegForm where
  co : Bool
  keys : Bool
  page : Nat
  off : Nat
  val : Word
  deriving DecidableEq, Repr

/-- The write that a command in range carries, for the commands that are the write of one register; those that trigger an action carry
the written word with the action's bit set (R16). -/
def regForm : Instr → Option RegForm
  | .regWrite co keys p off v => some ⟨co, keys, p, off, v⟩
  | .halt p v => some ⟨false, false, p, 0x018, v ||| BitVec.ofNat 64 (2 ^ 0)⟩
  | .drain p v => some ⟨false, false, p, 0x018, v ||| BitVec.ofNat 64 (2 ^ 1)⟩
  | .kill p v => some ⟨false, false, p, 0x018, v ||| BitVec.ofNat 64 (2 ^ 2)⟩
  | .resume p v => some ⟨false, false, p, 0x018, v ||| BitVec.ofNat 64 (2 ^ 3)⟩
  | .evtMaskWrite p v => some ⟨false, false, p, 0x030, v⟩
  | .unitReset p v => some ⟨false, false, p, 0x050, v ||| BitVec.ofNat 64 (2 ^ 0)⟩
  | .isolate p v => some ⟨false, false, p, 0x050, v ||| BitVec.ofNat 64 (2 ^ 1)⟩
  | .release p v => some ⟨false, false, p, 0x050, v ||| BitVec.ofNat 64 (2 ^ 2)⟩
  | .selftestStart p v => some ⟨false, false, p, 0x058, v ||| BitVec.ofNat 64 (2 ^ 0)⟩
  | .tgIslandsWrite g v => if g < 8 then some ⟨false, false, pg .tgroup g, 0x100, v⟩ else none
  | .bind p v => if typeOf p == .gang then some ⟨false, false, p, 0xE08, v ||| BitVec.ofNat 64 (2 ^ 0)⟩ else none
  | .unbind p v => if typeOf p == .gang then some ⟨false, false, p, 0xE08, v ||| BitVec.ofNat 64 (2 ^ 1)⟩ else none
  | .tileRetire p v => if isTile p then some ⟨false, false, p, 0x018, v ||| BitVec.ofNat 64 (2 ^ 18)⟩ else none
  | .qTailWrite p q v => if isTile p && q < 4 then some ⟨false, false, p, 0x218 + 0x40 * q, v⟩ else none
  | .qCplHeadWrite p q v => if isTile p && q < 4 then some ⟨false, false, p, 0x228 + 0x40 * q, v⟩ else none
  | .qEnableWrite p q v => if isTile p && q < 4 then some ⟨false, false, p, 0x208 + 0x40 * q, v⟩ else none
  | .tileApply p v => if isTile p then some ⟨false, false, p, 0x118, v ||| BitVec.ofNat 64 (2 ^ 0)⟩ else none
  | .haloLogPop g v => if g < 8 then some ⟨false, false, pg .halo g, 0x170, v ||| BitVec.ofNat 64 (2 ^ 0)⟩ else none
  | .haloWpWrite g off v => if g < 8 && 0x110 ≤ off && off < 0x138 then some ⟨false, false, pg .halo g, off, v⟩ else none
  | .rcpModeWrite g off v => if g < 8 && off == 0x148 then some ⟨false, false, pg .halo g, off, v⟩ else none
  | .gmemCopy k v => if k < 20 then some ⟨false, false, pg .gmem k, 0x120, v ||| BitVec.ofNat 64 (2 ^ 0)⟩ else none
  | .gmemReturn k v => if k < 20 then some ⟨false, false, pg .gmem k, 0x120, v ||| BitVec.ofNat 64 (2 ^ 1)⟩ else none
  | .mcFlushStart k v => if k < 2 then some ⟨false, false, pg .mcache k, 0x198, v ||| BitVec.ofNat 64 (2 ^ 0)⟩ else none
  | .btRetrain k v => if k < 2 then some ⟨false, false, pg .btier k, 0x120, v ||| BitVec.ofNat 64 (2 ^ 0)⟩ else none
  | .poolApply g v => if g < 8 then some ⟨false, false, pg .pool g, 0x130, v ||| BitVec.ofNat 64 (2 ^ 0)⟩ else none
  | .poolReqTailWrite g v => if g < 8 then some ⟨false, false, pg .pool g, 0x150, v⟩ else none
  | .poolCplHeadWrite g v => if g < 8 then some ⟨false, false, pg .pool g, 0x168, v⟩ else none
  | .udTableCheck k v => if k < 8 then some ⟨false, false, pg .updraft k, 0x118, v ||| BitVec.ofNat 64 (2 ^ 1)⟩ else none
  | .udEnableWrite k v => if k < 8 then some ⟨false, false, pg .updraft k, 0x118, v &&& ~~~ 2⟩ else none
  | .loadStart k v => if k < 8 then some ⟨false, false, pg .updraft k, 0x1A8, v ||| BitVec.ofNat 64 (2 ^ 2)⟩ else none
  | .loadResume k v => if k < 8 then some ⟨false, false, pg .updraft k, 0x1A8, v ||| BitVec.ofNat 64 (2 ^ 3)⟩ else none
  | .loadAbort k v => if k < 8 then some ⟨false, false, pg .updraft k, 0x1A8, v ||| BitVec.ofNat 64 (2 ^ 4)⟩ else none
  | .swapPrepare k v => if k < 8 then some ⟨false, false, pg .updraft k, 0x1C0, v ||| BitVec.ofNat 64 (2 ^ 24)⟩ else none
  | .swapCommit k v => if k < 8 then some ⟨false, false, pg .updraft k, 0x1C0, v ||| BitVec.ofNat 64 (2 ^ 25)⟩ else none
  | .swapCancel k v => if k < 8 then some ⟨false, false, pg .updraft k, 0x1C0, v ||| BitVec.ofNat 64 (2 ^ 26)⟩ else none
  | .impValidWrite k v => if k < 2 then some ⟨false, false, pg .frouter k, 0x118, v⟩ else none
  | .lostSet k v => if k < 2 then some ⟨false, false, pg .frouter k, 0x210, v ||| BitVec.ofNat 64 (2 ^ 8)⟩ else none
  | .lostClear k v => if k < 2 then some ⟨false, false, pg .frouter k, 0x210, v ||| BitVec.ofNat 64 (2 ^ 9)⟩ else none
  | .join k v => if k < 64 then some ⟨false, false, pg .partition k, 0x110, v ||| BitVec.ofNat 64 (2 ^ 0)⟩ else none
  | .leave k v => if k < 64 then some ⟨false, false, pg .partition k, 0x110, v ||| BitVec.ofNat 64 (2 ^ 1)⟩ else none
  | .rtEntryWrite k off v => if k < 2 && isEntryOff off then some ⟨false, false, pg .frouter k, off, v⟩ else none
  | .psetWrite k w v => if k < 2 && w < 4 then some ⟨false, false, pg .frouter k, 0x190 + 8 * w, v⟩ else none
  | .tgValidWrite k v => if k < 2 then some ⟨false, false, pg .frouter k, 0x230, v⟩ else none
  | .domainCfgWrite k v => if k < 2 then some ⟨false, false, pg .frouter k, 0x1F0, v⟩ else none
  | .flEnableWrite l v => if l < 24 then some ⟨false, false, pg .flink l, 0x100, v⟩ else none
  | .recal l v => if l < 24 then some ⟨false, false, pg .flink l, 0x138, v ||| BitVec.ofNat 64 (2 ^ 2)⟩ else none
  | .flRetrain l v => if l < 24 then some ⟨false, false, pg .flink l, 0x138, v ||| BitVec.ofNat 64 (2 ^ 0)⟩ else none
  | .accept l v => if l < 24 then some ⟨false, false, pg .flink l, 0x138, v ||| BitVec.ofNat 64 (2 ^ 1)⟩ else none
  | .nbrExpectWrite l v => if l < 24 then some ⟨false, false, pg .flink l, 0x108, v⟩ else none
  | .programCheck g v => if g < 8 then some ⟨false, false, pg .stepseq g, 0x110, v ||| BitVec.ofNat 64 (2 ^ 0)⟩ else none
  | .layerGo g v => if g < 8 then some ⟨false, false, pg .stepseq g, 0x148, v ||| BitVec.ofNat 64 (2 ^ 1)⟩ else none
  | .abortStep g v => if g < 8 then some ⟨false, false, pg .stepseq g, 0x148, v ||| BitVec.ofNat 64 (2 ^ 0)⟩ else none
  | .planCheck k v => if k < 2 then some ⟨false, false, pg .squall k, 0x118, v ||| BitVec.ofNat 64 (2 ^ 0)⟩ else none
  | .bkBalanceWrite k v => if k < 2 then some ⟨false, false, pg .contrail k, 0x1D0, v⟩ else none
  | .bkCredit k v => if k < 2 then some ⟨false, false, pg .contrail k, 0x1D8, v⟩ else none
  | .adInstall k v => if k < 2 then some ⟨false, false, pg .contrail k, 0x228, v ||| BitVec.ofNat 64 (2 ^ 0)⟩ else none
  | .adRetire k v => if k < 2 then some ⟨false, false, pg .contrail k, 0x228, v ||| BitVec.ofNat 64 (2 ^ 2)⟩ else none
  | .ctEnableWrite k v => if k < 2 then some ⟨false, false, pg .contrail k, 0x100, v⟩ else none
  | .warmReset v => some ⟨false, false, 0, 0x050, v ||| BitVec.ofNat 64 (2 ^ 0)⟩
  | .optCommit v => some ⟨false, false, pg .boot 0, 0x130, v ||| BitVec.ofNat 64 (2 ^ 0)⟩
  | .svnCommit co v => some ⟨co, false, pg .rtu 0, 0x110, v ||| BitVec.ofNat 64 (2 ^ 9)⟩
  | .revoke co v => some ⟨co, false, pg .rtu 0, 0x110, v ||| BitVec.ofNat 64 (2 ^ 12)⟩
  | .akLoad co v => some ⟨co, false, pg .rtu 0, 0x140, v ||| BitVec.ofNat 64 (2 ^ 0)⟩
  | .akClear co v => some ⟨co, false, pg .rtu 0, 0x140, v ||| BitVec.ofNat 64 (2 ^ 1)⟩
  | .fwVerify co v => some ⟨co, false, pg .rtu 0, 0x150, v ||| BitVec.ofNat 64 (2 ^ 0)⟩
  | .fwApply co v => some ⟨co, false, pg .rtu 0, 0x150, v ||| BitVec.ofNat 64 (2 ^ 2)⟩
  | .fwPersist co v => some ⟨co, false, pg .rtu 0, 0x150, v ||| BitVec.ofNat 64 (2 ^ 1)⟩
  | .zeroize co v => some ⟨co, false, pg .rtu 0, 0x158, v ||| BitVec.ofNat 64 (2 ^ 0)⟩
  | .decommission co v => some ⟨co, false, pg .rtu 0, 0x158, v ||| BitVec.ofNat 64 (2 ^ 1)⟩
  | .vSetWrite k v => if k < 24 then some ⟨false, false, pg .island k, 0x100, v⟩ else none
  | .sessClose k v => if k < 2 then some ⟨false, false, pg .gct k, 0x138, v ||| BitVec.ofNat 64 (2 ^ 0)⟩ else none
  | .sessMove k v => if k < 2 then some ⟨false, false, pg .gct k, 0x138, v ||| BitVec.ofNat 64 (2 ^ 1)⟩ else none
  | .saLoad k keys v => if k < 8 then some ⟨false, keys, pg .enet k, 0x130, v ||| BitVec.ofNat 64 (2 ^ 10)⟩ else none
  | .todArm v => some ⟨false, false, pg .time 0, 0x128, v ||| BitVec.ofNat 64 (2 ^ 0)⟩
  | _ => none

/-- The page, class and operation of a command in range that does the work of a running tile command (R117), and that work. -/
def workForm : Instr → Option (Nat × Nat × Nat × (Run → State → State))
  | .null p => if isTile p then some (p, 0x00, 0, fun r t => t.nullWork p r) else none
  | .syncWait p => if isTile p then some (p, 0x01, 0, fun r t => t.waitWork p r) else none
  | .syncSignal p => if isTile p then some (p, 0x01, 1, fun r t => t.signalWork p r) else none
  | .syncBarrier p => if isTile p then some (p, 0x01, 2, fun r t => t.barrierWork p r) else none
  | .syncFence p => if isTile p then some (p, 0x01, 3, fun r t => t.fenceWork p r) else none
  | .haloCheck p => if isTile p then some (p, 0x02, 0, fun r t => t.checkWork p r) else none
  | .haloFlush p => if isTile p then some (p, 0x02, 1, fun r t => t.flushWork p r) else none
  | .haloClear p => if isTile p then some (p, 0x02, 2, fun r t => t.clearWork p r) else none
  | .mmaDense p => if isTile p then some (p, 0x10, 0, fun r t => t.denseWork p false r) else none
  | .mmaGrouped p => if isTile p then some (p, 0x10, 1, fun r t => t.groupedWork p r) else none
  | .attn p => if isTile p then some (p, 0x11, 0, fun r t => t.attnWork p r) else none
  | .vecAdd p => if isTile p then some (p, 0x20, 0x00, fun r t => t.vecWork p r) else none
  | .vecMul p => if isTile p then some (p, 0x20, 0x01, fun r t => t.vecWork p r) else none
  | .vecFma p => if isTile p then some (p, 0x20, 0x02, fun r t => t.vecWork p r) else none
  | .vecAxpb p => if isTile p then some (p, 0x20, 0x03, fun r t => t.vecWork p r) else none
  | .vecRmsnorm p => if isTile p then some (p, 0x20, 0x04, fun r t => t.vecWork p r) else none
  | .vecLayernorm p => if isTile p then some (p, 0x20, 0x05, fun r t => t.vecWork p r) else none
  | .vecSoftmax p => if isTile p then some (p, 0x20, 0x06, fun r t => t.vecWork p r) else none
  | .vecSiluMul p => if isTile p then some (p, 0x20, 0x07, fun r t => t.vecWork p r) else none
  | .vecGelu p => if isTile p then some (p, 0x20, 0x08, fun r t => t.vecWork p r) else none
  | .vecRope p => if isTile p then some (p, 0x20, 0x09, fun r t => t.vecWork p r) else none
  | .vecExp2 p => if isTile p then some (p, 0x20, 0x0A, fun r t => t.vecWork p r) else none
  | .vecLog2 p => if isTile p then some (p, 0x20, 0x0B, fun r t => t.vecWork p r) else none
  | .vecRecip p => if isTile p then some (p, 0x20, 0x0C, fun r t => t.vecWork p r) else none
  | .vecRsqrt p => if isTile p then some (p, 0x20, 0x0D, fun r t => t.vecWork p r) else none
  | .vecTanh p => if isTile p then some (p, 0x20, 0x0E, fun r t => t.vecWork p r) else none
  | .vecRowsum p => if isTile p then some (p, 0x20, 0x10, fun r t => t.vecWork p r) else none
  | .vecRowmax p => if isTile p then some (p, 0x20, 0x11, fun r t => t.vecWork p r) else none
  | .vecTopk p => if isTile p then some (p, 0x20, 0x12, fun r t => t.topkWork p r) else none
  | .vecCast p => if isTile p then some (p, 0x20, 0x13, fun r t => t.vecWork p r) else none
  | .vecAdamw p => if isTile p then some (p, 0x20, 0x20, fun r t => t.vecWork p r) else none
  | .qntQuant p => if isTile p then some (p, 0x21, 0, fun r t => t.quantWork p r) else none
  | .qntDequant p => if isTile p then some (p, 0x21, 1, fun r t => t.dequantWork p r) else none
  | .sample p => if isTile p then some (p, 0x22, 0, fun r t => t.sampleWork p r) else none
  | .movCopy p => if isTile p then some (p, 0x30, 0, fun r t => t.copyWork p r) else none
  | .movLoad p es => if isTile p then some (p, 0x30, 1, fun r t => t.loadWork p es r) else none
  | .movStore p es => if isTile p then some (p, 0x30, 2, fun r t => t.storeWork p es r) else none
  | .movMeshPut p => if isTile p then some (p, 0x30, 3, fun r t => t.meshPutWork p r) else none
  | .movBcast p => if isTile p then some (p, 0x30, 4, fun r t => t.bcastWork p r) else none
  | .movFill p => if isTile p then some (p, 0x30, 5, fun r t => t.fillWork p r) else none
  | .fetchSingle p => if isTile p then some (p, 0x31, 0, fun r t => t.fetchSingle p r) else none
  | .fetchList p => if isTile p then some (p, 0x31, 1, fun r t => t.fetchList p r) else none
  | .exchPut p => if isTile p then some (p, 0x32, 0, fun r t => t.exchWork p 0x02 64 r) else none
  | .exchAddF32 p => if isTile p then some (p, 0x32, 1, fun r t => t.exchWork p 0x03 4 r) else none
  | .exchAddI64 p => if isTile p then some (p, 0x32, 2, fun r t => t.exchWork p 0x04 8 r) else none
  | .exchMaxF32 p => if isTile p then some (p, 0x32, 3, fun r t => t.exchWork p 0x05 4 r) else none
  | .exchSend p => if isTile p then some (p, 0x32, 4, fun r t => t.sendWork p r) else none
  | .tmma p => if isTile p then some (p, 0x40, 0, fun r t => t.denseWork p true r) else none
  | .tgrad p => if isTile p then some (p, 0x41, 0, fun r t => t.gradWork p r) else none
  | _ => none

/-- What a running command makes of its outputs where none of its checks stops it, for the commands that do their work in one piece: no range that
it reads holds a poisoned word (R110), its MODE or LAYER gives a format (R119, R122), and its row map, group list, row table, scale table or
parameter records keep within their limits (R114, R117, R122, R123, R125, R129 to R131, R548). None where one does. -/
def workMade (c : Instr) (s : State) (r : Run) : Option Made :=
  match c with
  | .mmaDense p => (s.modeOf p r.d).bind fun f => if (s.denseStop p r.d f false).isNone then some (s.denseMade p r.d f false) else none
  | .tmma p => (s.modeOf p r.d).bind fun f => if (s.denseStop p r.d f true).isNone then some (s.denseMade p r.d f true) else none
  | .mmaGrouped p => (s.modeOf p r.d).bind fun f => if (s.groupedStop p r.d f).isNone then some (s.groupedMade p r.d f) else none
  | .tgrad p => (fmtOf (dfld r.d 16 0 4)).bind fun f => if s.poisonIn (s.gradReads p r.d f) then none else some (s.gradMade p r.d f)
  | .attn p => if (s.attnStops p r.d).isNone then some (s.attnMade p r.d) else none
  | .sample p => if (s.sampleStops p r.d).isNone then some (s.sampleMade p r.d) else none
  | .qntQuant p => if (s.quantStops p r.d).isNone then some (s.quantMade p r.d) else none
  | .qntDequant p => if s.poisonIn (s.qntReads p r.d) then none else some (s.dequantMade p r.d)
  | .vecTopk p => if s.poisonIn (s.topkInputs p r.d) then none else some (s.topkMade p r.d)
  | .vecAdd p | .vecMul p | .vecFma p | .vecAxpb p | .vecRmsnorm p | .vecLayernorm p | .vecSoftmax p | .vecSiluMul p | .vecGelu p | .vecRope p
  | .vecExp2 p | .vecLog2 p | .vecRecip p | .vecRsqrt p | .vecTanh p | .vecRowsum p | .vecRowmax p | .vecCast p | .vecAdamw p =>
    if s.poisonIn (s.vecReads p r.d) then none else some (s.vecMade p r.d)
  | _ => none

/-- The transfers of a FETCH or EXCH where its checks pass (R114, R117, R134, R368): those of its list, whose entries hold aligned addresses and
lengths and scratch ranges in a region that the command may use, or that of a SINGLE command, dealt to its leaves. `w` is the alignment of the
remote address. None where a check stops it. -/
def listOk (s : State) (p d w : Nat) : Option (List Xfer) :=
  (s.listXfers p d).bind fun xs => if (s.xferFail p w [1, 2, 3] xs).isNone then some (xs.filter fun x => x.len != 0) else none
/-- The transfers of a PUT or an atomic: none of them goes to tile scratch (R135), and none reads a poisoned word (R110). -/
def exchOk (s : State) (p d w : Nat) : Option (List Xfer) :=
  (if dfld d 38 0 1 = 1 then listOk s p d w else some ((s.oneXfers p d).filter fun x => x.len != 0)).bind fun xs =>
    if (xs.any fun x => inScratch (x.addr % 2 ^ 45)) || s.xferPoison xs then none else some xs
/-- The transfers of a SEND of a single range (R135): its DST has no reserved bit set, and no word is poisoned (R110). -/
def sendOk (s : State) (p d : Nat) : Option (List Xfer) :=
  let a := dfld d 16 0 64
  let xs := s.singleXfers p a (dfld d 24 0 27) (dfld d 28 0 32) 64
  if a / 2 ^ 27 % 32 != 0 || a / 2 ^ 55 != 0 || s.xferPoison xs then none else some xs
/-- The transfers of a SEND with a list: as those of `sendOk`, each entry (R135). -/
def sendListOk (s : State) (p d : Nat) : Option (List Xfer) :=
  (s.listXfers p d).bind fun ys =>
    let xs := ys.filter fun x => x.len != 0
    if (xs.any fun x => x.addr / 2 ^ 27 % 32 != 0 || x.addr / 2 ^ 55 != 0 || x.addr % 64 != 0)
      || (s.xferFail p 64 [1, 2, 3] (xs.map fun x => { x with addr := 0 })).isSome || s.xferPoison xs then none else some xs
/-- The packets that a running FETCH or EXCH sends, with their entries, leaves and scratch offsets, where its checks pass. -/
def workSends (c : Instr) (s : State) (r : Run) : Option (List Sending) :=
  match c with
  | .fetchSingle p => some (s.fetchPkts p r.d (s.oneXfers p r.d))
  | .fetchList p => (listOk s p r.d 64).map (s.fetchPkts p r.d)
  | .exchPut p => (exchOk s p r.d 64).map (s.exchPkts p r.d 0x02)
  | .exchAddF32 p => (exchOk s p r.d 4).map (s.exchPkts p r.d 0x03)
  | .exchAddI64 p => (exchOk s p r.d 8).map (s.exchPkts p r.d 0x04)
  | .exchMaxF32 p => (exchOk s p r.d 4).map (s.exchPkts p r.d 0x05)
  | .exchSend p => (if dfld r.d 38 0 1 = 1 then sendListOk s p r.d else sendOk s p r.d).map (s.sendPkts p r.d)
  | _ => none

/-- The packet that a command in range brings, the link it arrives on, the opcodes that the command stands for, the errors that devices
report, and what the hot-line queue shows (R366, R381). -/
def pktForm : Instr → Option (Nat × Pkt × List Nat × List MemErr × Nat × Nat)
  | .ftRd l q es waiting top => if l < 24 then some (l, q, [0x01], es, waiting, top) else none
  | .ftWrStaged l q es waiting top => if l < 24 then some (l, q, [0x02], es, waiting, top) else none
  | .ftAddF32 l q es waiting top => if l < 24 then some (l, q, [0x03], es, waiting, top) else none
  | .ftAddI64 l q es waiting top => if l < 24 then some (l, q, [0x04], es, waiting, top) else none
  | .ftMaxF32 l q es waiting top => if l < 24 then some (l, q, [0x05], es, waiting, top) else none
  | .ftFence l q => if l < 24 then some (l, q, [0x06], [], 0, 0) else none
  | .ftNotice l q => if l < 24 then some (l, q, [0x07], [], 0, 0) else none
  | .ftRdRsp l q => if l < 24 then some (l, q, [0x21], [], 0, 0) else none
  | .ftStagedAck l q => if l < 24 then some (l, q, [0x22], [], 0, 0) else none
  | .ftHold l q => if l < 24 then some (l, q, [0x23], [], 0, 0) else none
  | .ftFenceAck l q => if l < 24 then some (l, q, [0x26], [], 0, 0) else none
  | .ftNoticeAck l q => if l < 24 then some (l, q, [0x27], [], 0, 0) else none
  | .ftMsgTile l q => if l < 24 then some (l, q, [0x40], [], 0, 0) else none
  | .ftMsgMark l q => if l < 24 then some (l, q, [0x41], [], 0, 0) else none
  | .ftMsgBundle l q => if l < 24 then some (l, q, [0x42], [], 0, 0) else none
  | .ftMsgAck l q => if l < 24 then some (l, q, [0x43], [], 0, 0) else none
  | .fabricReady l q => if l < 24 then some (l, q, [0x60], [], 0, 0) else none
  | .swapReadyMsg l q => if l < 24 then some (l, q, [0x61], [], 0, 0) else none
  | .mgmtRd l q => if l < 24 then some (l, q, [0x62], [], 0, 0) else none
  | .mgmtWr l q => if l < 24 then some (l, q, [0x63], [], 0, 0) else none
  | .mgmtRsp l q => if l < 24 then some (l, q, [0x64], [], 0, 0) else none
  | _ => none

/-- The GCT message that a command in range brings, with the errors that devices report (R419). -/
def msgForm : Instr → Option (Msg × List MemErr)
  | .pullData session id status body es => if session < 4096 then some (⟨session, 0x39, id, status, body⟩, es) else none
  | .grant session id body => if session < 4096 then some (⟨session, 0x28, id, 0, body⟩, []) else none
  | .seqOpen session id body => if session < 4096 then some (⟨session, 0x30, id, 0, withOp 1 body⟩, []) else none
  | .seqPrompt session id body => if session < 4096 then some (⟨session, 0x30, id, 0, withOp 2 body⟩, []) else none
  | .seqBind session id body => if session < 4096 then some (⟨session, 0x30, id, 0, withOp 3 body⟩, []) else none
  | .seqClose session id body => if session < 4096 then some (⟨session, 0x30, id, 0, withOp 4 body⟩, []) else none
  | .seqSubscribe session id body => if session < 4096 then some (⟨session, 0x30, id, 0, withOp 5 body⟩, []) else none
  | .seqAck session id body => if session < 4096 then some (⟨session, 0x30, id, 0, withOp 6 body⟩, []) else none
  | .seqQuery session id body => if session < 4096 then some (⟨session, 0x30, id, 0, withOp 7 body⟩, []) else none
  | .gctClose i => if i < 4096 then some (⟨i, 0x05, 0, 0, []⟩, []) else none
  | .regAccess session id body => if session < 4096 then some (⟨session, 0x10, id, 0, body⟩, []) else none
  | .dpWrite session id body es => if session < 4096 then some (⟨session, 0x18, id, 0, body⟩, es) else none
  | .dpRead session id body es => if session < 4096 then some (⟨session, 0x19, id, 0, body⟩, es) else none
  | .evtSub session id body => if session < 4096 then some (⟨session, 0x20, id, 0, body⟩, []) else none
  | .getCerts session id body => if session < 4096 then some (⟨session, 0x40, id, 0, withOp 1 body⟩, []) else none
  | .getEvidence session id body => if session < 4096 then some (⟨session, 0x40, id, 0, withOp 2 body⟩, []) else none
  | .heartbeat session id body => if session < 4096 then some (⟨session, 0x48, id, 0, body⟩, []) else none
  | _ => none

/-- What a GCT message does once its session may send it, by type (R419). -/
def msgWork (m : Msg) (es : List MemErr) (s : State) : State :=
  match m.typ with
  | 0x05 => s.sessEnd m.session
  | 0x10 => s.regAccess m
  | 0x18 => s.dpWrite m es
  | 0x19 => s.dpRead m es
  | 0x20 => s.evtSub m
  | 0x28 => s.grant m
  | 0x30 => s.seqReq m
  | 0x39 => s.pullData m es
  | 0x40 => s.attestReq m
  | 0x48 => s.heartbeat m
  | _ => s

/-- Every command of the queue ran, in order, and the state is what the last one left. -/
def drained (s t : State) : Prop := Sys2Proof.core.run s.pending.length s = .next t ∧ t.pending = []

end Sys2Proof.Machine
end

