-- ==== Sys2Proof/Certificates/Slice0/Obligations.lean ====
section
/-! DEFINITION. The statements for the provers. Each is about every state that meets its hypotheses. `s.entry` is the state in which a command
starts (nothing sent yet, status OK); `s.ran f` is the state after a command with effect `f`; `s.calm f` says that nothing waits after that
effect, so that nothing follows from it (log entry 31), and the state after the command is then the effect itself: what a statement of that
form does not name (every other register, memory, queue and buffer) is as before. -/

open Sys2Proof Sys2Proof.Machine

/-! ### The queue and reset -/

/-- A step runs the command at the front of the queue, on the state with the rest of the queue. -/
def Obligations.StepRunsTheFrontCommand : Prop :=
  ∀ (c : Instr) (rest : List Instr) (s : State), step { s with pending := c :: rest } = exec c { s with pending := rest }

/-- With nothing waiting a powered package counts 1 ns of DEVICE_TIME and changes nothing else; without power nothing changes
(the model's choice, log entry 30). -/
def Obligations.EmptyQueueIdles : Prop :=
  ∀ s : State, s.pending = [] →
    (s.powered = true → step s = .next (s.wr (pg .time 0) F.TIME.DEVICE_TIME (s.now + 1))) ∧ (s.powered = false → step s = .next s)

/-- The package right after reset: powered, DEVICE_TIME 0, BOOT in stage FUSE with cause POWER_ON; units in the states of 02 of the spec (active tiles
IDLE, reserve tiles, gang slots, tile groups with their STEPSEQs and partitions OFFLINE, absent positions ABSENT, ROOT in RESET); V_SET 750 mV,
the cap at the part's 2,600 W, the alert floor at 620 mV; nothing in any memory, queue or session. The package is the DR-9400 that log entry 1
names. -/
def Obligations.ResetState : Prop :=
  State.reset.powered = true ∧ State.reset.now = 0 ∧ State.reset.bstage = 0 ∧ State.reset.rd bootPg F.BOOT.RESET_CAUSE = 1 ∧
  State.reset.ust (pg .tile 0) = .idle ∧ State.reset.ust (pg .tile 11) = .offline ∧ State.reset.ust (pg .tile 10) = .absent ∧
  State.reset.ust (pg .gang 0) = .offline ∧ State.reset.ust (pg .tgroup 0) = .offline ∧ State.reset.ust (pg .partition 0) = .offline ∧
  State.reset.ust (pg .gmem 19) = .idle ∧ State.reset.ust (pg .stepseq 0) = .offline ∧ State.reset.ust 0 = .reset ∧
  (∀ k < 24, State.reset.rd (pg .island k) F.ISLAND.V_SET = 750) ∧ State.reset.rd pwrPg F.PWR.CAP_W = 2600 ∧
  State.reset.rd pwrPg F.PWR.ALERT_FLOOR = 620 ∧ (∀ k < 24, State.reset.vEff k = 750) ∧
  State.reset.mem = [] ∧ State.reset.sessions = [] ∧ State.reset.slots = [] ∧ State.reset.pending = []

/-! ### What every command does -/

/-- Every command of every state completes: the outcome is a next state, never a fault and never a refusal, and the configuration and the
waiting commands are as before. -/
def Obligations.EveryCommandCompletes : Prop :=
  ∀ (c : Instr) (s : State), ∃ t, exec c s = .next t ∧ t.cfg = s.cfg ∧ t.pending = s.pending

/-- Without power a command that is no happening on a pin has no effect (the model's choice, log entry 29). -/
def Obligations.NoPowerNoEffect : Prop :=
  ∀ (c : Instr) (s : State), isPin c = false → s.powered = false → exec c s = .next s.entry

/-- Any queue of commands runs to its end without a fault or a refusal. -/
def Obligations.QueueDrains : Prop := ∀ s : State, ∃ t, drained s t ∧ t.cfg = s.cfg

/-- Without power any queue of commands that are no happenings on pins leaves everything as it is but the queue, what was sent and the status
(log entry 29). -/
def Obligations.UnpoweredQueueDrains : Prop :=
  ∀ s : State, s.powered = false → s.pending ≠ [] → s.pending.all (fun c => !isPin c) = true →
    drained s { s with pending := [], out := [], ret := .ok }

/-- No step changes what the fuses fix: the UNIT_CAP that every page reads stays, and a unit that is absent stays ABSENT, with every register of
its page but UNIT_ID and UNIT_CAP reading zero. -/
def Obligations.CapabilitiesKept : Prop :=
  ∀ s t : State, step s = .next t →
    (∀ p, (t.readReg p 0x008).2.1 = (s.readReg p 0x008).2.1) ∧
    ∀ p off, absentPg s.cfg p = true → off ≠ 0x000 → off ≠ 0x008 → t.ust p = .absent ∧ t.readReg p off = (.ok, 0, t)

/-- A loss of PWR_GOOD and its return leave nothing of what the package held: two packages with the same fuses, flash, pins and supply come
out of it in the same state, whatever their registers, memories, sessions and engines held (16 of the spec: the cold package domain). No fuse
and no flash is being written in either: what a write that is broken off leaves is free (log entries 143 and 146). -/
def Obligations.PowerCycleForgets : Prop :=
  ∀ s t : State, s.cfg = t.cfg → s.flash = t.flash → s.rtu.fuses = t.rtu.fuses → s.rtu.stores = t.rtu.stores → s.freeCtr = t.freeCtr →
    s.storesIdle = true → t.storesIdle = true → s.pins.pwrGood = true → t.pins.pwrGood = true → s.pins.rstLow = t.pins.rstLow → s.pins.alertLow = t.pins.alertLow → s.pw.low = t.pw.low →
    Sys2Proof.core.run 2 { s with pending := [.pwrGoodFall, .pwrGoodRise] } = Sys2Proof.core.run 2 { t with pending := [.pwrGoodFall, .pwrGoodRise] }

/-! ### Completion, family by family -/

/-- A command that is the write of one register completes as that write where nothing refuses it as a whole: as the write of the common page, or
as the write of the unit's own registers (02 of the spec and the register rules of every chapter). It covers every row of `regForm`. -/
def Obligations.RegisterCommandsComplete : Prop :=
  ∀ (c : Instr) (s : State) (r : RegForm), regForm c = some r → s.powered = true → s.writeBar r.co r.keys r.page r.off r.val = none →
    exec c s = .next (s.ran fun t => if r.off < 0x100 then t.writeCommon r.page r.off r.val else t.writeType r.page r.off r.val)

/-- A write that is refused as a whole has no effect: it completes with the status, and everything else is as before; but one of a queue's
Q_TAIL or Q_CPL_HEAD sets Q_REFUSED of its page, unless the unit is ABSENT and has no flags (the model's reading, log entry 169). -/
def Obligations.RefusedWriteHasNoEffect : Prop :=
  ∀ (c : Instr) (s : State) (r : RegForm) (st : Status), regForm c = some r → s.powered = true →
    s.writeBar r.co r.keys r.page r.off r.val = some st →
    (isQueueIndex r.page r.off = false → s.quiet s.faultL = true → exec c s = .next { s with out := [], ret := st }) ∧
    (isQueueIndex r.page r.off = true →
      exec c s = .next (s.ran fun t => (t.setEvt r.page F.EVT.TILE.Q_REFUSED).answer st) ∧
      (absentPg s.cfg r.page = false →
        ((s.setEvt r.page F.EVT.TILE.Q_REFUSED).reg 0 r.page 0x028).getLsbD F.EVT.TILE.Q_REFUSED = true) ∧
      (absentPg s.cfg r.page = true → s.setEvt r.page F.EVT.TILE.Q_REFUSED = s))

/-- A tile command that runs does its work when its command comes; with none of its class and operation running, the command changes nothing but what
follows (03, 04 and 05 of the spec). It covers every row of `workForm`. Where no check of what it reads stops a matrix, ATTN, VEC, QNT or SAMPLE
command (`workMade`) and no write meets a poisoned word in part (R110), it completes OK with its outputs and results: MMA_DENSE, MMA_GROUPED,
ATTN, TMMA, TGRAD, the twenty VEC operations, QNT_QUANT, QNT_DEQUANT and SAMPLE. Where none stops a FETCH or EXCH (`workSends`), its requests go
out, and with none to send it completes OK: FETCH_SINGLE, FETCH_LIST, EXCH_PUT, EXCH_ADD_F32, EXCH_ADD_I64, EXCH_MAX_F32 and EXCH_SEND; with the
last answer, all of them OK, it completes OK, but a SEND with a mark first sends its marks. HALO commands of a tile complete OK (04 of the spec,
R138). A CHECK whose rows hold no poisoned word counts the values examined and passes their statistics on. A FLUSH that meets no poisoned word in
part writes each leaf's statistics for its watch point to scratch, in 40 bytes that the statistics fix (log entry 14), and counts their values
(log entry 201). A CLEAR discards them. -/
def Obligations.TileWorkCompletes : Prop :=
  (∀ (c : Instr) (s : State) (p cls op : Nat) (work : Run → State → State), workForm c = some (p, cls, op, work) → s.powered = true →
    (∀ r, s.running p cls op = some r → exec c s = .next (s.ran (work r))) ∧
    (s.running p cls op = none → exec c s = .next (s.ran id)) ∧
    (∀ r m, s.running p cls op = some r → workMade c s.entry r = some m → m.bad = false →
      exec c s = .next (s.ran fun _ => m.s.finish p { r with steps := r.steps + m.steps } (m.res r)) ∧
      (m.res r).st = .ok ∧ (m.res r).r0 = m.r0 ∧ (m.res r).r1 = m.r1) ∧
    (∀ r ps, s.running p cls op = some r → r.issued = false → workSends c s.entry r = some ps →
      (ps = [] → exec c s = .next (s.ran fun t => t.finish p r { st := .ok })) ∧
      (ps ≠ [] → exec c s = .next (s.ran fun t => forEach ps (fun (k, e, pos, off) u => u.issue (mkReq (pg .tile pos) k 0 p r.q r.idx e pos off))
        (t.setRun p { r with waiting := ps.length, left := entriesLeft ps, issued := true }))))) ∧
  (∀ (s : State) (p : Nat) (r : Run) (op : Nat), r.failed = none →
    (dClass r.d = 0x31 → s.answered p r op = s.finish p r { st := .ok, r0 := r.got, r1 := r.okEnts }) ∧
    (dClass r.d = 0x32 → (dOp r.d = 4 → dfld r.d 40 0 32 = 0xFFFFFFFF ∨ op = 0x41) →
      s.answered p r op = s.finish p r { st := .ok, r0 := r.acked, r1 := r.acked })) ∧
  (∀ (s : State) (p : Nat) (r : Run), isTile p = true → s.powered = true →
    (s.running p 0x02 0 = some r → s.poisonIn (s.checkReads p r.d) = false →
      exec (.haloCheck p) s = .next (s.ran fun t => t.finish p r
        { st := .ok, r0 := min (dfld r.d 18 0 16 * dfld r.d 20 0 32 * (s.leaves p).length) 0xFFFFFFFF
          stats := s.segStats (s.checkSegs p r.d) })) ∧
    (s.running p 0x02 1 = some r →
      (∀ pos ∈ s.leaves p, s.headBad (scr pos (dfld r.d 32 0 27)) = false ∧ s.headBad (scr pos (dfld r.d 32 0 27) + 40) = false) →
      exec (.haloFlush p) s = .next (s.ran fun t =>
        (forEach (s.leaves p) (fun pos u => u.put (scr pos (dfld r.d 32 0 27)) ((s.watchStat pos (dWatchId r.d)).image 40)) t).finish p r
          { st := .ok, r0 := min ((s.leaves p).map fun pos => (s.watchStat pos (dWatchId r.d)).count).sum 0xFFFFFFFF })) ∧
    (s.running p 0x02 2 = some r →
      exec (.haloClear p) s = .next (s.ran fun t =>
        (forEach (s.leaves p) (fun pos u => u.setWatch pos (dWatchId r.d) HStat.zero') t).finish p r { st := .ok })))

/-- A message of an established session that holds the permission of its type is acted on (15 of the spec and the chapters of the requests).
It covers every row of `msgForm`. A data-port operation that must wait, for a granule in use or behind one of its session, is acted on later,
in order. -/
def Obligations.MessagesComplete : Prop :=
  ∀ (c : Instr) (s : State) (m : Msg) (es : List MemErr), msgForm c = some (m, es) → s.powered = true → s.established m.session = true →
    s.msgErr m = none →
    let waits := (m.typ = 0x18 ∨ m.typ = 0x19) ∧ s.dpWaits m = true
    (¬ waits → exec c s = .next (s.ran (msgWork m es))) ∧
    (waits → exec c s = .next (s.ran fun t => { t with seqWait := t.seqWait ++ [m] }))

/-- A packet for this package on a link it has is received on the channel of its opcode (13 of the spec). It covers every row of `pktForm`. -/
def Obligations.PacketsComplete : Prop :=
  ∀ (c : Instr) (s : State) (l : Nat) (q : Pkt) (ops : List Nat) (es : List MemErr) (waiting top : Nat),
    pktForm c = some (l, q, ops, es, waiting, top) → s.powered = true → s.ftOk l q ops = true →
    exec c s = .next (s.ran fun t => t.pktArrive l ((vcOf q.op).getD 0) q es waiting top)

/-- Every event of a tile or gang that is in range runs on a powered package, whatever the state: the errors a tile detects, the sequencer's start and
completion, the end of a kill, mesh hops and arrivals, the scrubber, the limit of a SYNC, and the end of a self-test or a critical error of any
unit (03_tile.md, 04_tile_commands.md, 16_reset_and_boot.md). -/
def Obligations.TileEventsComplete : Prop :=
  ∀ s : State, s.powered = true →
    (∀ (pos code loc : Nat), pos < 288 → 1 ≤ code → code ≤ 6 → exec (.tileError pos code loc) s = .next (s.ran fun t => if code = 1 then (t.wordCorrected pos loc).lastingIdle (pg .tile pos) else t.tileErr pos code loc)) ∧
    (∀ (p : Nat), isTile p = true → exec (.cmdStart p) s = .next (s.ran fun t => t.cmdStart p)) ∧
    (∀ (p q idx : Nat), isTile p = true → exec (.cmdComplete p q idx) s = .next (s.ran fun t => t.cmdComplete p q idx)) ∧
    (∀ (p : Nat), isTile p = true → exec (.killComplete p) s = .next (s.ran fun t => t.killComplete p)) ∧
    (∀ (pos port : Nat), pos < 288 → port < 4 → exec (.meshHopCrcFail pos port) s = .next (s.ran fun t => (t.hopFail pos port).lastingIdle (pg .tile pos))) ∧
    (∀ (p step gen peer off : Nat) (w : List Byte ⊕ (Nat × Nat)), peer < 288 → exec (.meshArrival p step gen peer off w) s = .next (s.ran fun t => t.meshArrival p step gen peer off w)) ∧
    (∀ (pos bad : Nat), pos < 288 → exec (.scrub pos bad) s = .next (s.ran fun t => t.scrubWord pos bad)) ∧
    (∀ (p op : Nat), isTile p = true → exec (.syncTimeout p op) s = .next (s.ran fun t => t.syncTimeout p op)) ∧
    (∀ (p : Nat) (pass : Bool) (detail : Nat), (unitOf p).isSome = true → exec (.selftestDone p pass detail) s = .next (s.ran fun t => t.selftestDone p pass detail)) ∧
    (∀ (p kind loc : Nat), (unitOf p).isSome = true → exec (.criticalUncorr p kind loc) s = .next (s.ran fun t => t.criticalUncorr p kind loc))

/-- Every event of HALO, of the memory tiers, of POOL and of Updraft that is in range runs on a powered package, whatever the state (06 to 08 of the spec). -/
def Obligations.MemoryEventsComplete : Prop :=
  ∀ s : State, s.powered = true →
    (∀ (g : Nat), g < 8 → exec (.haloEvaluate g) s = .next (s.ran fun t => t.haloEvaluate g)) ∧
    (∀ (k : Nat), k < 20 → exec (.gmemRelocDone k) s = .next (s.ran fun t => t.relocDone k)) ∧
    (∀ (k : Nat) (ok : Bool), k < 20 → exec (.gmemRetrainDone k ok) s = .next (s.ran fun t => t.gmemRetrainDone k ok)) ∧
    (∀ (k : Nat), k < 2 → exec (.mcFlushDone k) s = .next (s.ran fun t => t.mcFlushDone k)) ∧
    (∀ (k d : Nat), k < 2 → d < 2 → exec (.btLinkDown k d) s = .next (s.ran fun t => t.btLinkDown k d)) ∧
    (∀ (k d speed width : Nat), k < 2 → d < 2 → exec (.btLinkUp k d speed width) s = .next (s.ran fun t => t.btLinkUp k d speed width)) ∧
    (∀ (k d : Nat), k < 2 → d < 2 → exec (.cxlDeviceEvent k d) s = .next (s.ran fun t => t.cxlEvent k d)) ∧
    (∀ (g : Nat), g < 8 → exec (.poolApplyDone g) s = .next (s.ran fun t => t.poolApplyDone g)) ∧
    (∀ (g : Nat), g < 8 → exec (.evictWaitExpiry g) s = .next (s.ran fun t => t.evictWaitExpiry g)) ∧
    (∀ (g : Nat), g < 8 → exec (.evictStart g) s = .next (s.ran fun t => t.evictStart g)) ∧
    (∀ (g h : Nat), g < 8 → exec (.poolMoveDone g h) s = .next (s.ran fun t => t.moveDone g h false false)) ∧
    (∀ (g : Nat), g < 8 → exec (.poolAge g) s = .next (s.ran fun t => t.poolAge g (t.rd (pg .stepseq g) F.STEPSEQ.LC_STEP))) ∧
    (∀ (g : Nat), g < 8 → exec (.useArm g) s = .next (s.ran fun t => t.useArm g)) ∧
    (∀ (u layer e : Nat) (es : List MemErr), u < 8 → exec (.fillEntry u layer e es) s = .next (s.ran fun t => t.fillEntry u layer e es)) ∧
    (∀ (u : Nat), u < 8 → exec (.tableCheckDone u) s = .next (s.ran fun t => t.udTableDone u)) ∧
    (∀ (u : Nat), u < 8 → exec (.loadVerifyDone u) s = .next (s.ran fun t => t.loadVerified u)) ∧
    (∀ (u c : Nat), u < 8 → exec (.pullTimeoutExpiry u c) s = .next (s.ran fun t => t.pullTimeout u c)) ∧
    (∀ (u : Nat) (es : List MemErr), u < 8 → exec (.swapCopyChunk u es) s = .next (s.ran fun t => t.copyChunk u es))

/-- A pool request that may start runs when the command of its operation comes (07_memory_tiers_and_pool.md): the request waits in the ring, nothing
before it names its sequences, and its OP is the command's. -/
def Obligations.PoolRequestsComplete : Prop :=
  ∀ s : State, s.powered = true →
    (∀ (g i : Nat), g < 8 → s.reqReady g i = true → s.reqOp g i = 1 → exec (.park g i) s = .next (s.ran fun t => t.poolReq g i 1 fun u => u.reqPark g i)) ∧
    (∀ (g i : Nat), g < 8 → s.reqReady g i = true → s.reqOp g i = 2 → exec (.promote g i) s = .next (s.ran fun t => t.poolReq g i 2 fun u => u.reqPromote g i)) ∧
    (∀ (g i : Nat), g < 8 → s.reqReady g i = true → s.reqOp g i = 3 → exec (.drop g i) s = .next (s.ran fun t => t.poolReq g i 3 fun u => u.reqDrop g i)) ∧
    (∀ (g i : Nat), g < 8 → s.reqReady g i = true → s.reqOp g i = 4 → exec (.fork g i) s = .next (s.ran fun t => t.poolReq g i 4 fun u => u.reqFork g i)) ∧
    (∀ (g i : Nat), g < 8 → s.reqReady g i = true → s.reqOp g i = 5 → exec (.setQuota g i) s = .next (s.ran fun t => t.poolReq g i 5 fun u => u.reqQuota g i)) ∧
    (∀ (g i : Nat), g < 8 → s.reqReady g i = true → s.reqOp g i = 6 → exec (.querySeq g i) s = .next (s.ran fun t => t.poolReq g i 6 fun u => u.reqQuerySeq g i)) ∧
    (∀ (g i : Nat), g < 8 → s.reqReady g i = true → s.reqOp g i = 7 → exec (.queryCust g i) s = .next (s.ran fun t => t.poolReq g i 7 fun u => u.reqQueryCust g i))

/-- Every event of STEPSEQ, of Squall and of CONTRAIL that is in range runs on a powered package, whatever the state (09 to 11 of the spec). -/
def Obligations.StepEventsComplete : Prop :=
  ∀ s : State, s.powered = true →
    (∀ (g : Nat), g < 8 → exec (.stepOpen g) s = .next (s.ran fun t => t.stepOpen g)) ∧
    (∀ (g : Nat), g < 8 → exec (.gapWaitExpiry g) s = .next (s.ran fun t => t.gapExpiry g)) ∧
    (∀ (g : Nat), g < 8 → exec (.sliceEnd g) s = .next (s.ran fun t => t.sliceEnd g)) ∧
    (∀ (g : Nat), g < 8 → exec (.sectionDispatch g) s = .next (s.ran fun t => t.sectionDispatch g)) ∧
    (∀ (g : Nat), g < 8 → exec (.stepCommit g) s = .next (s.ran fun t => t.stepCommit g)) ∧
    (∀ (g : Nat), g < 8 → exec (.stepKillResolve g) s = .next (s.ran fun t => (t.retirePending g).killResolve g)) ∧
    (∀ (g : Nat), g < 8 → exec (.isolationLimitExpiry g) s = .next (s.ran fun t => t.isolationLimit g)) ∧
    (∀ (g : Nat), g < 8 → exec (.programCheckDone g) s = .next (s.ran fun t => t.progCheckDone g)) ∧
    (∀ (k g idx : Nat), k < 2 → g < 8 → exec (.expertFetch k g idx) s = .next (s.ran fun t => t.expertFetch k g idx)) ∧
    (∀ (k g idx : Nat), k < 2 → g < 8 → exec (.combine k g idx) s = .next (s.ran fun t => t.combine k g idx)) ∧
    (∀ (k g idx : Nat), k < 2 → g < 8 → exec (.dispatch k g idx) s = .next (s.ran fun t => t.dispatchJob k g idx)) ∧
    (∀ (k g idx : Nat), k < 2 → g < 8 → exec (.returnJob k g idx) s = .next (s.ran fun t => t.returnJob k g idx)) ∧
    (∀ (k g idx : Nat), k < 2 → g < 8 → exec (.allReduce k g idx) s = .next (s.ran fun t => t.collective k g idx 5)) ∧
    (∀ (k g idx : Nat), k < 2 → g < 8 → exec (.reduceScatter k g idx) s = .next (s.ran fun t => t.collective k g idx 6)) ∧
    (∀ (k g idx : Nat), k < 2 → g < 8 → exec (.allGather k g idx) s = .next (s.ran fun t => t.collective k g idx 7)) ∧
    (∀ (k g idx : Nat), k < 2 → g < 8 → exec (.sqJobComplete k g idx) s = .next (s.ran fun t => t.sqJobComplete k g idx)) ∧
    (∀ (k g idx : Nat), k < 2 → g < 8 → exec (.sqJobTimeout k g idx) s = .next (s.ran fun t => t.sqJobTimeout k g idx)) ∧
    (∀ (k g : Nat), k < 2 → g < 8 → exec (.planCheckDone k g) s = .next (s.ran fun t => t.planCheckDone k g)) ∧
    (∀ (i : Nat), i < 8192 → exec (.keepaliveExpiry i) s = .next (s.ran fun t => t.keepalive i)) ∧
    (∀ (k : Nat), k < 4096 → exec (.adInstallDone k) s = .next (s.ran fun t => t.adInstallDone k))

/-- Every event and every LINK_CTRL message of a FLINK in range runs on a powered package, whatever the state (12_fabric_links.md). -/
def Obligations.LinkEventsComplete : Prop :=
  ∀ s : State, s.powered = true →
    (∀ (l lanes : Nat), l < 24 → exec (.linkDetect l lanes) s = .next (s.ran fun t => t.linkDetect l lanes)) ∧
    (∀ (l lanes : Nat), l < 24 → exec (.linkRxReady l lanes) s = .next (s.ran fun t => t.linkRxReady l lanes)) ∧
    (∀ (l : Nat) (words : List Nat), l < 24 → exec (.linkAlignDone l words) s = .next (s.ran fun t => t.linkAlign l words)) ∧
    (∀ (l : Nat), l < 24 → exec (.trainingTimeout l) s = .next (s.ran fun t => t.trainTimeout l)) ∧
    (∀ (l : Nat), l < 24 → exec (.linkDownWaitExpiry l) s = .next (s.ran fun t => t.downWait l)) ∧
    (∀ (l : Nat) (decoded : Bool × Bool) (msg : List Byte) (corr : List Nat), l < 24 →
      exec (.frameRx l decoded msg corr) s = .next (s.ran fun t => t.frameRx l decoded.1 decoded.2 msg corr)) ∧
    (∀ (l fseq : Nat), l < 24 → exec (.replayReq l fseq) s = .next (s.ran fun t => t.rxReplay l fseq)) ∧
    (∀ (l : Nat), l < 24 → exec (.ackStallExpiry l) s = .next (s.ran fun t => t.ackStall l)) ∧
    (∀ (l : Nat) (fields : List Nat), l < 24 → exec (.ident l fields) s = .next (s.ran fun t => t.rxIdent l fields)) ∧
    (∀ (l verdict _rev : Nat), l < 24 → exec (.identAck l verdict _rev) s = .next (s.ran fun t => t.rxIdentAck l verdict)) ∧
    (∀ (l : Nat), l < 24 → exec (.identResendExpiry l) s = .next (s.ran fun t => t.identResend l)) ∧
    (∀ (l lane : Nat), l < 24 → exec (.mirror l lane) s = .next (s.ran fun t => t.rxMirror l lane)) ∧
    (∀ (l lane _fseq : Nat), l < 24 → exec (.mirrorOn l lane _fseq) s = .next (s.ran fun t => t.rxMirrorOn l lane)) ∧
    (∀ (l lane phys : Nat), l < 24 → exec (.steered l lane phys) s = .next (s.ran fun t => t.rxSteered l lane phys)) ∧
    (∀ (l phys : Nat), l < 24 → exec (.laneRelease l phys) s = .next (s.ran fun t => t.rxRelease l phys)) ∧
    (∀ (l phys preset : Nat), l < 24 → exec (.eqReq l phys preset) s = .next (s.ran fun t => t.rxEqReq l phys preset)) ∧
    (∀ (l phys preset : Nat), l < 24 → exec (.eqSet l phys preset) s = .next (s.ran fun t => t.rxEqSet l phys preset)) ∧
    (∀ (l lane : Nat), l < 24 → exec (.laneFail l lane) s = .next (s.ran fun t => t.laneFail l lane)) ∧
    (∀ (l : Nat), l < 24 → exec (.autoRecalTurn l) s = .next (s.ran fun t => t.autoRecal l)) ∧
    (∀ (l : Nat) (ok : Bool), l < 24 → exec (.recalAdaptDone l ok) s = .next (s.ran fun t => t.recalDone l ok)) ∧
    (∀ (l : Nat), l < 24 → exec (.noFrameTimeout l) s = .next (s.ran fun t => t.noFrame l))

/-- Every timer of the fabric layer, a route fault, a forwarded packet and the other FROUTER events in range run on a powered package, whatever the
state (13 and 14 of the spec). -/
def Obligations.FabricEventsComplete : Prop :=
  ∀ s : State, s.powered = true →
    (∀ (p slot : Nat), exec (.reqTimeoutExpiry p slot) s = .next (s.ran fun t => t.reqTimeout p slot)) ∧
    (∀ (k : Nat), exec (.holdTimerExpiry k) s = .next (s.ran fun t => t.holdTimer k)) ∧
    (∀ (k : Nat), exec (.noticeRetryExpiry k) s = .next (s.ran fun t => t.noticeRetry k)) ∧
    (∀ (src tg step run : Nat), exec (.cbTimeoutExpiry src tg step run) s = .next (s.ran fun t => t.cbTimeout ⟨src, tg, step, run⟩)) ∧
    (∀ (k : Nat), exec (.combineWindowClose k) s = .next (s.ran fun t => t.windowClose k)) ∧
    (∀ (half line : Nat), half < 2 → exec (.hotQueueRelease half line) s = .next (s.ran fun t => t.hotRelease half line)) ∧
    (∀ (l : Nat), l < 24 → exec (.routeFault l) s = .next (s.ran fun t => t.routeFault l)) ∧
    (∀ (l vc : Nat) (q : Pkt), l < 24 → exec (.packetForward l vc q) s = .next (s.ran fun t => t.passArrive l vc q)) ∧
    (∀ (x : Nat), x < 128 → exec (.lostDelayExpiry x) s = .next (s.ran fun t => t.lostDelay x))

/-- Every datagram, timer and clock event of the control transport in range runs on a powered package, whatever the state (15_control_transport.md). -/
def Obligations.TransportEventsComplete : Prop :=
  ∀ s : State, s.powered = true →
    (∀ (d : Setup), exec (.hello d) s = .next (s.ran fun t => t.hello d)) ∧
    (∀ via header ct confirm, exec (.finish via header ct confirm) s = .next (s.ran fun t => t.finishSetup ⟨via, header, ct ++ confirm⟩)) ∧
    (∀ (i : Nat), i < 4096 → exec (.setupTimeout i) s = .next (s.ran fun t => t.setupTimeout i)) ∧
    (∀ (d : Dgram), exec (.ackOnly d) s = .next (s.ran fun t => t.ackOnly d)) ∧
    (∀ (d : Dgram) (es : List MemErr), exec (.segmentRx d es) s = .next (s.ran fun t => t.segmentRx d es)) ∧
    (∀ (i : Nat), i < 4096 → exec (.rtoExpiry i) s = .next (s.ran fun t => t.rtoExpiry i)) ∧
    (∀ (i : Nat), i < 4096 → exec (.ackDelayExpiry i) s = .next (s.ran fun t => t.ackDelay i)) ∧
    (∀ (i : Nat), i < 4096 → exec (.sessionIdleExpiry i) s = .next (s.ran fun t => t.idleExpiry i)) ∧
    (∀ (k speed : Nat), k < 8 → exec (.enetLinkChange k speed) s = .next (s.ran fun t => t.enetLink k speed)) ∧
    (∀ (via : PtpVia) (kind master value : Nat), exec (.ptpMessage via kind master value) s = .next (s.ran fun t => t.ptpMessage via kind master value)) ∧
    (∀ (net : Nat), exec (.syncLossExpiry net) s = .next (s.ran fun t => t.syncLoss net)) ∧
    (exec .ppsInEdge s = .next (s.ran fun t => t.ppsIn)) ∧
    (exec .ppsOutPulse s = .next (s.ran fun t => t.ppsOut))

/-- Every event of BOOT, the RTU, the power and thermal guards, the rack manager watch and the I3C target in range runs on a powered package, whatever
the state (16 to 19 of the spec). -/
def Obligations.SystemEventsComplete : Prop :=
  ∀ s : State, s.powered = true →
    (∀ (failed : List Nat), exec (.bootStageDone failed) s = .next (s.ran fun t => t.bootDone failed)) ∧
    (∀ (failed : List Nat), exec (.bootStageTimeout failed) s = .next (s.ran fun t => t.bootTimeout failed)) ∧
    (∀ (k : Nat), k < 8 → exec (.watchdogExpiry k) s = .next (s.ran fun t => t.watchdog k)) ∧
    (∀ (ok : Bool), exec (.optCommitDone ok) s = .next (s.ran fun t => t.optDone ok)) ∧
    (exec .fwVerifyDone s = .next (s.ran fun t => t.fwVerified)) ∧
    (∀ (k : Nat), k < 8 → exec (.cprocReadyTimeout k) s = .next (s.ran fun t => t.cprocTimeout k)) ∧
    (∀ (k : Nat), k < 8 → exec (.cprocReady k) s = .next (s.ran fun t => t.cprocReady k)) ∧
    (∀ (g : Nat), g < 8 → exec (.ucodeLoad g) s = .next (s.ran fun t => t.ucodeLoad g)) ∧
    (∀ (g : Nat), g < 8 → exec (.ucodeIdleExpiry g) s = .next (s.ran fun t => t.ucodeIdle g)) ∧
    (∀ (ok : Bool), exec (.fwPersistDone ok) s = .next (s.ran fun t => t.persistDone ok)) ∧
    (∀ (ok : Bool), exec (.fuseBlowDone ok) s = .next (s.ran fun t => t.fuseDone ok)) ∧
    (∀ (ok : Bool), exec (.keyStoreWriteDone ok) s = .next (s.ran fun t => t.keyStoreDone ok)) ∧
    (exec .evidenceSigned s = .next (s.ran fun t => t.evidenceDone)) ∧
    (∀ (cause : Nat), exec (.rtuHealthFail cause) s = .next (s.ran fun t => t.rtuFail cause)) ∧
    (∀ (power : Nat), exec (.capTick power) s = .next (s.ran fun t => t.capTick power)) ∧
    (exec .alertHoldExpiry s = .next (s.ran fun t => t.alertEnd)) ∧
    (∀ (temps : List Nat), exec (.thermSample temps) s = .next (s.ran fun t => t.thermSample temps)) ∧
    (exec .hbTimeoutExpiry s = .next (s.ran fun t => t.hbTimeout)) ∧
    (exec .orphanExpiry s = .next (s.ran fun t => t.orphan)) ∧
    (∀ (addr : Nat), exec (.i3cAddrAssign addr) s = .next (s.ran fun t => t.i3cAssign addr)) ∧
    (∀ (bytes : List Byte), exec (.pldmRequest bytes) s = .next (s.ran fun t => t.pldmRequest bytes)) ∧
    (exec .pldmSensorUpdate s = .next (s.ran fun t => t.sensorUpdate))

/-- A happening on a pin or on the supply runs in every state, with power or without (16, 18 and 19 of the spec). -/
def Obligations.PinEventsComplete : Prop :=
  ∀ s : State,
    (exec .pwrGoodRise s = .next (s.ran fun t => t.pwrGoodRise)) ∧
    (exec .pwrGoodFall s = .next (s.ran fun t => t.pwrGoodFall)) ∧
    (exec .pkgResetAssert s = .next (s.ran fun t => t.rstAssert)) ∧
    (exec .pkgResetRelease s = .next (s.ran fun t => t.rstRelease)) ∧
    (exec .vinLow s = .next (s.ran fun t => t.vinLow)) ∧
    (exec .vinOperatingRange s = .next (s.ran fun t => t.vinBack)) ∧
    (exec .brownOut s = .next (s.ran fun t => t.brownOut)) ∧
    (exec .brownoutRecover s = .next (s.ran fun t => t.brownRecover)) ∧
    (exec .brownoutTimeout s = .next (s.ran fun t => t.brownTimeout)) ∧
    (exec .vinUndervoltage s = .next (s.ran fun t => t.undervoltage)) ∧
    (exec .refclkLoss s = .next (s.ran fun t => t.refclkLoss)) ∧
    (exec .pwrAlert s = .next (s.ran fun t => t.pwrAlert)) ∧
    (exec .pwrAlertRelease s = .next (s.ran fun t => t.alertRelease)) ∧
    (∀ (_sensor : Nat), exec (.thermTrip _sensor) s = .next (s.ran fun t => t.thermTrip))

/-! ### Registers: flags, errors and refusals -/

/-- A write of EVT_STAT clears the flags written as 1 and leaves every other flag and everything else. -/
def Obligations.EvtStatClears : Prop :=
  ∀ (s : State) (p : Nat) (v : Word), (unitOf p).isSome = true → absentPg s.cfg p = false → s.powered = true →
    s.calm (fun t => t.setReg 0 p 0x028 (s.reg 0 p 0x028 &&& ~~~ v)) →
    exec (.evtStatClear p v 0) s = .next (s.entry.setReg 0 p 0x028 (s.reg 0 p 0x028 &&& ~~~ v))

/-- Flags that hardware sets at the instant of the clearing write: the set wins, and it is counted. The command runs in every state, and after
its effect each such flag reads 1; with one such flag EVT_SET_COUNT has gone up by 1. -/
def Obligations.SetWinsOverClear : Prop :=
  ∀ (s : State) (p i : Nat) (v set : Word), (unitOf p).isSome = true → absentPg s.cfg p = false → s.powered = true →
    exec (.evtStatClear p v set) s = .next (s.ran fun t => t.clearEvts p v set) ∧
    (i < evtBits (typeOf p) → set = BitVec.ofNat 64 (2 ^ i) →
      ((s.clearEvts p v set).reg 0 p 0x028).getLsbD i = true ∧
      (s.clearEvts p v set).rd p F.COM.SET_COUNT = (s.rd p F.COM.SET_COUNT + 1) % 2 ^ 32)

/-- Each set of an event flag, masked or not, whether or not the flag is 1 already: the flag reads 1, SET_COUNT goes up by 1 modulo 2^32,
LAST_BIT names the flag, and the reserved bits of EVT_SET_COUNT stay. The register is 0 at reset, and a write leaves it. -/
def Obligations.EventCounted : Prop :=
  ∀ (s : State) (p i : Nat), (unitOf p).isSome = true → absentPg s.cfg p = false → i < 64 →
    ((s.setEvt p i).reg 0 p 0x028) = s.reg 0 p 0x028 ||| BitVec.ofNat 64 (2 ^ i) ∧
    (s.setEvt p i).rd p F.COM.SET_COUNT = (s.rd p F.COM.SET_COUNT + 1) % 2 ^ 32 ∧
    (s.setEvt p i).rd p F.COM.LAST_BIT = i ∧
    bits ((s.setEvt p i).reg 0 p 0x038) 63 38 = bits (s.reg 0 p 0x038) 63 38 ∧
    State.reset.reg 0 p 0x038 = 0 ∧ ∀ v, s.writeCommon p 0x038 v = s

/-- A write of EVT_MASK stores the mask and leaves flags and counts, in every state; with no session subscribed to the unit nothing else
changes. -/
def Obligations.MaskWriteKeepsFlags : Prop :=
  ∀ (s : State) (p : Nat) (v : Word), (unitOf p).isSome = true → absentPg s.cfg p = false →
    (s.maskWrite p v).reg 0 p 0x030 = v ∧ (s.maskWrite p v).reg 0 p 0x028 = s.reg 0 p 0x028 ∧
    (s.maskWrite p v).reg 0 p 0x038 = s.reg 0 p 0x038 ∧
    (s.powered = true → s.subscribers p = [] → s.calm (fun t => t.setReg 0 p 0x030 v) →
      exec (.evtMaskWrite p v) s = .next (s.entry.setReg 0 p 0x030 v))

/-- Clearing VALID clears both error registers; an error that arrives at that instant is captured, with VALID 1 and OVERFLOW 0. -/
def Obligations.ErrInfoClears : Prop :=
  ∀ (s : State) (p : Nat) (v : Word), (unitOf p).isSome = true → absentPg s.cfg p = false → s.powered = true →
    (s.calm (fun t => (t.setReg 0 p 0x040 0).setReg 0 p 0x048 0) →
      exec (.errInfoClear p v none) s = .next ((s.entry.setReg 0 p 0x040 0).setReg 0 p 0x048 0)) ∧
    ∀ code st loc : Nat, code < 256 → loc < 2 ^ 32 →
      exec (.errInfoClear p v (some (code, st, loc))) s =
        .next (s.ran fun t => ((t.setReg 0 p 0x040 0).setReg 0 p 0x048 0).capture p code (statusOf st) loc) ∧
      let t := ((s.setReg 0 p 0x040 0).setReg 0 p 0x048 0).capture p code (statusOf st) loc
      t.rd p F.COM.ERR_VALID = 1 ∧ t.rd p F.COM.ERR_OVERFLOW = 0 ∧ t.rd p F.COM.ERR_CODE = code ∧ t.rd p F.COM.ERR_LOCATION = loc

/-- The first error while VALID is 0 is captured: its code, status and location, VALID 1, OVERFLOW and LASTING 0, and the time. A further one
sets OVERFLOW and leaves the rest of the capture. -/
def Obligations.FirstErrorCaptured : Prop :=
  ∀ (s : State) (p code loc : Nat) (st : Status), (unitOf p).isSome = true → absentPg s.cfg p = false → code < 256 → loc < 2 ^ 32 →
    (s.on p F.COM.ERR_VALID = false →
      let t := s.capture p code st loc
      t.rd p F.COM.ERR_CODE = code ∧ t.rd p F.COM.ERR_STATUS = st.code ∧ t.rd p F.COM.ERR_VALID = 1 ∧ t.rd p F.COM.ERR_OVERFLOW = 0 ∧
      t.rd p F.COM.ERR_LASTING = 0 ∧ t.rd p F.COM.ERR_LOCATION = loc ∧ (t.reg 0 p 0x048).toNat = s.now) ∧
    (s.on p F.COM.ERR_VALID = true →
      let t := s.capture p code st loc
      t.rd p F.COM.ERR_OVERFLOW = 1 ∧ t.rd p F.COM.ERR_CODE = s.rd p F.COM.ERR_CODE ∧ t.rd p F.COM.ERR_STATUS = s.rd p F.COM.ERR_STATUS ∧
      t.rd p F.COM.ERR_VALID = 1 ∧ t.rd p F.COM.ERR_LOCATION = s.rd p F.COM.ERR_LOCATION ∧ t.reg 0 p 0x048 = s.reg 0 p 0x048)

/-- The status with which a write is refused as a whole, in the order of the checks: a misaligned address, a page that holds no unit, an ABSENT
unit, an RTU service or link keys without the right, a closed wrapper, a bound unit. Nothing else changes, but for Q_REFUSED of a queue whose
index was written. -/
def Obligations.RefusalStatuses : Prop :=
  ∀ (s : State) (co keys : Bool) (p off : Nat) (v : Word), s.powered = true → s.quiet s.faultL = true →
    let refused (st : Status) : Prop :=
      if isQueueIndex p off then exec (.regWrite co keys p off v) s = .next (s.ran fun t => (t.setEvt p F.EVT.TILE.Q_REFUSED).answer st)
      else exec (.regWrite co keys p off v) s = .next { s with out := [], ret := st }
    (off % 8 ≠ 0 → refused .badArg) ∧
    (off % 8 = 0 → ((unitOf p).isNone = true ∨ 4096 ≤ off) → refused .range) ∧
    (off % 8 = 0 → off < 4096 → absentPg s.cfg p = true → refused .absent) ∧
    (off % 8 = 0 → p = pg .rtu 0 → 0x110 ≤ off → off ≤ 0x160 → co = false → refused .perm) ∧
    (off % 8 = 0 → (∃ k < 8, p = pg .enet k) → 0x130 ≤ off → off ≤ 0x168 → keys = false → refused .perm) ∧
    (off % 8 = 0 → off < 4096 → 0x100 ≤ off → (unitOf p).isSome = true → absentPg s.cfg p = false → typeOf p ≠ .rtu → typeOf p ≠ .enet →
      s.on p F.COM.ISOLATED = true → refused .isolated) ∧
    (off % 8 = 0 → 0x100 ≤ off → off < 0xE00 → isTile p = true → absentPg s.cfg p = false → s.on p F.COM.ISOLATED = false →
      s.on p F.COM.BOUND = true → refused .illegalState)

/-- An ABSENT unit: UNIT_STAT reads ABSENT, UNIT_CAP the value of the DR-9400, and every other offset but UNIT_ID reads zero. -/
def Obligations.AbsentUnitReads : Prop :=
  ∀ (s : State) (p : Nat) (t : UType) (k : Nat), unitOf p = some (t, k) → absentUnit s.cfg t k = true →
    s.readReg p 0x020 = (.ok, 0, s) ∧ s.readReg p 0x008 = (.ok, unitCap { s.cfg with variant := .dr9400 } t k, s) ∧
    ∀ off, off ≠ 0x000 → off ≠ 0x008 → off ≠ 0x020 → s.readReg p off = (.ok, 0, s)

/-- ISOLATE written to ROOT is refused with BAD_ARG, and so are BIND and UNBIND in one write of a gang page, whose BIND_STATUS takes it. -/
def Obligations.BadActionsRefused : Prop :=
  ∀ (s : State) (p : Nat) (v : Word), s.powered = true →
    (s.writeBar false false 0 0x050 (v ||| BitVec.ofNat 64 2) = none → s.quiet s.faultL = true →
      exec (.isolate 0 v) s = .next { s with out := [], ret := .badArg }) ∧
    (typeOf p = .gang → v.getLsbD 1 = true → s.writeBar false false p 0xE08 (v ||| BitVec.ofNat 64 1) = none →
      s.calm (fun t => (t.wr p F.GANG.BIND_STATUS Status.badArg.code).answer .badArg) →
      exec (.bind p v) s = .next ((s.entry.wr p F.GANG.BIND_STATUS Status.badArg.code).answer .badArg))

/-! ### Power and pins -/

/-- V_SET takes a voltage from 600 to 850 mV in steps of 5, and everything else is as before; any other value is refused with BAD_ARG. -/
def Obligations.VSetWrite : Prop :=
  ∀ (s : State) (k : Nat) (v : Word), k < 24 → s.powered = true → s.writeBar false false (pg .island k) 0x100 v = none →
    ((600 ≤ bits v 9 0 ∧ bits v 9 0 ≤ 850 ∧ bits v 9 0 % 5 = 0) →
      s.calm (fun t => t.wr (pg .island k) F.ISLAND.V_SET (bits v 9 0)) →
      exec (.vSetWrite k v) s = .next (s.entry.wr (pg .island k) F.ISLAND.V_SET (bits v 9 0))) ∧
    (¬ (600 ≤ bits v 9 0 ∧ bits v 9 0 ≤ 850 ∧ bits v 9 0 % 5 = 0) → s.quiet s.faultL = true →
      exec (.vSetWrite k v) s = .next { s with out := [], ret := .badArg })

/-- The power cap's registers take their permitted values and refuse the others with BAD_ARG: CAP_W from 800 W to the part's maximum power,
CAP_WINDOW from 100 to 10,000 µs, SLEW_UP from 1 to 50. -/
def Obligations.PowerLimits : Prop :=
  ∀ (s : State) (co keys : Bool) (v : Word), s.powered = true →
    (s.writeBar co keys pwrPg 0x100 v = none →
      ((800 ≤ bits v 15 0 ∧ bits v 15 0 ≤ maxPower s.cfg.variant ∧ 100 ≤ bits v 47 32 ∧ bits v 47 32 ≤ 10000) →
        s.calm (fun t => t.setReg 0 pwrPg 0x100 (s.merged pwrPg 0x100 v)) →
        exec (.regWrite co keys pwrPg 0x100 v) s = .next (s.entry.setReg 0 pwrPg 0x100 (s.merged pwrPg 0x100 v))) ∧
      (¬ (800 ≤ bits v 15 0 ∧ bits v 15 0 ≤ maxPower s.cfg.variant ∧ 100 ≤ bits v 47 32 ∧ bits v 47 32 ≤ 10000) → s.quiet s.faultL = true →
        exec (.regWrite co keys pwrPg 0x100 v) s = .next { s with out := [], ret := .badArg })) ∧
    (s.writeBar co keys pwrPg 0x110 v = none →
      ((1 ≤ bits v 7 0 ∧ bits v 7 0 ≤ 50) → s.calm (fun t => t.setReg 0 pwrPg 0x110 (s.merged pwrPg 0x110 v)) →
        exec (.regWrite co keys pwrPg 0x110 v) s = .next (s.entry.setReg 0 pwrPg 0x110 (s.merged pwrPg 0x110 v))) ∧
      (¬ (1 ≤ bits v 7 0 ∧ bits v 7 0 ≤ 50) → s.quiet s.faultL = true →
        exec (.regWrite co keys pwrPg 0x110 v) s = .next { s with out := [], ret := .badArg }))

/-- The effective voltage of an island is the least of V_SET, V_CAP, V_THERM and V_ALERT, but not below 600 mV, where V_ALERT is the alert floor
while an alert holds and 850 mV otherwise; LIMIT names the first of ALERT, THERM and CAP that is in force and equals it, and SET where none
does. A write of V_SET is stored at once. -/
def Obligations.EffectiveVoltage : Prop :=
  ∀ (s : State) (i : Nat),
    let alert := if s.on pwrPg F.PWR.ALERT_ACTIVE then s.rd pwrPg F.PWR.ALERT_FLOOR else 850
    let terms := [s.rd (pg .island i) F.ISLAND.V_SET, s.vCap, s.vTherm i, alert]
    (600 ≤ s.vEff i ∧ (s.vEff i = 600 ∨ (s.vEff i ∈ terms ∧ ∀ x ∈ terms, s.vEff i ≤ x)) ∧ ((∃ x ∈ terms, x ≤ 600) → s.vEff i = 600)) ∧
    (s.vLimit i = 3 ↔ (s.on pwrPg F.PWR.ALERT_ACTIVE = true ∧ alert = s.vEff i)) ∧
    (s.vLimit i = 2 ↔ (¬ (s.on pwrPg F.PWR.ALERT_ACTIVE = true ∧ alert = s.vEff i) ∧ s.vTherm i < 850 ∧ s.vTherm i = s.vEff i)) ∧
    (s.vLimit i = 1 ↔ (¬ (s.on pwrPg F.PWR.ALERT_ACTIVE = true ∧ alert = s.vEff i) ∧ ¬ (s.vTherm i < 850 ∧ s.vTherm i = s.vEff i) ∧
      s.vCap < 850 ∧ s.vCap = s.vEff i)) ∧ s.vLimit i ≤ 3 ∧
    (∀ v : Word, voltOk (bits v 9 0) = true → (s.vSetWrite i v).rd (pg .island i) F.ISLAND.V_SET = bits v 9 0)

/-- The guaranteed rate at the voltages and temperatures of the table, in M steps/s. -/
def Obligations.RateTable : Prop :=
  [600, 650, 700, 750, 800, 850].map (fun v => [40, 70, 90].map (rateAt v)) =
    [[some 1220, some 1300, some 1360], [some 1500, some 1550, some 1580], [some 1760, some 1780, some 1790],
     [some 2030, some 2000, some 1970], [some 2260, some 2210, some 2170], [some 2460, some 2400, some 2350]]

/-- A thermal trip, and VIN12 below 7.0 V, put the package into OFF from every state: no power, no register, memory, session or engine keeps
anything; only the trip holds THERM_TRIP_L low. PWR_GOOD falling does the same and clears the trip. -/
def Obligations.SupplyLossTurnsOff : Prop :=
  ∀ (s : State) (k : Nat),
    exec (.thermTrip k) s = .next ({ s.entry with pins := { s.pins with tripLow := true } } : State).off ∧
    exec .vinUndervoltage s = .next ({ s.entry with pw := { s.pw with low := true } } : State).off ∧
    (s.pins.pwrGood = true → exec .pwrGoodFall s = .next ({ s.entry with pins := { s.pins with pwrGood := false, tripLow := false } } : State).cold) ∧
    (∀ u : State, u.off.powered = false ∧ u.off.pw.mode = 3 ∧ u.off.pins.tripLow = u.pins.tripLow ∧ u.off.regs = [] ∧ u.off.mem = [] ∧
      u.off.sessions = [] ∧ u.off.slots = [] ∧ u.off.steps = [] ∧ u.off.fab.reqs = [] ∧ u.off.saved = none) ∧
    (∀ u : State, u.pins.pwrGood = false → u.cold.powered = false ∧ u.cold.mem = [] ∧ u.cold.regs = [] ∧ u.cold.saved = none)

/-! ### Tiles: control commands, memory and numbers -/

/-- A running NULL completes OK and has no other effect. -/
def Obligations.NullCompletes : Prop :=
  ∀ (s : State) (p : Nat) (r : Run), isTile p = true → s.powered = true → s.running p 0x00 0 = some r →
    s.calm (fun t => t.finish p r { st := .ok }) → exec (.null p) s = .next (s.entry.finish p r { st := .ok })

/-- A running WAIT whose condition does not hold on some leaf goes on waiting, and nothing changes; once it holds on every leaf the command has its
result, the waiting time of each leaf in µs among it, and nothing else changes. MODE 0 asks for the counter to be at least VALUE, MODE 1 for every
1 bit of VALUE. A BARRIER whose group has a step open joins the tiles of its page; with the last active tile every BARRIER of its id in the group
completes OK, and until then it waits. A FENCE completes OK once it is the oldest command that runs, and waits until then. The counter value that
a BARRIER or FENCE reports is free (log entry 36). -/
def Obligations.WaitWaits : Prop :=
  (∀ (s : State) (p : Nat) (r : Run), isTile p = true → s.powered = true → s.running p 0x01 0 = some r →
    (s.leaves p).any (fun pos => s.anyPoison (counterOf r.d pos) 8) = false →
    let v (pos : Nat) : Nat := s.ld (counterOf r.d pos) 8
    let holds (pos : Nat) : Bool := if dfld r.d 16 0 8 = 0 then decide (dfld r.d 24 0 64 ≤ v pos) else Nat.land (v pos) (dfld r.d 24 0 64) == dfld r.d 24 0 64
    ((s.leaves p).all holds = false → s.quiet s.faultL = true → exec (.syncWait p) s = .next s.entry) ∧
    ((s.leaves p).all holds = true →
      let us := min ((s.now - r.t0) / 1000) 0xFFFFFFFF
      let x : Res := { st := .ok, r0 := min (((s.leaves p).map fun pos => v pos % 2 ^ 32).sum) 0xFFFFFFFF
                       r1 := min (us * (s.leaves p).length) 0xFFFFFFFF }
      s.calm (fun t => t.finish p r x) → exec (.syncWait p) s = .next (s.entry.finish p r x))) ∧
  (∀ (s : State) (p : Nat) (r : Run), isTile p = true → s.powered = true →
    let us := min (min ((s.now - r.t0) / 1000) 0xFFFFFFFF * (s.leaves p).length) 0xFFFFFFFF
    (∀ g o, s.running p 0x01 2 = some r → s.groupOf p = some g → s.openOf g = some o →
      let id := dfld r.d 34 0 16
      let had := (tblFind id o.barriers).getD []
      let now := had ++ (s.leaves p).filter fun k => !had.contains k
      (now.length < o.active → exec (.syncBarrier p) s =
        .next (s.ran fun t => t.setOpen g (some { o with barriers := tblInsert id now (tblErase id o.barriers) }))) ∧
      (o.active ≤ now.length → exec (.syncBarrier p) s =
        .next (s.ran fun t => forEach (s.atBarrier g id) (fun x u =>
          u.free.2.finish x.1 x.2 { st := .ok, r0 := u.free.1 % 2 ^ 32, r1 := u.waitUs x.1 x.2 })
          (t.setOpen g (some { o with barriers := tblErase id o.barriers }))))) ∧
    (s.running p 0x01 3 = some r →
      ((s.sq p).run.head?.any (fun x => x.q == r.q && x.idx == r.idx) = true → exec (.syncFence p) s =
        .next (s.ran fun t => t.free.2.finish p r { st := .ok, r0 := t.free.1 % 2 ^ 32, r1 := us })) ∧
      ((s.sq p).run.head?.any (fun x => x.q == r.q && x.idx == r.idx) = false → exec (.syncFence p) s = .next (s.ran id))))

/-- A SIGNAL that reaches a counter adds VALUE modulo 2^64 (MODE 0) or ORs it (MODE 1) and leaves every other byte of memory and every register;
a counter that holds a poisoned word is left, and the update fails with POISON. A SIGNAL command whose counters hold no poisoned word, its own or
that of a peer that accepts the write, updates each leaf's counter in turn and completes OK with the sum of the values they then hold (R137, R547). -/
def Obligations.SignalUpdatesCounter : Prop :=
  (∀ (s : State) (pos off mode v : Nat), off % 8 = 0 → v < 2 ^ 64 → Memory.wf s.mem = true →
    (s.anyPoison (scr pos off) 8 = true → s.signalAt pos off mode v = (.poison, s)) ∧
    (s.anyPoison (scr pos off) 8 = false →
      let x := s.signalAt pos off mode v
      x.1 = .ok ∧ x.2.ld (scr pos off) 8 = (if mode = 0 then (s.ld (scr pos off) 8 + v) % 2 ^ 64 else Nat.lor (s.ld (scr pos off) 8) v) ∧
      (∀ a, (a < scr pos off ∨ scr pos off + 8 ≤ a) → x.2.byte a = s.byte a) ∧ x.2.regs = s.regs ∧ Memory.wf x.2.mem = true)) ∧
  (∀ (s : State) (p : Nat) (r : Run), isTile p = true → s.powered = true →
    let us := min (min ((s.now - r.t0) / 1000) 0xFFFFFFFF * (s.leaves p).length) 0xFFFFFFFF
    let own := dfld r.d 18 0 9 = 0x1FF
    let at_ (pos : Nat) : Nat := if own then pos else dfld r.d 18 0 9
    let off := dfld r.d 20 0 27
    (s.running p 0x01 1 = some r → (∀ pos ∈ s.leaves p, s.anyPoison (scr (at_ pos) off) 8 = false) →
      (own ∨ s.meshFail p r.d (dfld r.d 18 0 9) off 8 = none) →
      let one (x : Nat × State) (pos : Nat) : Nat × State :=
        let y := (if own then x.2 else x.2.hopsDone pos (dfld r.d 18 0 9)).signalInto r.d (at_ pos)
        (x.1 + y.2.1, y.2.2)
      let x := (s.leaves p).foldl one (0, s.entry)
      exec (.syncSignal p) s = .next (s.ran fun _ => x.2.finish p r { st := .ok, r0 := min x.1 0xFFFFFFFF, r1 := us }))) ∧
  (∀ (s : State) (d pos : Nat),
    let x := s.signalAt pos (dfld d 20 0 27) (dfld d 16 0 8) (dfld d 24 0 64)
    s.signalInto d pos = (x.1, x.2.ld (scr pos (dfld d 20 0 27)) 8 % 2 ^ 32, x.2))

/-- Bytes written to memory read back, every other byte is as before, registers are as before, and memory keeps its canonical form. MOV commands
complete OK with their rows moved, in order (04 of the spec, R132, R133, R547). COPY and BCAST of rows that hold no poisoned word copy each row,
BCAST from the lead tile; FILL writes the pattern to every row; MESH_PUT writes each row at the peer, which accepts it; a LOAD each of whose rows
is read without failure writes it to scratch, and a STORE writes each row to memory. A COPY, BCAST, FILL or LOAD into a granule in use waits, and
so does a LOAD or STORE of memory that is held; nothing changes then. -/
def Obligations.MemoryWriteFrame : Prop :=
  (∀ (s : State) (a : Nat) (bs : List Byte),
    (∀ i, i < bs.length → (s.put a bs).byte (a + i) = nth 0 bs i) ∧
    (∀ b, (b < a ∨ a + bs.length ≤ b) → (s.put a bs).byte b = s.byte b) ∧
    (s.put a bs).regs = s.regs ∧ (Memory.wf s.mem = true → Memory.wf (s.put a bs).mem = true)) ∧
  (∀ (s : State) (p : Nat) (r : Run), isTile p = true → s.powered = true →
    let d := r.d
    let u := s.entry
    let rows := u.movRows p d
    let len := dfld d 32 0 32
    (s.running p 0x30 0 = some r →
      (u.movWaits p d = true → exec (.movCopy p) s = .next (s.ran id)) ∧
      (u.movWaits p d = false → (∀ x ∈ rows, u.anyPoison (scr x.1 (movSrc d x.2)) len = false) →
        exec (.movCopy p) s = .next (s.ran fun t => (forEach rows (fun x v => v.copyRow d id x.1 x.2) t).finish p r (movRes d rows.length)))) ∧
    (s.running p 0x30 4 = some r →
      (u.movWaits p d = true → exec (.movBcast p) s = .next (s.ran id)) ∧
      (u.movWaits p d = false → (∀ x ∈ rows, u.anyPoison (scr (u.lead p) (movSrc d x.2)) len = false) →
        exec (.movBcast p) s = .next (s.ran fun t =>
          (forEach rows (fun x v => v.copyRow d (fun _ => u.lead p) x.1 x.2) t).finish p r (movRes d rows.length)))) ∧
    (s.running p 0x30 5 = some r →
      (u.movWaits p d = true → exec (.movFill p) s = .next (s.ran id)) ∧
      (u.movWaits p d = false →
        exec (.movFill p) s = .next (s.ran fun t => (forEach rows (fun x v => v.fillRow d x.1 x.2) t).finish p r (movRes d rows.length)))) ∧
    (s.running p 0x30 3 = some r →
      (∀ x ∈ rows, u.anyPoison (scr x.1 (movSrc d x.2)) len = false ∧ u.meshFail p d (dfld d 38 0 9) (movDst d x.2) len = none) →
      exec (.movMeshPut p) s = .next (s.ran fun t => (forEach rows (fun x v =>
        (v.hopsDone x.1 (dfld d 38 0 9)).put (scr (dfld d 38 0 9) (movDst d x.2)) (v.ldBytes (scr x.1 (movSrc d x.2)) len)) t).finish p r
          (movRes d rows.length))) ∧
    (∀ es, s.running p 0x30 1 = some r →
      (u.loadWaits p d = true → exec (.movLoad p es) s = .next (s.ran id)) ∧
      (∀ n v, u.loadWaits p d = false → loadRows (State.loadRow d (u.clsOf p) es) rows none 0 u = (none, false, n, v) →
        exec (.movLoad p es) s = .next (s.ran fun _ => v.finish p r (movRes d n)))) ∧
    (∀ es, s.running p 0x30 2 = some r →
      (u.storeWaits p d = true → exec (.movStore p es) s = .next (s.ran id)) ∧
      (∀ n v, u.storeWaits p d = false → moveRows (State.storeRow p d es) rows 0 u = (.ok, n, v) →
        exec (.movStore p es) s = .next (s.ran fun _ => v.finish p r (movRes d n)))))

/-- Reading an FP32, BF16, E5M2 or binary64 code and writing its value again gives the code, for every code that is no NaN: no bit of the format
is dropped and rounding leaves what is exact. `eb` and `mb` are the widths of exponent and mantissa. -/
def Obligations.FloatCodesRoundTrip : Prop :=
  ∀ eb mb c : Nat, 2 ≤ eb → 1 ≤ mb → c < 2 ^ (1 + eb + mb) → (decodeIeee eb mb c).isNan = false → encodeIeee eb mb (decodeIeee eb mb c) = c

/-- Rounding a quotient takes the nearest integer, and the even one of two that are equally near. -/
def Obligations.RoundsToNearestEven : Prop :=
  ∀ a b k : Nat, 0 < b →
    (2 * a ≤ 2 * (b * rneDiv a b) + b ∧ 2 * (b * rneDiv a b) ≤ 2 * a + b) ∧
    (2 * a = 2 * (b * k) + b → rneDiv a b = if k % 2 = 0 then k else k + 1)

/-- The scale of a block under AMAX and AMAX_CLIP: the smallest UE5M3 value at least t, at least code 0x01 and at most code 0xFE. -/
def Obligations.ScaleIsLeast : Prop :=
  ∀ t : Q, 0 < t.d → 1 ≤ scaleFor t ∧ scaleFor t ≤ 0xFE ∧
    (∀ c, 1 ≤ c → c < scaleFor t → t.le ((ue5m3 c).getD ⟨0, 1⟩) = false) ∧
    (scaleFor t < 0xFE → t.le ((ue5m3 (scaleFor t)).getD ⟨0, 1⟩) = true)

/-- Quantisation writes no code above the largest grid magnitude with the element's sign, and so no negative zero, INT4 −8, INT8 −128, infinity or
NaN; an element above Q in magnitude is Q and saturates, and no other element saturates. -/
def Obligations.QuantisedCodes : Prop :=
  ∀ (f : Fmt) (round rb : Nat) (neg : Bool) (y : Q), 0 < y.d → 0 ≤ y.n → f ≠ .bf16 →
    (∃ c ≤ gridMax f, (quantElem f round rb neg y).1 = signedCode f neg c) ∧
    (((elemVal f (gridMax f)).num.lt y = true) → quantElem f round rb neg y = (signedCode f neg (gridMax f), true)) ∧
    (((elemVal f (gridMax f)).num.lt y = false) → (quantElem f round rb neg y).2 = false)

/-- The uniform variate of SAMPLE lies strictly between 0 and 1, with an odd numerator over 2^32. -/
def Obligations.UniformVariate : Prop :=
  ∀ seed handle q : Nat, (uvar seed handle q).d = 2 ^ 32 ∧ 0 < (uvar seed handle q).n ∧ (uvar seed handle q).n < 2 ^ 32 ∧
    (uvar seed handle q).n % 2 = 1

/-- MAX_F32 keeps a NaN as the canonical NaN, does not depend on the order of its operands, and keeps +0 above −0. -/
def Obligations.MaxOfTwo : Prop :=
  (∀ a b : Nat, (fp32 a).isNan = true ∨ (fp32 b).isNan = true → fmax32 a b = nan32) ∧
  (∀ a b : Nat, a < 2 ^ 32 → b < 2 ^ 32 → fmax32 a b = fmax32 b a) ∧ fmax32 0x80000000 0 = 0 ∧ fmax32 0 0x80000000 = 0

/-! ### HALO, memory tiers, POOL and Updraft -/

/-- LOG_POP removes the oldest record of a HALO's log, has no effect on an empty log, and leaves everything else. -/
def Obligations.LogPop : Prop :=
  ∀ (s : State) (g : Nat) (v : Word), g < 8 → s.powered = true → s.writeBar false false (pg .halo g) 0x170 (v ||| BitVec.ofNat 64 1) = none →
    s.calm (fun t => t.setHl g { s.hl g with log := (s.hl g).log.drop 1 }) →
    exec (.haloLogPop g v) s = .next (s.entry.setHl g { s.hl g with log := (s.hl g).log.drop 1 })

/-- A write of a watch word is refused with BAD_ARG where the ID differs from WP_INDEX, ALPHA_SHIFT is 0, or a ratio or baseline is negative or
NaN, and with ILLEGAL_STATE where it changes the ID while the entry is enabled; nothing else changes. The entry is as last written, also by
a write that waits for an evaluation. -/
def Obligations.WatchWriteRefused : Prop :=
  ∀ (s : State) (g : Nat) (v : Word), g < 8 → s.powered = true → s.quiet s.faultL = true →
    let open_ (off : Nat) : Prop := s.writeBar false false (pg .halo g) off v = none
    let e := s.rd (pg .halo g) F.HALO.WP_INDEX
    let old := s.haloWord g e 0
    let refused (off : Nat) (st : Status) : Prop := exec (.haloWpWrite g off v) s = .next { s with out := [], ret := st }
    (open_ 0x110 → (bits v 11 0 ≠ e ∨ bits v 23 20 = 0) → refused 0x110 .badArg) ∧
    (open_ 0x118 → (badRatio (bits v 31 0) = true ∨ badRatio (bits v 63 32) = true) → refused 0x118 .badArg) ∧
    (open_ 0x120 → badRatio (bits v 31 0) = true → refused 0x120 .badArg) ∧
    (open_ 0x130 → (badRatio (bits v 31 0) = true ∨ badRatio (bits v 63 32) = true) → refused 0x130 .badArg) ∧
    (open_ 0x110 → bits v 11 0 = e → bits v 23 20 ≠ 0 → bits old 16 16 = 1 → bits v 15 0 ≠ bits old 15 0 → refused 0x110 .illegalState)

/-- RETURN of a GMEM outside REDIRECTED, and a cache flush while one runs, are refused with ILLEGAL_STATE, which their status field takes. -/
def Obligations.TierActionsRefused : Prop :=
  ∀ (s : State) (k : Nat) (v : Word), s.powered = true →
    (k < 20 → v.getLsbD 0 = false → s.rd (pg .gmem k) F.GMEM.RELOC_STATE ≠ 2 →
      s.writeBar false false (pg .gmem k) 0x120 (v ||| BitVec.ofNat 64 2) = none →
      s.calm (fun t => (t.wr (pg .gmem k) F.GMEM.RELOC_STATUS Status.illegalState.code).answer .illegalState) →
      exec (.gmemReturn k v) s = .next ((s.entry.wr (pg .gmem k) F.GMEM.RELOC_STATUS Status.illegalState.code).answer .illegalState)) ∧
    (k < 2 → s.on (pg .mcache k) F.MCACHE.BUSY = true → s.writeBar false false (pg .mcache k) 0x198 (v ||| BitVec.ofNat 64 1) = none →
      s.calm (fun t => (t.wr (pg .mcache k) F.MCACHE.STATUS Status.illegalState.code).answer .illegalState) →
      exec (.mcFlushStart k v) s = .next ((s.entry.wr (pg .mcache k) F.MCACHE.STATUS Status.illegalState.code).answer .illegalState))

/-- APPLY of a POOL that is not IDLE or holds a block or a page is refused with ILLEGAL_STATE, and nothing but APPLY_STATUS changes. -/
def Obligations.PoolApplyRefused : Prop :=
  ∀ (s : State) (g : Nat) (v : Word), g < 8 → s.powered = true →
    (s.ust (pg .pool g) ≠ .idle ∨ (s.pl g).blocks ≠ [] ∨ (s.pl g).pages ≠ []) →
    s.writeBar false false (pg .pool g) 0x130 (v ||| BitVec.ofNat 64 1) = none →
    s.calm (fun t => (t.wr (pg .pool g) F.POOL.APPLY_STATUS Status.illegalState.code).answer .illegalState) →
    exec (.poolApply g v) s = .next ((s.entry.wr (pg .pool g) F.POOL.APPLY_STATUS Status.illegalState.code).answer .illegalState)

/-- UD_CFG is written only while the instance is IDLE with ENABLE 0: it then takes its RW fields and nothing else changes; otherwise the write is
refused with ILLEGAL_STATE. -/
def Obligations.UdCfgWrite : Prop :=
  ∀ (s : State) (co keys : Bool) (u : Nat) (v : Word), u < 8 → s.powered = true → s.writeBar co keys (pg .updraft u) 0x100 v = none →
    ((s.ust (pg .updraft u) = .idle ∧ s.on (pg .updraft u) F.UPDRAFT.ENABLE = false) →
      s.calm (fun t => t.setReg 0 (pg .updraft u) 0x100 (s.merged (pg .updraft u) 0x100 v)) →
      exec (.regWrite co keys (pg .updraft u) 0x100 v) s = .next (s.entry.setReg 0 (pg .updraft u) 0x100 (s.merged (pg .updraft u) 0x100 v))) ∧
    (¬ (s.ust (pg .updraft u) = .idle ∧ s.on (pg .updraft u) F.UPDRAFT.ENABLE = false) → s.quiet s.faultL = true →
      exec (.regWrite co keys (pg .updraft u) 0x100 v) s = .next { s with out := [], ret := .illegalState })

/-! ### Steps, exchange and request I/O -/

/-- A write of MAP_ENTRY that names a page outside the TILE and GANG ranges is refused with RANGE, whatever its VALID; another is refused with
ILLEGAL_STATE while a step is open or a grant is held, and otherwise it stores the entry that MAP_INDEX shows and nothing else. -/
def Obligations.MapEntryWrite : Prop :=
  ∀ (s : State) (co keys : Bool) (g : Nat) (v : Word), g < 8 → s.powered = true → s.writeBar co keys (pg .stepseq g) 0x170 v = none →
    let p := pg .stepseq g
    let tileOrGang := isTile (bits v 19 0) = true ∧ (unitOf (bits v 19 0)).isSome = true
    let busy := (s.openOf g).isSome = true ∨ s.heldOf g ≠ []
    (¬ tileOrGang → s.quiet s.faultL = true →
      exec (.regWrite co keys p 0x170 v) s = .next { s with out := [], ret := .range }) ∧
    (tileOrGang → busy → s.quiet s.faultL = true →
      exec (.regWrite co keys p 0x170 v) s = .next { s with out := [], ret := .illegalState }) ∧
    (tileOrGang → ¬ busy →
      let b := s.rd p F.STEPSEQ.MAP_INDEX
      s.calm (fun t => t.setReg b p 0x170 (s.merged p 0x170 v)) →
      exec (.regWrite co keys p 0x170 v) s = .next (s.entry.setReg b p 0x170 (s.merged p 0x170 v)))

/-- A write of PLAN_BASE stores the base of the selected group's plan, and PLAN_VALID of that group reads 0 after it. -/
def Obligations.PlanBaseWrite : Prop :=
  ∀ (s : State) (co keys : Bool) (k : Nat) (v : Word), k < 2 → s.powered = true → s.writeBar co keys (pg .squall k) 0x110 v = none →
    let g := s.rd (pg .squall k) F.SQUALL.PLAN_SEL
    exec (.regWrite co keys (pg .squall k) 0x110 v) s =
      .next (s.ran fun t => (t.setReg g (pg .squall k) 0x110 (v &&& 0x1FFFFFFFFFC0)).planClear k g) ∧
    ((s.setReg g (pg .squall k) 0x110 (v &&& 0x1FFFFFFFFFC0)).planClear k g).rdB g (pg .squall k) F.SQUALL.PLAN_VALID = 0

/-- A refill adds floor((RATE × Δ + REM) / 10^9) sixteenths and keeps the remainder; the result is limited to 16 × CAP, and a balance above that
limit is not reduced and does not grow. Refilling in between loses and gains nothing. The test of a budget, a debit and a write of the balance
work on the refilled bucket; the test passes when that balance is above 0, and in a disabled bucket always. -/
def Obligations.BucketRefill : Prop :=
  (∀ (b : Bucket) (now later : Nat), b.last ≤ now → now ≤ later →
    let t := b.rate * (now - b.last) + b.rem
    let r := b.refill now
    r.rem = t % 10 ^ 9 ∧ r.last = now ∧ r.rate = b.rate ∧ r.cap = b.cap ∧ r.en = b.en ∧
    (b.bal ≤ 16 * b.cap → r.bal = min (16 * b.cap : Int) (b.bal + (t / 10 ^ 9 : Nat))) ∧
    ((16 * b.cap : Int) < b.bal → r.bal = b.bal) ∧ r.refill later = b.refill later) ∧
  (∀ (s : State) (g c d : Nat),
    let x := (s.bucket g c).refill s.now
    (s.budgetOk g c).1 = (!x.en || decide (0 < x.bal)) ∧ (s.budgetOk g c).2.bucket g c = x ∧
    (s.debit g c d).bucket g c = { x with bal := max (x.bal - d) (-(2 ^ 47)), debited := (x.debited + d) % 2 ^ 64 }) ∧
  (∀ (s : State) (v : Nat),
    let g := s.rd (pg .contrail 0) F.CONTRAIL.BK_TGROUP
    let c := s.rd (pg .contrail 0) F.CONTRAIL.BK_CUSTOMER
    (s.bkBalance v).bucket g c = { (s.bucket g c).refill s.now with bal := int48 (v % 2 ^ 48) })

/-- BK_BALANCE sets the balance of the shown bucket after refill, and BK_CREDIT adds a signed amount after refill; nothing else changes. A credit
whose sum leaves the 48-bit range takes a free balance (log entry 18), and the command completes all the same. -/
def Obligations.BalanceWrites : Prop :=
  ∀ (s : State) (v : Word), s.powered = true →
    let g := s.rd (pg .contrail 0) F.CONTRAIL.BK_TGROUP
    let c := s.rd (pg .contrail 0) F.CONTRAIL.BK_CUSTOMER
    let b := (s.bucket g c).refill s.now
    let x := int48 (v.toNat % 2 ^ 48)
    (s.writeBar false false (pg .contrail 0) 0x1D0 v = none → s.calm (fun t => t.setBucket g c { b with bal := x }) →
      exec (.bkBalanceWrite 0 v) s = .next (s.entry.setBucket g c { b with bal := x })) ∧
    (s.writeBar false false (pg .contrail 0) 0x1D8 v = none → -(2 ^ 47) ≤ b.bal + x → b.bal + x < 2 ^ 47 →
      s.calm (fun t => t.setBucket g c { b with bal := b.bal + x }) →
      exec (.bkCredit 0 v) s = .next (s.entry.setBucket g c { b with bal := b.bal + x })) ∧
    (s.writeBar false false (pg .contrail 0) 0x1D8 v = none → ¬ (-(2 ^ 47) ≤ b.bal + x ∧ b.bal + x < 2 ^ 47) →
      ∃ y : Int, exec (.bkCredit 0 v) s =
        .next (s.ran fun t => { t.setBucket g c { b with bal := y } with freeCtr := s.freeCtr + 1 }))

/-! ### Links, fabric and control transport -/

/-- ACCEPT while the link is not QUARANTINED, or while its own cause is REVISION or TRUNK, is refused with ILLEGAL_STATE, which CTRL_STATUS
takes; nothing else changes. -/
def Obligations.AcceptRefused : Prop :=
  ∀ (s : State) (l : Nat) (v : Word), l < 24 → s.powered = true → v.getLsbD 0 = false → v.getLsbD 2 = false → bits v 11 8 ≤ 7 →
    s.writeBar false false (pg .flink l) 0x138 (v ||| BitVec.ofNat 64 2) = none →
    (s.lst l ≠ .quarantined ∨ s.rd (pg .flink l) F.FLINK.QUAR_CAUSE = 3 ∨ s.rd (pg .flink l) F.FLINK.QUAR_CAUSE = 4) →
    s.calm (fun t => (t.wr (pg .flink l) F.FLINK.CTRL_STATUS Status.illegalState.code).answer .illegalState) →
    exec (.accept l v) s = .next ((s.entry.wr (pg .flink l) F.FLINK.CTRL_STATUS Status.illegalState.code).answer .illegalState)

/-- REQ_TIMEOUT of 0 is refused with BAD_ARG on either FROUTER page; any other write of the word stores its RW fields for both pages. -/
def Obligations.FrCfgWrite : Prop :=
  ∀ (s : State) (co keys : Bool) (k : Nat) (v : Word), k < 2 → s.powered = true → s.writeBar co keys (pg .frouter k) 0x120 v = none →
    (bits v 15 0 = 0 → s.quiet s.faultL = true →
      exec (.regWrite co keys (pg .frouter k) 0x120 v) s = .next { s with out := [], ret := .badArg }) ∧
    (bits v 15 0 ≠ 0 → s.calm (fun t => t.setReg 0 (pg .frouter 0) 0x120 (s.merged (pg .frouter k) 0x120 v)) →
      exec (.regWrite co keys (pg .frouter k) 0x120 v) s = .next (s.entry.setReg 0 (pg .frouter 0) 0x120 (s.merged (pg .frouter k) 0x120 v)))

/-- A message on a session index that is not established has no effect (15 of the spec: a session that is not established sends nothing). -/
def Obligations.SessionlessMessagesIgnored : Prop :=
  ∀ (c : Instr) (s : State) (m : Msg) (es : List MemErr), msgForm c = some (m, es) → s.powered = true → s.established m.session = false →
    exec c s = .next (s.ran id) ∧ (s.quiet s.faultL = true → exec c s = .next s.entry)

/-- A dynamic address assigned to the I3C target is taken while the target is up (from stage FIRMWARE on), and nothing else changes. -/
def Obligations.I3cAddress : Prop :=
  ∀ (s : State) (a : Nat), a < 128 → s.i3cUp = true → s.calm (fun t => { t with pins := { s.pins with i3c := a } }) →
    exec (.i3cAddrAssign a) s = .next { s.entry with pins := { s.pins with i3c := a } }
end

