-- ==== Sys2Proof/Laws/Quiet.lean ====
section
/-! SUPPORT. In a quiet state nothing follows from a command: `State.after` leaves it as it is. -/

namespace Sys2Proof.Machine

theorem forEach_nil {α : Type} (f : α → State → State) (s : State) : forEach [] f s = s := rfl
theorem forEach_cons {α : Type} (x : α) (l : List α) (f : α → State → State) (s : State) : forEach (x :: l) f s = forEach l f (f x s) := rfl
/-- What every element leaves as it is, all of them do. -/
theorem forEach_fix {α : Type} (l : List α) (f : α → State → State) (s : State) (h : ∀ x ∈ l, f x s = s) : forEach l f s = s := by
  induction l with
  | nil => rfl
  | cons x t ih =>
    rw [forEach_cons, h x (List.mem_cons_self ..)]
    exact ih fun y hy => h y (List.mem_cons_of_mem _ hy)
/-- What every element keeps, all of them do. -/
theorem forEach_keeps {α : Type} (P : State → Prop) (l : List α) (f : α → State → State) (h : ∀ x s, P s → P (f x s)) (s : State) (hs : P s) :
    P (forEach l f s) := by
  induction l generalizing s with
  | nil => exact hs
  | cons x t ih => rw [forEach_cons]; exact ih _ (h x s hs)

section
variable {s : State}

theorem State.dueTests_fix (h : ∀ x ∈ s.uaux, x.2.due = []) : s.dueTests = s := by
  rw [State.dueTests, List.filter_eq_nil_iff.2 fun x hx => by rw [h x hx]; exact Bool.false_ne_true]
  rfl
theorem State.homePump_fix (h : s.fab.held = []) : s.homePump = s := by
  rw [State.homePump, h]; rfl
theorem State.pumpWait_fix (h : s.fab.wait = []) (n : Nat) : s.pumpWait n = s := by
  cases n with
  | zero => rfl
  | succ n => rw [State.pumpWait, h]; rfl
theorem State.deliverAll_fix (h : s.fab.done = []) (n : Nat) : s.deliverAll n = s := by
  cases n with
  | zero => rfl
  | succ n => rw [State.deliverAll, h]; rfl
theorem State.seqPump_fix (h : s.seqWait = []) (n : Nat) : s.seqPump n = s := by
  cases n with
  | zero => rfl
  | succ n => rw [State.seqPump, h]; rfl
theorem State.grantPump_fix (h : s.seqWait = []) (n : Nat) : s.grantPump n = s := by
  cases n with
  | zero => rfl
  | succ n => rw [State.grantPump, h]; rfl
theorem State.dpPump_fix (h : s.seqWait = []) (n : Nat) : s.dpPump n = s := by
  cases n with
  | zero => rfl
  | succ n => rw [State.dpPump, h]; rfl
theorem State.poolPump_fix {g : Nat} (h : s.poolDue g = false) : s.poolPump g = s := by
  rw [State.poolPump, h]; rfl
theorem State.drainSettle_fix (h : s.drainEnds = []) : s.drainSettle = s := by rw [State.drainSettle, h]; rfl
theorem State.sqPump_fix {k : Nat} (hf : (s.squ k).forward = []) (hj : (s.squ k).jobs = []) : s.sqPump k = s := by
  have e : s.sqForward k = s := by rw [State.sqForward]; exact forEach_fix _ _ s (by rw [hf]; simp)
  rw [State.sqPump, e]
  exact forEach_fix _ _ s (by rw [hj]; simp)
theorem State.raSettle_fix (h : s.remote = []) : s.raSettle = s := by rw [State.raSettle, h]; rfl
theorem State.ppsSettle_fix (h : s.pins.ppsHigh = false) : s.ppsSettle = s := by rw [State.ppsSettle, h]; rfl
theorem late_nil (h : s.late = []) : ({ s with late := [] } : State) = s := by rw [← h]
theorem State.gctNext_none (hs : ∀ x ∈ s.sessions, x.2.queue = []) (full : List Nat) : s.gctNext full = none := by
  rw [State.gctNext, List.filterMap_eq_nil_iff.2 fun x hx => by rw [hs x hx]]
  rfl
theorem State.gctPump_fix (hl : s.late = []) (hs : ∀ x ∈ s.sessions, x.2.queue = []) : s.gctPump = s := by
  rw [State.gctPump, hl]
  simp only [forEach_nil]
  rw [late_nil hl, State.gctPumpAll, State.gctNext_none hs]
theorem State.akEnd_fix (h : ∀ x ∈ s.sessions, (x.2.st == .up && x.2.ak == 16) = false) : s.akEnd = s := by
  rw [State.akEnd, List.filter_eq_nil_iff.2 fun x hx => by rw [h x hx]; exact Bool.false_ne_true]
  rfl
theorem State.ibiSettle_fix {was : Bool} (h : (was || !s.faultL || decide (s.bstage < 6)) = true) : s.ibiSettle was = s := by
  rw [State.ibiSettle, if_neg]
  intro e
  simp only [Bool.and_eq_true, Bool.not_eq_true', decide_eq_true_eq] at e
  simp only [e.1.1.1, e.1.1.2, Bool.false_or, Bool.not_true, decide_eq_true_eq] at h
  omega
theorem State.lostSettle_fix (h0 : s.rd frp F.FROUTER.LOST0 = 0) (h1 : s.rd frp F.FROUTER.LOST1 = 0) : s.lostSettle = s := by
  rw [State.lostSettle, if_pos]
  rw [h0, h1]; rfl
theorem State.stepSettle_fix {g : Nat} (ho : s.openOf g = none) (hh : s.on (pg .stepseq g) F.COM.HALT = false)
    (hd : (s.stored (pg .stepseq g) == .draining) = false) : s.stepSettle g = s := by
  simp only [State.stepSettle, ho, hh, hd, Bool.false_and, Bool.false_eq_true, if_false]

/-- What the definition of a quiet state says, part by part. -/
structure IsQuiet (s : State) (was : Bool) : Prop where
  held : s.fab.held = []
  wait : s.fab.wait = []
  done : s.fab.done = []
  lost0 : s.rd frp F.FROUTER.LOST0 = 0
  lost1 : s.rd frp F.FROUTER.LOST1 = 0
  steps : ∀ g < 8, s.openOf g = none ∧ s.heldOf g = [] ∧ s.on (pg .stepseq g) F.COM.HALT = false
    ∧ (s.stored (pg .stepseq g) == .draining) = false
  seqWait : s.seqWait = []
  remote : s.remote = []
  squall : ∀ k ∈ [0, 1], (s.squ k).jobs = [] ∧ (s.squ k).forward = []
  pools : ∀ g < 8, s.poolDue g = false
  drains : s.drainEnds = []
  parts : s.partsOn = []
  pps : s.pins.ppsHigh = false
  late : s.late = []
  tests : ∀ x ∈ s.uaux, x.2.due = []
  queues : ∀ x ∈ s.sessions, x.2.queue = []
  keys : ∀ x ∈ s.sessions, (x.2.st == .up && x.2.ak == 16) = false
  fault : (was || !s.faultL || decide (s.bstage < 6)) = true

theorem State.quiet_iff (was : Bool) : s.quiet was = true ↔ IsQuiet s was := by
  constructor
  · intro h
    simp only [State.quiet, Bool.and_eq_true, List.isEmpty_iff, beq_iff_eq, List.all_eq_true, List.mem_range, Bool.not_eq_true',
      Option.isNone_iff_eq_none] at h
    obtain ⟨⟨⟨⟨⟨⟨⟨⟨⟨⟨⟨⟨⟨⟨⟨⟨h1, h2⟩, h3⟩, h4⟩, h5⟩, h6⟩, h7⟩, h8⟩, h9⟩, p1⟩, p2⟩, h10⟩, h11⟩, h12⟩, ht⟩, h13⟩, h14⟩ := h
    simp only [Prod.forall] at h13
    refine ⟨h1, h2, h3, h4, h5, fun g hg => ?_, h7, h8, h9, p1, p2, h10, h11, h12, ht, fun x hx => (h13 x.1 x.2 hx).1, fun x hx => (h13 x.1 x.2 hx).2, h14⟩
    obtain ⟨⟨a, b⟩, c⟩ := h6 g hg
    refine ⟨a, ?_, ?_, ?_⟩
    · exact List.length_eq_zero_iff.1 (by omega)
    · cases hh : s.on (pg .stepseq g) F.COM.HALT
      · rfl
      · rw [hh] at b; simp at b
    · exact Bool.eq_false_iff.2 (by simpa using c)
  · intro h
    simp only [State.quiet, Bool.and_eq_true, List.isEmpty_iff, beq_iff_eq, List.all_eq_true, List.mem_range, Bool.not_eq_true',
      Option.isNone_iff_eq_none]
    refine ⟨⟨⟨⟨⟨⟨⟨⟨⟨⟨⟨⟨⟨⟨⟨⟨h.held, h.wait⟩, h.done⟩, h.lost0⟩, h.lost1⟩, fun g hg => ?_⟩, h.seqWait⟩, h.remote⟩, h.squall⟩, h.pools⟩, h.drains⟩,
      h.parts⟩, h.pps⟩, h.late⟩, h.tests⟩, fun x hx => ⟨h.queues x hx, h.keys x hx⟩⟩, h.fault⟩
    obtain ⟨a, b, c, d⟩ := h.steps g hg
    refine ⟨⟨a, ?_⟩, ?_⟩
    · rw [b, c]; rfl
    · rw [bne, d]; rfl

/-- One pass leaves a quiet state. -/
theorem State.settleOnce_quiet {was : Bool} (h : IsQuiet s was) : s.settleOnce = s := by
  rw [State.settleOnce]
  simp only [State.dueTests_fix h.tests, State.homePump_fix h.held]
  simp only [State.pumpWait_fix h.wait, State.deliverAll_fix h.done, State.lostSettle_fix h.lost0 h.lost1]
  rw [forEach_fix (List.range 8) _ s fun g hg => by
    obtain ⟨a, _, c, d⟩ := h.steps g (List.mem_range.1 hg)
    simp only [a, State.stepSettle_fix a c d]]
  simp only [State.seqPump_fix h.seqWait, State.grantPump_fix h.seqWait, State.dpPump_fix h.seqWait]
  rw [forEach_fix (List.range 8) _ s fun g hg => State.poolPump_fix (h.pools g (List.mem_range.1 hg))]
  exact forEach_fix _ _ s fun k hk => State.sqPump_fix (h.squall k hk).2 (h.squall k hk).1

/-- A quiet state is settled. -/
theorem State.settled_quiet {was : Bool} (h : IsQuiet s was) : s.settled = true := by
  rw [State.settled, h.done, List.all_eq_true.2 fun x hx => by rw [h.tests x hx]; rfl]
  rfl

/-- Nothing follows from a command in a quiet state. -/
theorem State.after_quiet {was : Bool} (h : s.quiet was = true) : s.after was = s := by
  have q := (State.quiet_iff was).1 h
  have e : s.settleAll 64 = s := by
    show (let t := s.settleOnce; if t.settled then t else t.settleAll 63) = s
    simp only [State.settleOnce_quiet q, State.settled_quiet q, if_true]
  rw [State.after, e, State.drainSettle_fix q.drains, State.raSettle_fix q.remote, q.parts, forEach_nil, State.ppsSettle_fix q.pps, State.gctPump_fix q.late q.queues,
    State.akEnd_fix q.keys, State.ibiSettle_fix q.fault]

end

end Sys2Proof.Machine
end

