-- ==== Sys2Proof/Laws/Cold.lean ====
section
/-! SUPPORT. After a loss of the supply nothing waits: the state that a cold reset leaves is quiet. -/

namespace Sys2Proof.Machine

/-- The reset value of a register, from the unit that its page holds. -/
theorem regReset_key (c : PkgCfg) {p off : Nat} {t : UType} {k : Nat} : p < 2 ^ 20 → off < 4096 → unitOf p = some (t, k) →
    regReset c (regKey 0 p off) =
      if off < 0x100 then
        match off with
        | 0x018 => if t = .tile || t = .gang then 0x20010 else 0x10
        | 0x020 => BitVec.ofNat 64 (resetState c t k).code
        | 0x030 => BitVec.ofNat 64 (evtMaskReset t)
        | _ => 0
      else match specialReset c t k off with
        | some v => BitVec.ofNat 64 v
        | none => match findRow t off with | some r => BitVec.ofNat 64 r.rst | none => 0 := by
  intro hp ho h
  have e1 : regKey 0 p off % 4096 = off := by unfold regKey; omega
  have e2 : regKey 0 p off / 4096 % 2 ^ 20 = p := by unfold regKey; omega
  (rw [regReset, e1, e2, h]) <;> rfl

/-- No field of a register that resets to 0 is set. -/
theorem bits_zero (hi lo : Nat) : bits 0 hi lo = 0 := by simp [bits]

/-- A field of a state whose register table is empty has its reset value. -/
theorem State.rd_empty {s : State} (h : s.regs = []) (p : Nat) (f : Fld) : s.rd p f = bits (regReset s.cfg (regKey 0 p f.off)) f.hi f.lo := by
  rw [State.rd, State.rdB, State.reg, h]; rfl

section
variable {s : State} (h : s.regs = [])
include h

theorem State.lost_empty : s.rd frp F.FROUTER.LOST0 = 0 ∧ s.rd frp F.FROUTER.LOST1 = 0 := by
  have hu : unitOf frp = some (.frouter, 0) := by decide
  rw [State.rd_empty h, State.rd_empty h, regReset_key _ (by decide) (by decide) hu, regReset_key _ (by decide) (by decide) hu]
  exact ⟨bits_zero .., bits_zero ..⟩
theorem State.halt_empty {g : Nat} (hg : g < 8) : s.on (pg .stepseq g) F.COM.HALT = false := by
  have hu : ∀ g < 8, unitOf (pg .stepseq g) = some (.stepseq, g) ∧ pg .stepseq g < 2 ^ 20 := by decide
  rw [State.on, State.rd_empty h, regReset_key _ (hu g hg).2 (by decide) (hu g hg).1]
  show (bits 0x10 F.COM.HALT.hi F.COM.HALT.lo == 1) = false
  decide
theorem State.stepseq_empty {g : Nat} (hg : g < 8) : s.stored (pg .stepseq g) = .offline := by
  have hu : ∀ g < 8, unitOf (pg .stepseq g) = some (.stepseq, g) ∧ pg .stepseq g < 2 ^ 20 := by decide
  rw [State.stored, State.rd_empty h, regReset_key _ (hu g hg).2 (by decide) (hu g hg).1]
  show UState.ofCode (bits 1 F.COM.STATE.hi F.COM.STATE.lo) = .offline
  decide
theorem State.parts_empty : s.partsOn = [] := by
  have hu : ∀ g < 64, unitOf (pg .partition g) = some (.partition, g) ∧ pg .partition g < 2 ^ 20 := by decide
  rw [State.partsOn, List.filter_eq_nil_iff]
  intro g hg
  have hg := List.mem_range.1 hg
  rw [State.stored, State.rd_empty h, regReset_key _ (hu g hg).2 (by decide) (hu g hg).1]
  show ¬ (UState.ofCode (bits 1 F.COM.STATE.hi F.COM.STATE.lo) != .offline) = true
  decide

end

/-- A state that a cold reset leaves is quiet, but for FAULT_L. -/
theorem State.cold_quiet (s : State) (was : Bool) (h : (was || !s.cold.faultL || decide (s.cold.bstage < 6)) = true) : s.cold.quiet was = true := by
  have hr : s.cold.regs = [] := rfl
  rw [State.quiet_iff]
  refine ⟨rfl, rfl, rfl, (State.lost_empty hr).1, (State.lost_empty hr).2, fun g hg => ?_, rfl, rfl, fun k _ => ⟨rfl, rfl⟩, fun g _ => ?_, rfl,
    State.parts_empty hr, rfl, rfl, (fun x hx => by cases hx), (fun x hx => by cases hx), (fun x hx => by cases hx), h⟩
  · exact ⟨rfl, rfl, State.halt_empty hr hg, by rw [State.stepseq_empty hr hg]; rfl⟩
  · have e : s.cold.pl g = PoolSt.init := rfl
    rw [State.poolDue, State.lowNow, State.isLow, e]; rfl

/-- BOOT stands in stage FUSE after a cold reset. -/
theorem State.cold_bstage (s : State) : s.cold.bstage = 0 := by
  have hr : s.cold.regs = [] := rfl
  have hu : unitOf bootPg = some (.boot, 0) := by decide
  rw [State.bstage, State.rd_empty hr, regReset_key _ (by decide) (by decide) hu]
  show bits 0 F.BOOT.BOOT_STAGE.hi F.BOOT.BOOT_STAGE.lo = 0
  decide

end Sys2Proof.Machine
end

