-- ==== Sys2Proof/Laws/State.lean ====
section
/-! SUPPORT. What each basic update of the state leaves: one lemma for each field. -/

namespace Sys2Proof.Machine

/-! Registers: the update is stated first for any new register table, so that no proof looks into the table. -/

theorem State.regs_upd_cfg (s : State) (r : List (Nat × Word)) : ({ s with regs := r } : State).cfg = s.cfg := rfl
@[simp] theorem State.setReg_cfg (s : State) (bank p off : Nat) (v : Word) : (s.setReg bank p off v).cfg = s.cfg := State.regs_upd_cfg s _
theorem State.regs_upd_mem (s : State) (r : List (Nat × Word)) : ({ s with regs := r } : State).mem = s.mem := rfl
@[simp] theorem State.setReg_mem (s : State) (bank p off : Nat) (v : Word) : (s.setReg bank p off v).mem = s.mem := State.regs_upd_mem s _
theorem State.regs_upd_poison (s : State) (r : List (Nat × Word)) : ({ s with regs := r } : State).poison = s.poison := rfl
@[simp] theorem State.setReg_poison (s : State) (bank p off : Nat) (v : Word) : (s.setReg bank p off v).poison = s.poison := State.regs_upd_poison s _
theorem State.regs_upd_seqs (s : State) (r : List (Nat × Word)) : ({ s with regs := r } : State).seqs = s.seqs := rfl
@[simp] theorem State.setReg_seqs (s : State) (bank p off : Nat) (v : Word) : (s.setReg bank p off v).seqs = s.seqs := State.regs_upd_seqs s _
theorem State.regs_upd_tiles (s : State) (r : List (Nat × Word)) : ({ s with regs := r } : State).tiles = s.tiles := rfl
@[simp] theorem State.setReg_tiles (s : State) (bank p off : Nat) (v : Word) : (s.setReg bank p off v).tiles = s.tiles := State.regs_upd_tiles s _
theorem State.regs_upd_halos (s : State) (r : List (Nat × Word)) : ({ s with regs := r } : State).halos = s.halos := rfl
@[simp] theorem State.setReg_halos (s : State) (bank p off : Nat) (v : Word) : (s.setReg bank p off v).halos = s.halos := State.regs_upd_halos s _
theorem State.regs_upd_gmems (s : State) (r : List (Nat × Word)) : ({ s with regs := r } : State).gmems = s.gmems := rfl
@[simp] theorem State.setReg_gmems (s : State) (bank p off : Nat) (v : Word) : (s.setReg bank p off v).gmems = s.gmems := State.regs_upd_gmems s _
theorem State.regs_upd_cache (s : State) (r : List (Nat × Word)) : ({ s with regs := r } : State).cache = s.cache := rfl
@[simp] theorem State.setReg_cache (s : State) (bank p off : Nat) (v : Word) : (s.setReg bank p off v).cache = s.cache := State.regs_upd_cache s _
theorem State.regs_upd_pools (s : State) (r : List (Nat × Word)) : ({ s with regs := r } : State).pools = s.pools := rfl
@[simp] theorem State.setReg_pools (s : State) (bank p off : Nat) (v : Word) : (s.setReg bank p off v).pools = s.pools := State.regs_upd_pools s _
theorem State.regs_upd_links (s : State) (r : List (Nat × Word)) : ({ s with regs := r } : State).links = s.links := rfl
@[simp] theorem State.setReg_links (s : State) (bank p off : Nat) (v : Word) : (s.setReg bank p off v).links = s.links := State.regs_upd_links s _
theorem State.regs_upd_fab (s : State) (r : List (Nat × Word)) : ({ s with regs := r } : State).fab = s.fab := rfl
@[simp] theorem State.setReg_fab (s : State) (bank p off : Nat) (v : Word) : (s.setReg bank p off v).fab = s.fab := State.regs_upd_fab s _
theorem State.regs_upd_uds (s : State) (r : List (Nat × Word)) : ({ s with regs := r } : State).uds = s.uds := rfl
@[simp] theorem State.setReg_uds (s : State) (bank p off : Nat) (v : Word) : (s.setReg bank p off v).uds = s.uds := State.regs_upd_uds s _
theorem State.regs_upd_steps (s : State) (r : List (Nat × Word)) : ({ s with regs := r } : State).steps = s.steps := rfl
@[simp] theorem State.setReg_steps (s : State) (bank p off : Nat) (v : Word) : (s.setReg bank p off v).steps = s.steps := State.regs_upd_steps s _
theorem State.regs_upd_squalls (s : State) (r : List (Nat × Word)) : ({ s with regs := r } : State).squalls = s.squalls := rfl
@[simp] theorem State.setReg_squalls (s : State) (bank p off : Nat) (v : Word) : (s.setReg bank p off v).squalls = s.squalls := State.regs_upd_squalls s _
theorem State.regs_upd_slots (s : State) (r : List (Nat × Word)) : ({ s with regs := r } : State).slots = s.slots := rfl
@[simp] theorem State.setReg_slots (s : State) (bank p off : Nat) (v : Word) : (s.setReg bank p off v).slots = s.slots := State.regs_upd_slots s _
theorem State.regs_upd_buckets (s : State) (r : List (Nat × Word)) : ({ s with regs := r } : State).buckets = s.buckets := rfl
@[simp] theorem State.setReg_buckets (s : State) (bank p off : Nat) (v : Word) : (s.setReg bank p off v).buckets = s.buckets := State.regs_upd_buckets s _
theorem State.regs_upd_seqWait (s : State) (r : List (Nat × Word)) : ({ s with regs := r } : State).seqWait = s.seqWait := rfl
@[simp] theorem State.setReg_seqWait (s : State) (bank p off : Nat) (v : Word) : (s.setReg bank p off v).seqWait = s.seqWait := State.regs_upd_seqWait s _
theorem State.regs_upd_remote (s : State) (r : List (Nat × Word)) : ({ s with regs := r } : State).remote = s.remote := rfl
@[simp] theorem State.setReg_remote (s : State) (bank p off : Nat) (v : Word) : (s.setReg bank p off v).remote = s.remote := State.regs_upd_remote s _
theorem State.regs_upd_busy (s : State) (r : List (Nat × Word)) : ({ s with regs := r } : State).busy = s.busy := rfl
@[simp] theorem State.setReg_busy (s : State) (bank p off : Nat) (v : Word) : (s.setReg bank p off v).busy = s.busy := State.regs_upd_busy s _
theorem State.regs_upd_tables (s : State) (r : List (Nat × Word)) : ({ s with regs := r } : State).tables = s.tables := rfl
@[simp] theorem State.setReg_tables (s : State) (bank p off : Nat) (v : Word) : (s.setReg bank p off v).tables = s.tables := State.regs_upd_tables s _
theorem State.regs_upd_gangOrder (s : State) (r : List (Nat × Word)) : ({ s with regs := r } : State).gangOrder = s.gangOrder := rfl
@[simp] theorem State.setReg_gangOrder (s : State) (bank p off : Nat) (v : Word) : (s.setReg bank p off v).gangOrder = s.gangOrder := State.regs_upd_gangOrder s _
theorem State.regs_upd_subs (s : State) (r : List (Nat × Word)) : ({ s with regs := r } : State).subs = s.subs := rfl
@[simp] theorem State.setReg_subs (s : State) (bank p off : Nat) (v : Word) : (s.setReg bank p off v).subs = s.subs := State.regs_upd_subs s _
theorem State.regs_upd_sessions (s : State) (r : List (Nat × Word)) : ({ s with regs := r } : State).sessions = s.sessions := rfl
@[simp] theorem State.setReg_sessions (s : State) (bank p off : Nat) (v : Word) : (s.setReg bank p off v).sessions = s.sessions := State.regs_upd_sessions s _
theorem State.regs_upd_late (s : State) (r : List (Nat × Word)) : ({ s with regs := r } : State).late = s.late := rfl
@[simp] theorem State.setReg_late (s : State) (bank p off : Nat) (v : Word) : (s.setReg bank p off v).late = s.late := State.regs_upd_late s _
theorem State.regs_upd_uaux (s : State) (r : List (Nat × Word)) : ({ s with regs := r } : State).uaux = s.uaux := rfl
@[simp] theorem State.setReg_uaux (s : State) (bank p off : Nat) (v : Word) : (s.setReg bank p off v).uaux = s.uaux := State.regs_upd_uaux s _
theorem State.regs_upd_rtu (s : State) (r : List (Nat × Word)) : ({ s with regs := r } : State).rtu = s.rtu := rfl
@[simp] theorem State.setReg_rtu (s : State) (bank p off : Nat) (v : Word) : (s.setReg bank p off v).rtu = s.rtu := State.regs_upd_rtu s _
theorem State.regs_upd_flash (s : State) (r : List (Nat × Word)) : ({ s with regs := r } : State).flash = s.flash := rfl
@[simp] theorem State.setReg_flash (s : State) (bank p off : Nat) (v : Word) : (s.setReg bank p off v).flash = s.flash := State.regs_upd_flash s _
theorem State.regs_upd_pw (s : State) (r : List (Nat × Word)) : ({ s with regs := r } : State).pw = s.pw := rfl
@[simp] theorem State.setReg_pw (s : State) (bank p off : Nat) (v : Word) : (s.setReg bank p off v).pw = s.pw := State.regs_upd_pw s _
theorem State.regs_upd_pins (s : State) (r : List (Nat × Word)) : ({ s with regs := r } : State).pins = s.pins := rfl
@[simp] theorem State.setReg_pins (s : State) (bank p off : Nat) (v : Word) : (s.setReg bank p off v).pins = s.pins := State.regs_upd_pins s _
theorem State.regs_upd_clk (s : State) (r : List (Nat × Word)) : ({ s with regs := r } : State).clk = s.clk := rfl
@[simp] theorem State.setReg_clk (s : State) (bank p off : Nat) (v : Word) : (s.setReg bank p off v).clk = s.clk := State.regs_upd_clk s _
theorem State.regs_upd_saved (s : State) (r : List (Nat × Word)) : ({ s with regs := r } : State).saved = s.saved := rfl
@[simp] theorem State.setReg_saved (s : State) (bank p off : Nat) (v : Word) : (s.setReg bank p off v).saved = s.saved := State.regs_upd_saved s _
theorem State.regs_upd_sas (s : State) (r : List (Nat × Word)) : ({ s with regs := r } : State).sas = s.sas := rfl
@[simp] theorem State.setReg_sas (s : State) (bank p off : Nat) (v : Word) : (s.setReg bank p off v).sas = s.sas := State.regs_upd_sas s _
theorem State.regs_upd_out (s : State) (r : List (Nat × Word)) : ({ s with regs := r } : State).out = s.out := rfl
@[simp] theorem State.setReg_out (s : State) (bank p off : Nat) (v : Word) : (s.setReg bank p off v).out = s.out := State.regs_upd_out s _
theorem State.regs_upd_ret (s : State) (r : List (Nat × Word)) : ({ s with regs := r } : State).ret = s.ret := rfl
@[simp] theorem State.setReg_ret (s : State) (bank p off : Nat) (v : Word) : (s.setReg bank p off v).ret = s.ret := State.regs_upd_ret s _
theorem State.regs_upd_freeCtr (s : State) (r : List (Nat × Word)) : ({ s with regs := r } : State).freeCtr = s.freeCtr := rfl
@[simp] theorem State.setReg_freeCtr (s : State) (bank p off : Nat) (v : Word) : (s.setReg bank p off v).freeCtr = s.freeCtr := State.regs_upd_freeCtr s _
theorem State.regs_upd_pending (s : State) (r : List (Nat × Word)) : ({ s with regs := r } : State).pending = s.pending := rfl
@[simp] theorem State.setReg_pending (s : State) (bank p off : Nat) (v : Word) : (s.setReg bank p off v).pending = s.pending := State.regs_upd_pending s _

@[simp] theorem State.answer_cfg (s : State) (st : Status) : (s.answer st).cfg = s.cfg := by simp only [State.answer]
@[simp] theorem State.answer_regs (s : State) (st : Status) : (s.answer st).regs = s.regs := by simp only [State.answer]
@[simp] theorem State.answer_mem (s : State) (st : Status) : (s.answer st).mem = s.mem := by simp only [State.answer]
@[simp] theorem State.answer_poison (s : State) (st : Status) : (s.answer st).poison = s.poison := by simp only [State.answer]
@[simp] theorem State.answer_seqs (s : State) (st : Status) : (s.answer st).seqs = s.seqs := by simp only [State.answer]
@[simp] theorem State.answer_tiles (s : State) (st : Status) : (s.answer st).tiles = s.tiles := by simp only [State.answer]
@[simp] theorem State.answer_halos (s : State) (st : Status) : (s.answer st).halos = s.halos := by simp only [State.answer]
@[simp] theorem State.answer_gmems (s : State) (st : Status) : (s.answer st).gmems = s.gmems := by simp only [State.answer]
@[simp] theorem State.answer_cache (s : State) (st : Status) : (s.answer st).cache = s.cache := by simp only [State.answer]
@[simp] theorem State.answer_pools (s : State) (st : Status) : (s.answer st).pools = s.pools := by simp only [State.answer]
@[simp] theorem State.answer_links (s : State) (st : Status) : (s.answer st).links = s.links := by simp only [State.answer]
@[simp] theorem State.answer_fab (s : State) (st : Status) : (s.answer st).fab = s.fab := by simp only [State.answer]
@[simp] theorem State.answer_uds (s : State) (st : Status) : (s.answer st).uds = s.uds := by simp only [State.answer]
@[simp] theorem State.answer_steps (s : State) (st : Status) : (s.answer st).steps = s.steps := by simp only [State.answer]
@[simp] theorem State.answer_squalls (s : State) (st : Status) : (s.answer st).squalls = s.squalls := by simp only [State.answer]
@[simp] theorem State.answer_slots (s : State) (st : Status) : (s.answer st).slots = s.slots := by simp only [State.answer]
@[simp] theorem State.answer_buckets (s : State) (st : Status) : (s.answer st).buckets = s.buckets := by simp only [State.answer]
@[simp] theorem State.answer_seqWait (s : State) (st : Status) : (s.answer st).seqWait = s.seqWait := by simp only [State.answer]
@[simp] theorem State.answer_remote (s : State) (st : Status) : (s.answer st).remote = s.remote := by simp only [State.answer]
@[simp] theorem State.answer_busy (s : State) (st : Status) : (s.answer st).busy = s.busy := by simp only [State.answer]
@[simp] theorem State.answer_tables (s : State) (st : Status) : (s.answer st).tables = s.tables := by simp only [State.answer]
@[simp] theorem State.answer_gangOrder (s : State) (st : Status) : (s.answer st).gangOrder = s.gangOrder := by simp only [State.answer]
@[simp] theorem State.answer_subs (s : State) (st : Status) : (s.answer st).subs = s.subs := by simp only [State.answer]
@[simp] theorem State.answer_sessions (s : State) (st : Status) : (s.answer st).sessions = s.sessions := by simp only [State.answer]
@[simp] theorem State.answer_late (s : State) (st : Status) : (s.answer st).late = s.late := by simp only [State.answer]
@[simp] theorem State.answer_uaux (s : State) (st : Status) : (s.answer st).uaux = s.uaux := by simp only [State.answer]
@[simp] theorem State.answer_rtu (s : State) (st : Status) : (s.answer st).rtu = s.rtu := by simp only [State.answer]
@[simp] theorem State.answer_flash (s : State) (st : Status) : (s.answer st).flash = s.flash := by simp only [State.answer]
@[simp] theorem State.answer_pw (s : State) (st : Status) : (s.answer st).pw = s.pw := by simp only [State.answer]
@[simp] theorem State.answer_pins (s : State) (st : Status) : (s.answer st).pins = s.pins := by simp only [State.answer]
@[simp] theorem State.answer_clk (s : State) (st : Status) : (s.answer st).clk = s.clk := by simp only [State.answer]
@[simp] theorem State.answer_saved (s : State) (st : Status) : (s.answer st).saved = s.saved := by simp only [State.answer]
@[simp] theorem State.answer_sas (s : State) (st : Status) : (s.answer st).sas = s.sas := by simp only [State.answer]
@[simp] theorem State.answer_out (s : State) (st : Status) : (s.answer st).out = s.out := by simp only [State.answer]
@[simp] theorem State.answer_freeCtr (s : State) (st : Status) : (s.answer st).freeCtr = s.freeCtr := by simp only [State.answer]
@[simp] theorem State.answer_pending (s : State) (st : Status) : (s.answer st).pending = s.pending := by simp only [State.answer]

@[simp] theorem State.setByte_cfg (s : State) (a : Nat) (v : Byte) : (s.setByte a v).cfg = s.cfg := by simp only [State.setByte]
@[simp] theorem State.setByte_regs (s : State) (a : Nat) (v : Byte) : (s.setByte a v).regs = s.regs := by simp only [State.setByte]
@[simp] theorem State.setByte_poison (s : State) (a : Nat) (v : Byte) : (s.setByte a v).poison = s.poison := by simp only [State.setByte]
@[simp] theorem State.setByte_seqs (s : State) (a : Nat) (v : Byte) : (s.setByte a v).seqs = s.seqs := by simp only [State.setByte]
@[simp] theorem State.setByte_tiles (s : State) (a : Nat) (v : Byte) : (s.setByte a v).tiles = s.tiles := by simp only [State.setByte]
@[simp] theorem State.setByte_halos (s : State) (a : Nat) (v : Byte) : (s.setByte a v).halos = s.halos := by simp only [State.setByte]
@[simp] theorem State.setByte_gmems (s : State) (a : Nat) (v : Byte) : (s.setByte a v).gmems = s.gmems := by simp only [State.setByte]
@[simp] theorem State.setByte_cache (s : State) (a : Nat) (v : Byte) : (s.setByte a v).cache = s.cache := by simp only [State.setByte]
@[simp] theorem State.setByte_pools (s : State) (a : Nat) (v : Byte) : (s.setByte a v).pools = s.pools := by simp only [State.setByte]
@[simp] theorem State.setByte_links (s : State) (a : Nat) (v : Byte) : (s.setByte a v).links = s.links := by simp only [State.setByte]
@[simp] theorem State.setByte_fab (s : State) (a : Nat) (v : Byte) : (s.setByte a v).fab = s.fab := by simp only [State.setByte]
@[simp] theorem State.setByte_uds (s : State) (a : Nat) (v : Byte) : (s.setByte a v).uds = s.uds := by simp only [State.setByte]
@[simp] theorem State.setByte_steps (s : State) (a : Nat) (v : Byte) : (s.setByte a v).steps = s.steps := by simp only [State.setByte]
@[simp] theorem State.setByte_squalls (s : State) (a : Nat) (v : Byte) : (s.setByte a v).squalls = s.squalls := by simp only [State.setByte]
@[simp] theorem State.setByte_slots (s : State) (a : Nat) (v : Byte) : (s.setByte a v).slots = s.slots := by simp only [State.setByte]
@[simp] theorem State.setByte_buckets (s : State) (a : Nat) (v : Byte) : (s.setByte a v).buckets = s.buckets := by simp only [State.setByte]
@[simp] theorem State.setByte_seqWait (s : State) (a : Nat) (v : Byte) : (s.setByte a v).seqWait = s.seqWait := by simp only [State.setByte]
@[simp] theorem State.setByte_remote (s : State) (a : Nat) (v : Byte) : (s.setByte a v).remote = s.remote := by simp only [State.setByte]
@[simp] theorem State.setByte_busy (s : State) (a : Nat) (v : Byte) : (s.setByte a v).busy = s.busy := by simp only [State.setByte]
@[simp] theorem State.setByte_tables (s : State) (a : Nat) (v : Byte) : (s.setByte a v).tables = s.tables := by simp only [State.setByte]
@[simp] theorem State.setByte_gangOrder (s : State) (a : Nat) (v : Byte) : (s.setByte a v).gangOrder = s.gangOrder := by simp only [State.setByte]
@[simp] theorem State.setByte_subs (s : State) (a : Nat) (v : Byte) : (s.setByte a v).subs = s.subs := by simp only [State.setByte]
@[simp] theorem State.setByte_sessions (s : State) (a : Nat) (v : Byte) : (s.setByte a v).sessions = s.sessions := by simp only [State.setByte]
@[simp] theorem State.setByte_late (s : State) (a : Nat) (v : Byte) : (s.setByte a v).late = s.late := by simp only [State.setByte]
@[simp] theorem State.setByte_uaux (s : State) (a : Nat) (v : Byte) : (s.setByte a v).uaux = s.uaux := by simp only [State.setByte]
@[simp] theorem State.setByte_rtu (s : State) (a : Nat) (v : Byte) : (s.setByte a v).rtu = s.rtu := by simp only [State.setByte]
@[simp] theorem State.setByte_flash (s : State) (a : Nat) (v : Byte) : (s.setByte a v).flash = s.flash := by simp only [State.setByte]
@[simp] theorem State.setByte_pw (s : State) (a : Nat) (v : Byte) : (s.setByte a v).pw = s.pw := by simp only [State.setByte]
@[simp] theorem State.setByte_pins (s : State) (a : Nat) (v : Byte) : (s.setByte a v).pins = s.pins := by simp only [State.setByte]
@[simp] theorem State.setByte_clk (s : State) (a : Nat) (v : Byte) : (s.setByte a v).clk = s.clk := by simp only [State.setByte]
@[simp] theorem State.setByte_saved (s : State) (a : Nat) (v : Byte) : (s.setByte a v).saved = s.saved := by simp only [State.setByte]
@[simp] theorem State.setByte_sas (s : State) (a : Nat) (v : Byte) : (s.setByte a v).sas = s.sas := by simp only [State.setByte]
@[simp] theorem State.setByte_out (s : State) (a : Nat) (v : Byte) : (s.setByte a v).out = s.out := by simp only [State.setByte]
@[simp] theorem State.setByte_ret (s : State) (a : Nat) (v : Byte) : (s.setByte a v).ret = s.ret := by simp only [State.setByte]
@[simp] theorem State.setByte_freeCtr (s : State) (a : Nat) (v : Byte) : (s.setByte a v).freeCtr = s.freeCtr := by simp only [State.setByte]
@[simp] theorem State.setByte_pending (s : State) (a : Nat) (v : Byte) : (s.setByte a v).pending = s.pending := by simp only [State.setByte]

@[simp] theorem State.setUa_cfg (s : State) (p : Nat) (x : UAux) : (s.setUa p x).cfg = s.cfg := by simp only [State.setUa]
@[simp] theorem State.setUa_regs (s : State) (p : Nat) (x : UAux) : (s.setUa p x).regs = s.regs := by simp only [State.setUa]
@[simp] theorem State.setUa_mem (s : State) (p : Nat) (x : UAux) : (s.setUa p x).mem = s.mem := by simp only [State.setUa]
@[simp] theorem State.setUa_poison (s : State) (p : Nat) (x : UAux) : (s.setUa p x).poison = s.poison := by simp only [State.setUa]
@[simp] theorem State.setUa_seqs (s : State) (p : Nat) (x : UAux) : (s.setUa p x).seqs = s.seqs := by simp only [State.setUa]
@[simp] theorem State.setUa_tiles (s : State) (p : Nat) (x : UAux) : (s.setUa p x).tiles = s.tiles := by simp only [State.setUa]
@[simp] theorem State.setUa_halos (s : State) (p : Nat) (x : UAux) : (s.setUa p x).halos = s.halos := by simp only [State.setUa]
@[simp] theorem State.setUa_gmems (s : State) (p : Nat) (x : UAux) : (s.setUa p x).gmems = s.gmems := by simp only [State.setUa]
@[simp] theorem State.setUa_cache (s : State) (p : Nat) (x : UAux) : (s.setUa p x).cache = s.cache := by simp only [State.setUa]
@[simp] theorem State.setUa_pools (s : State) (p : Nat) (x : UAux) : (s.setUa p x).pools = s.pools := by simp only [State.setUa]
@[simp] theorem State.setUa_links (s : State) (p : Nat) (x : UAux) : (s.setUa p x).links = s.links := by simp only [State.setUa]
@[simp] theorem State.setUa_fab (s : State) (p : Nat) (x : UAux) : (s.setUa p x).fab = s.fab := by simp only [State.setUa]
@[simp] theorem State.setUa_uds (s : State) (p : Nat) (x : UAux) : (s.setUa p x).uds = s.uds := by simp only [State.setUa]
@[simp] theorem State.setUa_steps (s : State) (p : Nat) (x : UAux) : (s.setUa p x).steps = s.steps := by simp only [State.setUa]
@[simp] theorem State.setUa_squalls (s : State) (p : Nat) (x : UAux) : (s.setUa p x).squalls = s.squalls := by simp only [State.setUa]
@[simp] theorem State.setUa_slots (s : State) (p : Nat) (x : UAux) : (s.setUa p x).slots = s.slots := by simp only [State.setUa]
@[simp] theorem State.setUa_buckets (s : State) (p : Nat) (x : UAux) : (s.setUa p x).buckets = s.buckets := by simp only [State.setUa]
@[simp] theorem State.setUa_seqWait (s : State) (p : Nat) (x : UAux) : (s.setUa p x).seqWait = s.seqWait := by simp only [State.setUa]
@[simp] theorem State.setUa_remote (s : State) (p : Nat) (x : UAux) : (s.setUa p x).remote = s.remote := by simp only [State.setUa]
@[simp] theorem State.setUa_busy (s : State) (p : Nat) (x : UAux) : (s.setUa p x).busy = s.busy := by simp only [State.setUa]
@[simp] theorem State.setUa_tables (s : State) (p : Nat) (x : UAux) : (s.setUa p x).tables = s.tables := by simp only [State.setUa]
@[simp] theorem State.setUa_gangOrder (s : State) (p : Nat) (x : UAux) : (s.setUa p x).gangOrder = s.gangOrder := by simp only [State.setUa]
@[simp] theorem State.setUa_subs (s : State) (p : Nat) (x : UAux) : (s.setUa p x).subs = s.subs := by simp only [State.setUa]
@[simp] theorem State.setUa_sessions (s : State) (p : Nat) (x : UAux) : (s.setUa p x).sessions = s.sessions := by simp only [State.setUa]
@[simp] theorem State.setUa_late (s : State) (p : Nat) (x : UAux) : (s.setUa p x).late = s.late := by simp only [State.setUa]
@[simp] theorem State.setUa_rtu (s : State) (p : Nat) (x : UAux) : (s.setUa p x).rtu = s.rtu := by simp only [State.setUa]
@[simp] theorem State.setUa_flash (s : State) (p : Nat) (x : UAux) : (s.setUa p x).flash = s.flash := by simp only [State.setUa]
@[simp] theorem State.setUa_pw (s : State) (p : Nat) (x : UAux) : (s.setUa p x).pw = s.pw := by simp only [State.setUa]
@[simp] theorem State.setUa_pins (s : State) (p : Nat) (x : UAux) : (s.setUa p x).pins = s.pins := by simp only [State.setUa]
@[simp] theorem State.setUa_clk (s : State) (p : Nat) (x : UAux) : (s.setUa p x).clk = s.clk := by simp only [State.setUa]
@[simp] theorem State.setUa_saved (s : State) (p : Nat) (x : UAux) : (s.setUa p x).saved = s.saved := by simp only [State.setUa]
@[simp] theorem State.setUa_sas (s : State) (p : Nat) (x : UAux) : (s.setUa p x).sas = s.sas := by simp only [State.setUa]
@[simp] theorem State.setUa_out (s : State) (p : Nat) (x : UAux) : (s.setUa p x).out = s.out := by simp only [State.setUa]
@[simp] theorem State.setUa_ret (s : State) (p : Nat) (x : UAux) : (s.setUa p x).ret = s.ret := by simp only [State.setUa]
@[simp] theorem State.setUa_freeCtr (s : State) (p : Nat) (x : UAux) : (s.setUa p x).freeCtr = s.freeCtr := by simp only [State.setUa]
@[simp] theorem State.setUa_pending (s : State) (p : Nat) (x : UAux) : (s.setUa p x).pending = s.pending := by simp only [State.setUa]

@[simp] theorem State.setSq_cfg (s : State) (p : Nat) (x : SeqSt) : (s.setSq p x).cfg = s.cfg := by simp only [State.setSq]
@[simp] theorem State.setSq_regs (s : State) (p : Nat) (x : SeqSt) : (s.setSq p x).regs = s.regs := by simp only [State.setSq]
@[simp] theorem State.setSq_mem (s : State) (p : Nat) (x : SeqSt) : (s.setSq p x).mem = s.mem := by simp only [State.setSq]
@[simp] theorem State.setSq_poison (s : State) (p : Nat) (x : SeqSt) : (s.setSq p x).poison = s.poison := by simp only [State.setSq]
@[simp] theorem State.setSq_tiles (s : State) (p : Nat) (x : SeqSt) : (s.setSq p x).tiles = s.tiles := by simp only [State.setSq]
@[simp] theorem State.setSq_halos (s : State) (p : Nat) (x : SeqSt) : (s.setSq p x).halos = s.halos := by simp only [State.setSq]
@[simp] theorem State.setSq_gmems (s : State) (p : Nat) (x : SeqSt) : (s.setSq p x).gmems = s.gmems := by simp only [State.setSq]
@[simp] theorem State.setSq_cache (s : State) (p : Nat) (x : SeqSt) : (s.setSq p x).cache = s.cache := by simp only [State.setSq]
@[simp] theorem State.setSq_pools (s : State) (p : Nat) (x : SeqSt) : (s.setSq p x).pools = s.pools := by simp only [State.setSq]
@[simp] theorem State.setSq_links (s : State) (p : Nat) (x : SeqSt) : (s.setSq p x).links = s.links := by simp only [State.setSq]
@[simp] theorem State.setSq_fab (s : State) (p : Nat) (x : SeqSt) : (s.setSq p x).fab = s.fab := by simp only [State.setSq]
@[simp] theorem State.setSq_uds (s : State) (p : Nat) (x : SeqSt) : (s.setSq p x).uds = s.uds := by simp only [State.setSq]
@[simp] theorem State.setSq_steps (s : State) (p : Nat) (x : SeqSt) : (s.setSq p x).steps = s.steps := by simp only [State.setSq]
@[simp] theorem State.setSq_squalls (s : State) (p : Nat) (x : SeqSt) : (s.setSq p x).squalls = s.squalls := by simp only [State.setSq]
@[simp] theorem State.setSq_slots (s : State) (p : Nat) (x : SeqSt) : (s.setSq p x).slots = s.slots := by simp only [State.setSq]
@[simp] theorem State.setSq_buckets (s : State) (p : Nat) (x : SeqSt) : (s.setSq p x).buckets = s.buckets := by simp only [State.setSq]
@[simp] theorem State.setSq_seqWait (s : State) (p : Nat) (x : SeqSt) : (s.setSq p x).seqWait = s.seqWait := by simp only [State.setSq]
@[simp] theorem State.setSq_remote (s : State) (p : Nat) (x : SeqSt) : (s.setSq p x).remote = s.remote := by simp only [State.setSq]
@[simp] theorem State.setSq_busy (s : State) (p : Nat) (x : SeqSt) : (s.setSq p x).busy = s.busy := by simp only [State.setSq]
@[simp] theorem State.setSq_tables (s : State) (p : Nat) (x : SeqSt) : (s.setSq p x).tables = s.tables := by simp only [State.setSq]
@[simp] theorem State.setSq_gangOrder (s : State) (p : Nat) (x : SeqSt) : (s.setSq p x).gangOrder = s.gangOrder := by simp only [State.setSq]
@[simp] theorem State.setSq_subs (s : State) (p : Nat) (x : SeqSt) : (s.setSq p x).subs = s.subs := by simp only [State.setSq]
@[simp] theorem State.setSq_sessions (s : State) (p : Nat) (x : SeqSt) : (s.setSq p x).sessions = s.sessions := by simp only [State.setSq]
@[simp] theorem State.setSq_late (s : State) (p : Nat) (x : SeqSt) : (s.setSq p x).late = s.late := by simp only [State.setSq]
@[simp] theorem State.setSq_uaux (s : State) (p : Nat) (x : SeqSt) : (s.setSq p x).uaux = s.uaux := by simp only [State.setSq]
@[simp] theorem State.setSq_rtu (s : State) (p : Nat) (x : SeqSt) : (s.setSq p x).rtu = s.rtu := by simp only [State.setSq]
@[simp] theorem State.setSq_flash (s : State) (p : Nat) (x : SeqSt) : (s.setSq p x).flash = s.flash := by simp only [State.setSq]
@[simp] theorem State.setSq_pw (s : State) (p : Nat) (x : SeqSt) : (s.setSq p x).pw = s.pw := by simp only [State.setSq]
@[simp] theorem State.setSq_pins (s : State) (p : Nat) (x : SeqSt) : (s.setSq p x).pins = s.pins := by simp only [State.setSq]
@[simp] theorem State.setSq_clk (s : State) (p : Nat) (x : SeqSt) : (s.setSq p x).clk = s.clk := by simp only [State.setSq]
@[simp] theorem State.setSq_saved (s : State) (p : Nat) (x : SeqSt) : (s.setSq p x).saved = s.saved := by simp only [State.setSq]
@[simp] theorem State.setSq_sas (s : State) (p : Nat) (x : SeqSt) : (s.setSq p x).sas = s.sas := by simp only [State.setSq]
@[simp] theorem State.setSq_out (s : State) (p : Nat) (x : SeqSt) : (s.setSq p x).out = s.out := by simp only [State.setSq]
@[simp] theorem State.setSq_ret (s : State) (p : Nat) (x : SeqSt) : (s.setSq p x).ret = s.ret := by simp only [State.setSq]
@[simp] theorem State.setSq_freeCtr (s : State) (p : Nat) (x : SeqSt) : (s.setSq p x).freeCtr = s.freeCtr := by simp only [State.setSq]
@[simp] theorem State.setSq_pending (s : State) (p : Nat) (x : SeqSt) : (s.setSq p x).pending = s.pending := by simp only [State.setSq]

@[simp] theorem State.setTl_cfg (s : State) (pos : Nat) (x : TileSt) : (s.setTl pos x).cfg = s.cfg := by simp only [State.setTl]
@[simp] theorem State.setTl_regs (s : State) (pos : Nat) (x : TileSt) : (s.setTl pos x).regs = s.regs := by simp only [State.setTl]
@[simp] theorem State.setTl_mem (s : State) (pos : Nat) (x : TileSt) : (s.setTl pos x).mem = s.mem := by simp only [State.setTl]
@[simp] theorem State.setTl_poison (s : State) (pos : Nat) (x : TileSt) : (s.setTl pos x).poison = s.poison := by simp only [State.setTl]
@[simp] theorem State.setTl_seqs (s : State) (pos : Nat) (x : TileSt) : (s.setTl pos x).seqs = s.seqs := by simp only [State.setTl]
@[simp] theorem State.setTl_halos (s : State) (pos : Nat) (x : TileSt) : (s.setTl pos x).halos = s.halos := by simp only [State.setTl]
@[simp] theorem State.setTl_gmems (s : State) (pos : Nat) (x : TileSt) : (s.setTl pos x).gmems = s.gmems := by simp only [State.setTl]
@[simp] theorem State.setTl_cache (s : State) (pos : Nat) (x : TileSt) : (s.setTl pos x).cache = s.cache := by simp only [State.setTl]
@[simp] theorem State.setTl_pools (s : State) (pos : Nat) (x : TileSt) : (s.setTl pos x).pools = s.pools := by simp only [State.setTl]
@[simp] theorem State.setTl_links (s : State) (pos : Nat) (x : TileSt) : (s.setTl pos x).links = s.links := by simp only [State.setTl]
@[simp] theorem State.setTl_fab (s : State) (pos : Nat) (x : TileSt) : (s.setTl pos x).fab = s.fab := by simp only [State.setTl]
@[simp] theorem State.setTl_uds (s : State) (pos : Nat) (x : TileSt) : (s.setTl pos x).uds = s.uds := by simp only [State.setTl]
@[simp] theorem State.setTl_steps (s : State) (pos : Nat) (x : TileSt) : (s.setTl pos x).steps = s.steps := by simp only [State.setTl]
@[simp] theorem State.setTl_squalls (s : State) (pos : Nat) (x : TileSt) : (s.setTl pos x).squalls = s.squalls := by simp only [State.setTl]
@[simp] theorem State.setTl_slots (s : State) (pos : Nat) (x : TileSt) : (s.setTl pos x).slots = s.slots := by simp only [State.setTl]
@[simp] theorem State.setTl_buckets (s : State) (pos : Nat) (x : TileSt) : (s.setTl pos x).buckets = s.buckets := by simp only [State.setTl]
@[simp] theorem State.setTl_seqWait (s : State) (pos : Nat) (x : TileSt) : (s.setTl pos x).seqWait = s.seqWait := by simp only [State.setTl]
@[simp] theorem State.setTl_remote (s : State) (pos : Nat) (x : TileSt) : (s.setTl pos x).remote = s.remote := by simp only [State.setTl]
@[simp] theorem State.setTl_busy (s : State) (pos : Nat) (x : TileSt) : (s.setTl pos x).busy = s.busy := by simp only [State.setTl]
@[simp] theorem State.setTl_tables (s : State) (pos : Nat) (x : TileSt) : (s.setTl pos x).tables = s.tables := by simp only [State.setTl]
@[simp] theorem State.setTl_gangOrder (s : State) (pos : Nat) (x : TileSt) : (s.setTl pos x).gangOrder = s.gangOrder := by simp only [State.setTl]
@[simp] theorem State.setTl_subs (s : State) (pos : Nat) (x : TileSt) : (s.setTl pos x).subs = s.subs := by simp only [State.setTl]
@[simp] theorem State.setTl_sessions (s : State) (pos : Nat) (x : TileSt) : (s.setTl pos x).sessions = s.sessions := by simp only [State.setTl]
@[simp] theorem State.setTl_late (s : State) (pos : Nat) (x : TileSt) : (s.setTl pos x).late = s.late := by simp only [State.setTl]
@[simp] theorem State.setTl_uaux (s : State) (pos : Nat) (x : TileSt) : (s.setTl pos x).uaux = s.uaux := by simp only [State.setTl]
@[simp] theorem State.setTl_rtu (s : State) (pos : Nat) (x : TileSt) : (s.setTl pos x).rtu = s.rtu := by simp only [State.setTl]
@[simp] theorem State.setTl_flash (s : State) (pos : Nat) (x : TileSt) : (s.setTl pos x).flash = s.flash := by simp only [State.setTl]
@[simp] theorem State.setTl_pw (s : State) (pos : Nat) (x : TileSt) : (s.setTl pos x).pw = s.pw := by simp only [State.setTl]
@[simp] theorem State.setTl_pins (s : State) (pos : Nat) (x : TileSt) : (s.setTl pos x).pins = s.pins := by simp only [State.setTl]
@[simp] theorem State.setTl_clk (s : State) (pos : Nat) (x : TileSt) : (s.setTl pos x).clk = s.clk := by simp only [State.setTl]
@[simp] theorem State.setTl_saved (s : State) (pos : Nat) (x : TileSt) : (s.setTl pos x).saved = s.saved := by simp only [State.setTl]
@[simp] theorem State.setTl_sas (s : State) (pos : Nat) (x : TileSt) : (s.setTl pos x).sas = s.sas := by simp only [State.setTl]
@[simp] theorem State.setTl_out (s : State) (pos : Nat) (x : TileSt) : (s.setTl pos x).out = s.out := by simp only [State.setTl]
@[simp] theorem State.setTl_ret (s : State) (pos : Nat) (x : TileSt) : (s.setTl pos x).ret = s.ret := by simp only [State.setTl]
@[simp] theorem State.setTl_freeCtr (s : State) (pos : Nat) (x : TileSt) : (s.setTl pos x).freeCtr = s.freeCtr := by simp only [State.setTl]
@[simp] theorem State.setTl_pending (s : State) (pos : Nat) (x : TileSt) : (s.setTl pos x).pending = s.pending := by simp only [State.setTl]

@[simp] theorem State.keepMem_cfg (s : State) (q : Nat → Bool) : (s.keepMem q).cfg = s.cfg := by simp only [State.keepMem]
@[simp] theorem State.keepMem_regs (s : State) (q : Nat → Bool) : (s.keepMem q).regs = s.regs := by simp only [State.keepMem]
@[simp] theorem State.keepMem_poison (s : State) (q : Nat → Bool) : (s.keepMem q).poison = s.poison := by simp only [State.keepMem]
@[simp] theorem State.keepMem_seqs (s : State) (q : Nat → Bool) : (s.keepMem q).seqs = s.seqs := by simp only [State.keepMem]
@[simp] theorem State.keepMem_tiles (s : State) (q : Nat → Bool) : (s.keepMem q).tiles = s.tiles := by simp only [State.keepMem]
@[simp] theorem State.keepMem_halos (s : State) (q : Nat → Bool) : (s.keepMem q).halos = s.halos := by simp only [State.keepMem]
@[simp] theorem State.keepMem_gmems (s : State) (q : Nat → Bool) : (s.keepMem q).gmems = s.gmems := by simp only [State.keepMem]
@[simp] theorem State.keepMem_cache (s : State) (q : Nat → Bool) : (s.keepMem q).cache = s.cache := by simp only [State.keepMem]
@[simp] theorem State.keepMem_pools (s : State) (q : Nat → Bool) : (s.keepMem q).pools = s.pools := by simp only [State.keepMem]
@[simp] theorem State.keepMem_links (s : State) (q : Nat → Bool) : (s.keepMem q).links = s.links := by simp only [State.keepMem]
@[simp] theorem State.keepMem_fab (s : State) (q : Nat → Bool) : (s.keepMem q).fab = s.fab := by simp only [State.keepMem]
@[simp] theorem State.keepMem_uds (s : State) (q : Nat → Bool) : (s.keepMem q).uds = s.uds := by simp only [State.keepMem]
@[simp] theorem State.keepMem_steps (s : State) (q : Nat → Bool) : (s.keepMem q).steps = s.steps := by simp only [State.keepMem]
@[simp] theorem State.keepMem_squalls (s : State) (q : Nat → Bool) : (s.keepMem q).squalls = s.squalls := by simp only [State.keepMem]
@[simp] theorem State.keepMem_slots (s : State) (q : Nat → Bool) : (s.keepMem q).slots = s.slots := by simp only [State.keepMem]
@[simp] theorem State.keepMem_buckets (s : State) (q : Nat → Bool) : (s.keepMem q).buckets = s.buckets := by simp only [State.keepMem]
@[simp] theorem State.keepMem_seqWait (s : State) (q : Nat → Bool) : (s.keepMem q).seqWait = s.seqWait := by simp only [State.keepMem]
@[simp] theorem State.keepMem_remote (s : State) (q : Nat → Bool) : (s.keepMem q).remote = s.remote := by simp only [State.keepMem]
@[simp] theorem State.keepMem_busy (s : State) (q : Nat → Bool) : (s.keepMem q).busy = s.busy := by simp only [State.keepMem]
@[simp] theorem State.keepMem_tables (s : State) (q : Nat → Bool) : (s.keepMem q).tables = s.tables := by simp only [State.keepMem]
@[simp] theorem State.keepMem_gangOrder (s : State) (q : Nat → Bool) : (s.keepMem q).gangOrder = s.gangOrder := by simp only [State.keepMem]
@[simp] theorem State.keepMem_subs (s : State) (q : Nat → Bool) : (s.keepMem q).subs = s.subs := by simp only [State.keepMem]
@[simp] theorem State.keepMem_sessions (s : State) (q : Nat → Bool) : (s.keepMem q).sessions = s.sessions := by simp only [State.keepMem]
@[simp] theorem State.keepMem_late (s : State) (q : Nat → Bool) : (s.keepMem q).late = s.late := by simp only [State.keepMem]
@[simp] theorem State.keepMem_uaux (s : State) (q : Nat → Bool) : (s.keepMem q).uaux = s.uaux := by simp only [State.keepMem]
@[simp] theorem State.keepMem_rtu (s : State) (q : Nat → Bool) : (s.keepMem q).rtu = s.rtu := by simp only [State.keepMem]
@[simp] theorem State.keepMem_flash (s : State) (q : Nat → Bool) : (s.keepMem q).flash = s.flash := by simp only [State.keepMem]
@[simp] theorem State.keepMem_pw (s : State) (q : Nat → Bool) : (s.keepMem q).pw = s.pw := by simp only [State.keepMem]
@[simp] theorem State.keepMem_pins (s : State) (q : Nat → Bool) : (s.keepMem q).pins = s.pins := by simp only [State.keepMem]
@[simp] theorem State.keepMem_clk (s : State) (q : Nat → Bool) : (s.keepMem q).clk = s.clk := by simp only [State.keepMem]
@[simp] theorem State.keepMem_saved (s : State) (q : Nat → Bool) : (s.keepMem q).saved = s.saved := by simp only [State.keepMem]
@[simp] theorem State.keepMem_sas (s : State) (q : Nat → Bool) : (s.keepMem q).sas = s.sas := by simp only [State.keepMem]
@[simp] theorem State.keepMem_out (s : State) (q : Nat → Bool) : (s.keepMem q).out = s.out := by simp only [State.keepMem]
@[simp] theorem State.keepMem_ret (s : State) (q : Nat → Bool) : (s.keepMem q).ret = s.ret := by simp only [State.keepMem]
@[simp] theorem State.keepMem_freeCtr (s : State) (q : Nat → Bool) : (s.keepMem q).freeCtr = s.freeCtr := by simp only [State.keepMem]
@[simp] theorem State.keepMem_pending (s : State) (q : Nat → Bool) : (s.keepMem q).pending = s.pending := by simp only [State.keepMem]

@[simp] theorem State.entry_cfg (s : State) : (s.entry).cfg = s.cfg := by simp only [State.entry]
@[simp] theorem State.entry_regs (s : State) : (s.entry).regs = s.regs := by simp only [State.entry]
@[simp] theorem State.entry_mem (s : State) : (s.entry).mem = s.mem := by simp only [State.entry]
@[simp] theorem State.entry_poison (s : State) : (s.entry).poison = s.poison := by simp only [State.entry]
@[simp] theorem State.entry_seqs (s : State) : (s.entry).seqs = s.seqs := by simp only [State.entry]
@[simp] theorem State.entry_tiles (s : State) : (s.entry).tiles = s.tiles := by simp only [State.entry]
@[simp] theorem State.entry_halos (s : State) : (s.entry).halos = s.halos := by simp only [State.entry]
@[simp] theorem State.entry_gmems (s : State) : (s.entry).gmems = s.gmems := by simp only [State.entry]
@[simp] theorem State.entry_cache (s : State) : (s.entry).cache = s.cache := by simp only [State.entry]
@[simp] theorem State.entry_pools (s : State) : (s.entry).pools = s.pools := by simp only [State.entry]
@[simp] theorem State.entry_links (s : State) : (s.entry).links = s.links := by simp only [State.entry]
@[simp] theorem State.entry_fab (s : State) : (s.entry).fab = s.fab := by simp only [State.entry]
@[simp] theorem State.entry_uds (s : State) : (s.entry).uds = s.uds := by simp only [State.entry]
@[simp] theorem State.entry_steps (s : State) : (s.entry).steps = s.steps := by simp only [State.entry]
@[simp] theorem State.entry_squalls (s : State) : (s.entry).squalls = s.squalls := by simp only [State.entry]
@[simp] theorem State.entry_slots (s : State) : (s.entry).slots = s.slots := by simp only [State.entry]
@[simp] theorem State.entry_buckets (s : State) : (s.entry).buckets = s.buckets := by simp only [State.entry]
@[simp] theorem State.entry_seqWait (s : State) : (s.entry).seqWait = s.seqWait := by simp only [State.entry]
@[simp] theorem State.entry_remote (s : State) : (s.entry).remote = s.remote := by simp only [State.entry]
@[simp] theorem State.entry_busy (s : State) : (s.entry).busy = s.busy := by simp only [State.entry]
@[simp] theorem State.entry_tables (s : State) : (s.entry).tables = s.tables := by simp only [State.entry]
@[simp] theorem State.entry_gangOrder (s : State) : (s.entry).gangOrder = s.gangOrder := by simp only [State.entry]
@[simp] theorem State.entry_subs (s : State) : (s.entry).subs = s.subs := by simp only [State.entry]
@[simp] theorem State.entry_sessions (s : State) : (s.entry).sessions = s.sessions := by simp only [State.entry]
@[simp] theorem State.entry_late (s : State) : (s.entry).late = s.late := by simp only [State.entry]
@[simp] theorem State.entry_uaux (s : State) : (s.entry).uaux = s.uaux := by simp only [State.entry]
@[simp] theorem State.entry_rtu (s : State) : (s.entry).rtu = s.rtu := by simp only [State.entry]
@[simp] theorem State.entry_flash (s : State) : (s.entry).flash = s.flash := by simp only [State.entry]
@[simp] theorem State.entry_pw (s : State) : (s.entry).pw = s.pw := by simp only [State.entry]
@[simp] theorem State.entry_pins (s : State) : (s.entry).pins = s.pins := by simp only [State.entry]
@[simp] theorem State.entry_clk (s : State) : (s.entry).clk = s.clk := by simp only [State.entry]
@[simp] theorem State.entry_saved (s : State) : (s.entry).saved = s.saved := by simp only [State.entry]
@[simp] theorem State.entry_sas (s : State) : (s.entry).sas = s.sas := by simp only [State.entry]
@[simp] theorem State.entry_freeCtr (s : State) : (s.entry).freeCtr = s.freeCtr := by simp only [State.entry]
@[simp] theorem State.entry_pending (s : State) : (s.entry).pending = s.pending := by simp only [State.entry]

@[simp] theorem State.closed_cfg (s t : State) : (s.closed t).cfg = s.cfg := by simp only [State.closed]
@[simp] theorem State.closed_regs (s t : State) : (s.closed t).regs = t.regs := by simp only [State.closed]
@[simp] theorem State.closed_mem (s t : State) : (s.closed t).mem = t.mem := by simp only [State.closed]
@[simp] theorem State.closed_poison (s t : State) : (s.closed t).poison = t.poison := by simp only [State.closed]
@[simp] theorem State.closed_seqs (s t : State) : (s.closed t).seqs = t.seqs := by simp only [State.closed]
@[simp] theorem State.closed_tiles (s t : State) : (s.closed t).tiles = t.tiles := by simp only [State.closed]
@[simp] theorem State.closed_halos (s t : State) : (s.closed t).halos = t.halos := by simp only [State.closed]
@[simp] theorem State.closed_gmems (s t : State) : (s.closed t).gmems = t.gmems := by simp only [State.closed]
@[simp] theorem State.closed_cache (s t : State) : (s.closed t).cache = t.cache := by simp only [State.closed]
@[simp] theorem State.closed_pools (s t : State) : (s.closed t).pools = t.pools := by simp only [State.closed]
@[simp] theorem State.closed_links (s t : State) : (s.closed t).links = t.links := by simp only [State.closed]
@[simp] theorem State.closed_fab (s t : State) : (s.closed t).fab = t.fab := by simp only [State.closed]
@[simp] theorem State.closed_uds (s t : State) : (s.closed t).uds = t.uds := by simp only [State.closed]
@[simp] theorem State.closed_steps (s t : State) : (s.closed t).steps = t.steps := by simp only [State.closed]
@[simp] theorem State.closed_squalls (s t : State) : (s.closed t).squalls = t.squalls := by simp only [State.closed]
@[simp] theorem State.closed_slots (s t : State) : (s.closed t).slots = t.slots := by simp only [State.closed]
@[simp] theorem State.closed_buckets (s t : State) : (s.closed t).buckets = t.buckets := by simp only [State.closed]
@[simp] theorem State.closed_seqWait (s t : State) : (s.closed t).seqWait = t.seqWait := by simp only [State.closed]
@[simp] theorem State.closed_remote (s t : State) : (s.closed t).remote = t.remote := by simp only [State.closed]
@[simp] theorem State.closed_busy (s t : State) : (s.closed t).busy = t.busy := by simp only [State.closed]
@[simp] theorem State.closed_tables (s t : State) : (s.closed t).tables = t.tables := by simp only [State.closed]
@[simp] theorem State.closed_gangOrder (s t : State) : (s.closed t).gangOrder = t.gangOrder := by simp only [State.closed]
@[simp] theorem State.closed_subs (s t : State) : (s.closed t).subs = t.subs := by simp only [State.closed]
@[simp] theorem State.closed_sessions (s t : State) : (s.closed t).sessions = t.sessions := by simp only [State.closed]
@[simp] theorem State.closed_late (s t : State) : (s.closed t).late = t.late := by simp only [State.closed]
@[simp] theorem State.closed_uaux (s t : State) : (s.closed t).uaux = t.uaux := by simp only [State.closed]
@[simp] theorem State.closed_rtu (s t : State) : (s.closed t).rtu = t.rtu := by simp only [State.closed]
@[simp] theorem State.closed_flash (s t : State) : (s.closed t).flash = t.flash := by simp only [State.closed]
@[simp] theorem State.closed_pw (s t : State) : (s.closed t).pw = t.pw := by simp only [State.closed]
@[simp] theorem State.closed_pins (s t : State) : (s.closed t).pins = t.pins := by simp only [State.closed]
@[simp] theorem State.closed_clk (s t : State) : (s.closed t).clk = t.clk := by simp only [State.closed]
@[simp] theorem State.closed_saved (s t : State) : (s.closed t).saved = t.saved := by simp only [State.closed]
@[simp] theorem State.closed_sas (s t : State) : (s.closed t).sas = t.sas := by simp only [State.closed]
@[simp] theorem State.closed_out (s t : State) : (s.closed t).out = t.out := by simp only [State.closed]
@[simp] theorem State.closed_ret (s t : State) : (s.closed t).ret = t.ret := by simp only [State.closed]
@[simp] theorem State.closed_freeCtr (s t : State) : (s.closed t).freeCtr = t.freeCtr := by simp only [State.closed]
@[simp] theorem State.closed_pending (s t : State) : (s.closed t).pending = s.pending := by simp only [State.closed]

@[simp] theorem State.entry_out (s : State) : s.entry.out = [] := by simp only [State.entry]
@[simp] theorem State.entry_ret (s : State) : s.entry.ret = .ok := by simp only [State.entry]
@[simp] theorem State.answer_ret (s : State) (st : Status) : (s.answer st).ret = st := by simp only [State.answer]

end Sys2Proof.Machine
end

