-- ==== Sys2Proof/Laws/Entry.lean ====
section
/-! SUPPORT. What is read of the state in which a command starts is what was read before: its memory, its shares, and what a data-port
operation or a write to WINDOW waits for. -/

namespace Sys2Proof.Machine

variable (s : State)

/-- A number in memory is fixed by the bytes of memory. -/
theorem State.ld_congr {t : State} (h : s.mem = t.mem) (a n : Nat) : s.ld a n = t.ld a n := by
  induction n generalizing a with
  | zero => rfl
  | succ n ih => simp only [State.ld, State.byte, h, ih]

@[simp] theorem State.entry_ld (a n : Nat) : s.entry.ld a n = s.ld a n := State.ld_congr _ (State.entry_mem s) a n
@[simp] theorem State.entry_wShares (k p a b c d : Nat) : s.entry.wShares k p a b c d = s.wShares k p a b c d := by
  induction k generalizing p a b c d with
  | zero => rfl
  | succ n ih => simp only [State.wShares, ih]; rfl
@[simp] theorem State.entry_weightRanges (p d : Nat) : s.entry.weightRanges p d = s.weightRanges p d := by
  have h (d : Nat) : s.entry.modeOf p d = s.modeOf p d := rfl
  have l : s.entry.leaves p = s.leaves p := rfl
  simp only [State.weightRanges, h, l, State.entry_wShares, State.entry_ld]
@[simp] theorem State.entry_granInUse (pos k : Nat) : s.entry.granInUse pos k = s.granInUse pos k := by
  have o (p : Nat) : s.entry.outer p = s.outer p := rfl
  have q (p : Nat) : s.entry.sq p = s.sq p := rfl
  simp only [State.granInUse, o, q, State.entry_weightRanges]
@[simp] theorem State.entry_writeWaits (pos off len : Nat) : s.entry.writeWaits pos off len = s.writeWaits pos off len := by
  have w : s.entry.windowPart pos off len = s.windowPart pos off len := rfl
  have g : s.entry.granInUse pos = s.granInUse pos := funext fun k => State.entry_granInUse s pos k
  simp only [State.writeWaits, w, g]
@[simp] theorem State.entry_dpWaits (m : Msg) : s.entry.dpWaits m = s.dpWaits m := by
  have a : s.entry.dpArgs m = s.dpArgs m := rfl
  have p : s.entry.dpPg m = s.dpPg m := rfl
  have w (p : Nat) : s.entry.takesWork p = s.takesWork p := rfl
  have f : s.entry.dpFail m = s.dpFail m := rfl
  have r : s.entry.recovering = s.recovering := rfl
  simp only [State.dpWaits, a, p, w, f, r, State.entry_seqWait, State.entry_writeWaits]

end Sys2Proof.Machine
end

