-- ==== Sys2Proof/Laws/Table.lean ====
section
/-! SUPPORT. The laws of sparse tables: a key reads as it was last set, setting one key leaves the others, and setting keeps the
canonical form. -/

namespace Sys2Proof.Machine

variable {α : Type}

theorem tblFind_erase_same (k : Nat) (m : List (Nat × α)) : tblFind k (tblErase k m) = none := by
  induction m with
  | nil => rfl
  | cons x t ih =>
    obtain ⟨j, v⟩ := x
    by_cases h : j = k
    · simp [tblErase, h, ih]
    · simp [tblErase, tblFind, h, ih]

theorem tblFind_erase_ne {k j : Nat} (h : j ≠ k) (m : List (Nat × α)) : tblFind j (tblErase k m) = tblFind j m := by
  induction m with
  | nil => rfl
  | cons x t ih =>
    obtain ⟨i, v⟩ := x
    by_cases hi : i = k
    · subst hi
      simp [tblErase, tblFind, ih, Ne.symm h]
    · simp [tblErase, tblFind, hi, ih]

theorem tblFind_insert_same (k : Nat) (v : α) (m : List (Nat × α)) (h : tblFind k m = none) :
    tblFind k (tblInsert k v m) = some v := by
  induction m with
  | nil => simp [tblInsert, tblFind]
  | cons x t ih =>
    obtain ⟨j, w⟩ := x
    have hj : j ≠ k := by intro e; simp [tblFind, e] at h
    have ht : tblFind k t = none := by simpa [tblFind, hj] using h
    by_cases hk : k < j
    · simp [tblInsert, tblFind, hk]
    · simp [tblInsert, tblFind, hk, hj, ih ht]

theorem tblFind_insert_ne {k j : Nat} (h : j ≠ k) (v : α) (m : List (Nat × α)) : tblFind j (tblInsert k v m) = tblFind j m := by
  induction m with
  | nil => simp [tblInsert, tblFind, Ne.symm h]
  | cons x t ih =>
    obtain ⟨i, w⟩ := x
    by_cases hk : k < i
    · simp [tblInsert, tblFind, hk, Ne.symm h]
    · simp [tblInsert, tblFind, hk, ih]

/-- Every key of a table is above a bound. -/
def tblAbove (b : Nat) : List (Nat × α) → Prop
  | [] => True
  | (k, _) :: t => b < k ∧ tblAbove b t

theorem tblAbove_mono {a b : Nat} (h : a ≤ b) {m : List (Nat × α)} (hm : tblAbove b m) : tblAbove a m := by
  induction m with
  | nil => trivial
  | cons x t ih => exact ⟨Nat.lt_of_le_of_lt h hm.1, ih hm.2⟩

theorem tblAbove_erase {b k : Nat} {m : List (Nat × α)} (h : tblAbove b m) : tblAbove b (tblErase k m) := by
  induction m with
  | nil => trivial
  | cons x t ih =>
    obtain ⟨j, v⟩ := x
    by_cases hj : j = k
    · simpa [tblErase, hj] using ih h.2
    · simp only [tblErase, hj, if_false]
      exact ⟨h.1, ih h.2⟩

theorem tblAbove_insert {b k : Nat} {v : α} {m : List (Nat × α)} (hk : b < k) (h : tblAbove b m) : tblAbove b (tblInsert k v m) := by
  induction m with
  | nil => exact ⟨hk, trivial⟩
  | cons x t ih =>
    obtain ⟨j, w⟩ := x
    by_cases hj : k < j
    · simp only [tblInsert, hj, if_true]; exact ⟨hk, h⟩
    · simp only [tblInsert, hj, if_false]; exact ⟨h.1, ih h.2⟩

theorem tblAbove_filter {b : Nat} (p : Nat × α → Bool) {m : List (Nat × α)} (h : tblAbove b m) : tblAbove b (m.filter p) := by
  induction m with
  | nil => trivial
  | cons x t ih =>
    by_cases hp : p x
    · simp only [List.filter_cons, hp, if_true]; exact ⟨h.1, ih h.2⟩
    · simp only [List.filter_cons, hp]; exact ih h.2

variable [DecidableEq α]

/-- A key reads as the value it was set to. -/
@[simp] theorem tblGet_set_same (d : Nat → α) (m : List (Nat × α)) (k : Nat) (v : α) : tblGet d (tblSet d m k v) k = v := by
  by_cases h : v = d k
  · simp [tblSet, tblGet, h, tblFind_erase_same]
  · simp [tblSet, tblGet, h, tblFind_insert_same _ _ _ (tblFind_erase_same k m)]

/-- Setting a key leaves every other key. -/
theorem tblGet_set_ne (d : Nat → α) (m : List (Nat × α)) {k j : Nat} (h : j ≠ k) (v : α) :
    tblGet d (tblSet d m k v) j = tblGet d m j := by
  by_cases hv : v = d k
  · simp [tblSet, tblGet, hv, tblFind_erase_ne h]
  · simp [tblSet, tblGet, hv, tblFind_insert_ne h, tblFind_erase_ne h]

/-! ### The canonical form -/

theorem tblWf_cons (d : Nat → α) (k : Nat) (v : α) (t : List (Nat × α)) :
    tblWf d ((k, v) :: t) = true ↔ v ≠ d k ∧ tblAbove k t ∧ tblWf d t = true := by
  induction t generalizing k v with
  | nil => simp [tblWf, tblAbove]
  | cons x t ih =>
    obtain ⟨j, w⟩ := x
    have e : tblWf d ((k, v) :: (j, w) :: t) = (decide (v ≠ d k) && decide (k < j) && tblWf d ((j, w) :: t)) := rfl
    rw [e]
    simp only [Bool.and_eq_true, decide_eq_true_eq]
    constructor
    · rintro ⟨⟨h1, h2⟩, h3⟩
      exact ⟨h1, ⟨h2, tblAbove_mono (Nat.le_of_lt h2) ((ih j w).1 h3).2.1⟩, h3⟩
    · rintro ⟨h1, ⟨h2, _⟩, h3⟩
      exact ⟨⟨h1, h2⟩, h3⟩

theorem tblWf_erase (d : Nat → α) (k : Nat) {m : List (Nat × α)} (h : tblWf d m = true) : tblWf d (tblErase k m) = true := by
  induction m with
  | nil => rfl
  | cons x t ih =>
    obtain ⟨j, v⟩ := x
    have h' := (tblWf_cons d j v t).1 h
    by_cases hj : j = k
    · simpa [tblErase, hj] using ih h'.2.2
    · simp only [tblErase, hj, if_false]
      exact (tblWf_cons d j v _).2 ⟨h'.1, tblAbove_erase h'.2.1, ih h'.2.2⟩

theorem tblWf_insert (d : Nat → α) {k : Nat} {v : α} (hv : v ≠ d k) {m : List (Nat × α)} (hk : tblFind k m = none)
    (h : tblWf d m = true) : tblWf d (tblInsert k v m) = true := by
  induction m with
  | nil => simp [tblInsert, tblWf, hv]
  | cons x t ih =>
    obtain ⟨j, w⟩ := x
    have h' := (tblWf_cons d j w t).1 h
    have hj : j ≠ k := by intro e; simp [tblFind, e] at hk
    have ht : tblFind k t = none := by simpa [tblFind, hj] using hk
    by_cases hlt : k < j
    · simp only [tblInsert, hlt, if_true]
      exact (tblWf_cons d k v _).2 ⟨hv, ⟨hlt, tblAbove_mono (Nat.le_of_lt hlt) h'.2.1⟩, h⟩
    · simp only [tblInsert, hlt, if_false]
      exact (tblWf_cons d j w _).2 ⟨h'.1, tblAbove_insert (by omega) h'.2.1, ih ht h'.2.2⟩

/-- Setting a key keeps the canonical form. -/
theorem tblWf_set (d : Nat → α) (k : Nat) (v : α) {m : List (Nat × α)} (h : tblWf d m = true) : tblWf d (tblSet d m k v) = true := by
  unfold tblSet
  split
  · exact tblWf_erase d k h
  · rename_i hv; exact tblWf_insert d hv (tblFind_erase_same k m) (tblWf_erase d k h)

/-- Keeping some of the entries keeps the canonical form. -/
theorem tblWf_filter (d : Nat → α) (p : Nat × α → Bool) {m : List (Nat × α)} (h : tblWf d m = true) : tblWf d (m.filter p) = true := by
  induction m with
  | nil => rfl
  | cons x t ih =>
    obtain ⟨j, v⟩ := x
    have h' := (tblWf_cons d j v t).1 h
    by_cases hp : p (j, v)
    · simp only [List.filter_cons, hp, if_true]
      exact (tblWf_cons d j v _).2 ⟨h'.1, tblAbove_filter p h'.2.1, ih h'.2.2⟩
    · simp only [List.filter_cons, hp]; exact ih h'.2.2

end Sys2Proof.Machine
end

