-- ==== Sys2Proof/Laws/Mem.lean ====
section
/-! SUPPORT. The laws of package memory: a byte reads as it was last written, a write leaves every other byte, and every memory operation
keeps the canonical form. -/

namespace Sys2Proof.Machine

/-- What a byte reads as, from the list of cells. -/
theorem State.byte_eq (s : State) (a : Nat) : s.byte a = tblGet memDefault s.mem a := by rw [State.byte]
/-- A byte write changes one key of the list of cells. -/
theorem State.setByte_mem (s : State) (a : Nat) (v : Byte) : (s.setByte a v).mem = tblSet memDefault s.mem a v := by
  simp only [State.setByte]

/-- Two states with one list of cells have the same bytes. -/
theorem State.byte_congr {s t : State} (h : t.mem = s.mem) (a : Nat) : t.byte a = s.byte a := by rw [State.byte_eq, State.byte_eq, h]

/-- A byte reads as it was written. -/
@[simp] theorem State.byte_setByte_same (s : State) (a : Nat) (v : Byte) : (s.setByte a v).byte a = v := by
  rw [State.byte_eq, State.setByte_mem, tblGet_set_same]
/-- A byte write leaves every other byte. -/
theorem State.byte_setByte_ne (s : State) {a b : Nat} (h : b ≠ a) (v : Byte) : (s.setByte a v).byte b = s.byte b := by
  rw [State.byte_eq, State.setByte_mem, tblGet_set_ne _ _ h, ← State.byte_eq]

@[simp] theorem State.byte_setReg (s : State) (b p o : Nat) (v : Word) (a : Nat) : (s.setReg b p o v).byte a = s.byte a :=
  State.byte_congr (State.setReg_mem s b p o v) a
@[simp] theorem State.byte_entry (s : State) (a : Nat) : s.entry.byte a = s.byte a := State.byte_congr (State.entry_mem s) a
@[simp] theorem State.byte_closed (s t : State) (a : Nat) : (s.closed t).byte a = t.byte a := State.byte_congr (State.closed_mem s t) a

/-! ### Several bytes -/

/-- Writing a list of bytes leaves what lies below it and what lies past its end. -/
theorem State.byte_stBytes_out (s : State) (a : Nat) (bs : List Byte) {b : Nat} (h : b < a ∨ a + bs.length ≤ b) :
    (s.stBytes a bs).byte b = s.byte b := by
  induction bs generalizing s a with
  | nil => rfl
  | cons x t ih =>
    simp only [State.stBytes, List.length_cons] at h ⊢
    rw [ih (s.setByte a x) (a + 1) (by omega), State.byte_setByte_ne s (by omega) x]

/-- A list of bytes reads as it was written. -/
theorem State.ldBytes_stBytes (s : State) (a : Nat) (bs : List Byte) : (s.stBytes a bs).ldBytes a bs.length = bs := by
  induction bs generalizing s a with
  | nil => rfl
  | cons x t ih =>
    simp only [State.stBytes, List.length_cons, State.ldBytes]
    rw [ih, State.byte_stBytes_out _ _ _ (Or.inl (Nat.lt_succ_self a)), State.byte_setByte_same]

/-- Marking words leaves memory. -/
@[simp] theorem State.mark_mem (s : State) (b : Bool) (w n : Nat) : (s.mark b w n).mem = s.mem := by
  induction n generalizing s w with
  | zero => rfl
  | succ n ih => rw [State.mark, ih]

/-- A write to memory leaves what lies outside it. -/
theorem State.byte_put_out (s : State) (a : Nat) (bs : List Byte) {b : Nat} (h : b < a ∨ a + bs.length ≤ b) :
    (s.put a bs).byte b = s.byte b := by
  rw [State.put, State.byte_congr (State.mark_mem _ _ _ _), State.byte_stBytes_out s a bs h]

theorem State.ldBytes_congr {s t : State} (h : t.mem = s.mem) (a n : Nat) : t.ldBytes a n = s.ldBytes a n := by
  induction n generalizing a with
  | zero => rfl
  | succ n ih => rw [State.ldBytes, State.ldBytes, ih, State.byte_congr h]

/-- A write to memory reads back. -/
theorem State.ldBytes_put (s : State) (a : Nat) (bs : List Byte) : (s.put a bs).ldBytes a bs.length = bs := by
  rw [State.put, State.ldBytes_congr (State.mark_mem _ _ _ _), State.ldBytes_stBytes]

/-! ### Poison marks -/

/-- What keeps the marks keeps what they say of a word. -/
theorem State.isPoison_congr {s t : State} (h : t.poison = s.poison) (w : Nat) : t.isPoison w = s.isPoison w := by
  rw [State.isPoison, State.isPoison, h]
/-- Writing bytes leaves the marks. -/
@[simp] theorem State.stBytes_poison (s : State) (a : Nat) (bs : List Byte) : (s.stBytes a bs).poison = s.poison := by
  induction bs generalizing s a with
  | nil => rfl
  | cons x t ih => rw [State.stBytes, ih, State.setByte]
/-- Clearing marks marks no word. -/
theorem State.isPoison_clear {s : State} {w n k : Nat} (h : s.isPoison k = false) : (s.mark false w n).isPoison k = false := by
  induction n generalizing s w with
  | zero => exact h
  | succ n ih =>
    refine ih ?_
    by_cases e : k = w
    · rw [e, State.isPoison]; exact tblGet_set_same (fun _ => false) s.poison w false
    · rw [State.isPoison]; exact (tblGet_set_ne (fun _ => false) s.poison e false).trans h
/-- A write of whole bytes poisons no word (R110). -/
theorem State.isPoison_put {s : State} {a : Nat} {bs : List Byte} {k : Nat} (h : s.isPoison k = false) : (s.put a bs).isPoison k = false :=
  State.isPoison_clear ((State.isPoison_congr (State.stBytes_poison s a bs) k).trans h)
/-- A range of which no word is poisoned after what poisons no word. -/
theorem State.anyPoison_mono {s t : State} (hm : ∀ k, s.isPoison k = false → t.isPoison k = false) {a n : Nat} (h : s.anyPoison a n = false) :
    t.anyPoison a n = false := by
  rw [State.anyPoison, List.any_eq_false] at h ⊢
  intro x hx
  rw [Bool.not_eq_true]
  exact hm _ (by simpa using h x hx)

/-! ### The canonical form -/

/-- Reset lists no cell. -/
theorem reset_mem_wf : Memory.wf State.reset.mem = true := rfl

theorem State.setByte_wf (s : State) (a : Nat) (v : Byte) (h : Memory.wf s.mem = true) : Memory.wf (s.setByte a v).mem = true := by
  rw [State.setByte_mem]; exact tblWf_set memDefault a v h
theorem State.stBytes_wf (s : State) (a : Nat) (bs : List Byte) (h : Memory.wf s.mem = true) : Memory.wf (s.stBytes a bs).mem = true := by
  induction bs generalizing s a with
  | nil => exact h
  | cons x t ih => exact ih _ _ (State.setByte_wf s a x h)
theorem State.st_wf (s : State) (a n v : Nat) (h : Memory.wf s.mem = true) : Memory.wf (s.st a n v).mem = true := by
  induction n generalizing s a v with
  | zero => exact h
  | succ n ih => exact ih _ _ _ (State.setByte_wf s a _ h)
theorem State.put_wf (s : State) (a : Nat) (bs : List Byte) (h : Memory.wf s.mem = true) : Memory.wf (s.put a bs).mem = true := by
  rw [State.put, State.mark_mem]; exact State.stBytes_wf s a bs h
theorem State.keepMem_wf (s : State) (q : Nat → Bool) (h : Memory.wf s.mem = true) : Memory.wf (s.keepMem q).mem = true := by
  have e : (s.keepMem q).mem = s.mem.filter fun c => q c.1 := by simp only [State.keepMem]
  rw [e]; exact tblWf_filter memDefault _ h

end Sys2Proof.Machine
end

