-- ==== Sys2Proof/Laws/Reg.lean ====
section
/-! SUPPORT. The laws of the register file: a register reads as it was last stored, storing one leaves the others, and the same for the
fields of a register. -/

namespace Sys2Proof.Machine

/-! ### Registers -/

/-- The value of a register from the configuration and the table alone. -/
theorem State.reg_eq (s : State) (b p o : Nat) : s.reg b p o = tblGet (regReset s.cfg) s.regs (regKey b p o) := by
  rw [State.reg]

theorem State.setReg_regs (s : State) (b p o : Nat) (v : Word) :
    (s.setReg b p o v).regs = tblSet (regReset s.cfg) s.regs (regKey b p o) v := by
  rw [State.setReg]

/-- Two states with one configuration and one register table have the same registers. -/
theorem State.reg_congr {s t : State} (hc : t.cfg = s.cfg) (hr : t.regs = s.regs) (b p o : Nat) : t.reg b p o = s.reg b p o := by
  rw [State.reg_eq, State.reg_eq, hc, hr]

/-- A register reads as it was stored. -/
@[simp] theorem State.reg_setReg_same (s : State) (b p o : Nat) (v : Word) : (s.setReg b p o v).reg b p o = v := by
  rw [State.reg_eq, State.setReg_regs, State.setReg_cfg, tblGet_set_same]

/-- Storing a register leaves every register with another key. -/
theorem State.reg_setReg_ne (s : State) (b p o : Nat) (v : Word) {b' p' o' : Nat} (h : regKey b' p' o' ≠ regKey b p o) :
    (s.setReg b p o v).reg b' p' o' = s.reg b' p' o' := by
  rw [State.reg_eq, State.setReg_regs, State.setReg_cfg, tblGet_set_ne _ _ h, ← State.reg_eq]

/-- The key of a register names its bank, its page and its offset. -/
theorem regKey_inj {b p o b' p' o' : Nat} (hp : p < 2 ^ 20) (ho : o < 4096) (hp' : p' < 2 ^ 20) (ho' : o' < 4096)
    (h : regKey b p o = regKey b' p' o') : b = b' ∧ p = p' ∧ o = o' := by
  unfold regKey at h
  omega

@[simp] theorem State.reg_answer (s : State) (st : Status) (b p o : Nat) : (s.answer st).reg b p o = s.reg b p o :=
  State.reg_congr (State.answer_cfg s st) (State.answer_regs s st) b p o
@[simp] theorem State.reg_entry (s : State) (b p o : Nat) : s.entry.reg b p o = s.reg b p o :=
  State.reg_congr (State.entry_cfg s) (State.entry_regs s) b p o
@[simp] theorem State.reg_setByte (s : State) (a : Nat) (v : Byte) (b p o : Nat) : (s.setByte a v).reg b p o = s.reg b p o :=
  State.reg_congr (State.setByte_cfg s a v) (State.setByte_regs s a v) b p o
@[simp] theorem State.reg_setUa (s : State) (q : Nat) (x : UAux) (b p o : Nat) : (s.setUa q x).reg b p o = s.reg b p o :=
  State.reg_congr (State.setUa_cfg s q x) (State.setUa_regs s q x) b p o
/-- After a command the registers are those of its effect, where the effect keeps the configuration. -/
theorem State.reg_closed (s t : State) (h : t.cfg = s.cfg) (b p o : Nat) : (s.closed t).reg b p o = t.reg b p o :=
  State.reg_congr (h ▸ State.closed_cfg s t) (State.closed_regs s t) b p o

/-! ### Fields -/

theorem bits_lt (w : Word) (hi lo : Nat) : bits w hi lo < 2 ^ (hi + 1 - lo) := Nat.mod_lt _ (Nat.two_pow_pos _)

/-- A word is its part above a field, the field, and its part below it. -/
theorem word_split (n hi lo : Nat) (h : lo ≤ hi) :
    n = n / 2 ^ (hi + 1) * 2 ^ (hi + 1) + n / 2 ^ lo % 2 ^ (hi + 1 - lo) * 2 ^ lo + n % 2 ^ lo := by
  have e : 2 ^ (hi + 1) = 2 ^ lo * 2 ^ (hi + 1 - lo) := by rw [← Nat.pow_add]; congr 1; omega
  have a := Nat.div_add_mod n (2 ^ lo)
  have b := Nat.div_add_mod (n / 2 ^ lo) (2 ^ (hi + 1 - lo))
  rw [Nat.div_div_eq_div_mul, ← e] at b
  calc n = 2 ^ lo * (n / 2 ^ lo) + n % 2 ^ lo := a.symm
    _ = 2 ^ lo * (2 ^ (hi + 1 - lo) * (n / 2 ^ (hi + 1)) + n / 2 ^ lo % 2 ^ (hi + 1 - lo)) + n % 2 ^ lo := by rw [b]
    _ = _ := by rw [e, Nat.mul_add, ← Nat.mul_assoc, Nat.mul_comm _ (n / _), Nat.mul_comm (2 ^ lo) (n / 2 ^ lo % _)]

/-- The number in a word after a field is replaced. -/
theorem setBits_toNat (w : Word) {hi lo : Nat} (h : lo ≤ hi) (h' : hi < 64) (v : Nat) :
    (setBits w hi lo v).toNat =
      w.toNat / 2 ^ (hi + 1) * 2 ^ (hi + 1) + v % 2 ^ (hi + 1 - lo) * 2 ^ lo + w.toNat % 2 ^ lo := by
  have e : 2 ^ (hi + 1) = 2 ^ (hi + 1 - lo) * 2 ^ lo := by rw [← Nat.pow_add]; congr 1; omega
  have hw := w.isLt
  have s := word_split w.toNat hi lo h
  have hv : v % 2 ^ (hi + 1 - lo) < 2 ^ (hi + 1 - lo) := Nat.mod_lt _ (Nat.two_pow_pos _)
  have hl : w.toNat % 2 ^ lo < 2 ^ lo := Nat.mod_lt _ (Nat.two_pow_pos _)
  have hm : v % 2 ^ (hi + 1 - lo) * 2 ^ lo + w.toNat % 2 ^ lo < 2 ^ (hi + 1) := by
    rw [e]
    calc _ < v % 2 ^ (hi + 1 - lo) * 2 ^ lo + 2 ^ lo := by omega
      _ = (v % 2 ^ (hi + 1 - lo) + 1) * 2 ^ lo := by rw [Nat.add_mul, Nat.one_mul]
      _ ≤ _ := Nat.mul_le_mul_right _ hv
  have e64 : 2 ^ 64 = 2 ^ (hi + 1) * 2 ^ (64 - (hi + 1)) := by rw [← Nat.pow_add]; congr 1; omega
  have hd : w.toNat / 2 ^ (hi + 1) < 2 ^ (64 - (hi + 1)) := Nat.div_lt_of_lt_mul (by rw [← e64]; exact hw)
  have hb : w.toNat / 2 ^ (hi + 1) * 2 ^ (hi + 1) + 2 ^ (hi + 1) ≤ 2 ^ 64 := by
    rw [e64, ← Nat.succ_mul, Nat.mul_comm (2 ^ (hi + 1))]
    exact Nat.mul_le_mul_right _ hd
  unfold setBits bits
  rw [BitVec.toNat_ofNat]
  have lt : w.toNat - w.toNat / 2 ^ lo % 2 ^ (hi + 1 - lo) * 2 ^ lo + v % 2 ^ (hi + 1 - lo) * 2 ^ lo < 2 ^ 64 := by omega
  rw [Nat.mod_eq_of_lt lt]
  omega

/-- A field reads as it was written, reduced to its width. -/
theorem bits_setBits_same (w : Word) {hi lo : Nat} (h : lo ≤ hi) (h' : hi < 64) (v : Nat) :
    bits (setBits w hi lo v) hi lo = v % 2 ^ (hi + 1 - lo) := by
  have e : 2 ^ (hi + 1) = 2 ^ (hi + 1 - lo) * 2 ^ lo := by rw [← Nat.pow_add]; congr 1; omega
  have hl : w.toNat % 2 ^ lo < 2 ^ lo := Nat.mod_lt _ (Nat.two_pow_pos _)
  unfold bits
  rw [setBits_toNat w h h' v]
  have e2 : w.toNat / 2 ^ (hi + 1) * 2 ^ (hi + 1) + v % 2 ^ (hi + 1 - lo) * 2 ^ lo + w.toNat % 2 ^ lo
      = w.toNat % 2 ^ lo + 2 ^ lo * (w.toNat / 2 ^ (hi + 1) * 2 ^ (hi + 1 - lo) + v % 2 ^ (hi + 1 - lo)) := by
    rw [e, Nat.mul_add, ← Nat.mul_assoc, Nat.mul_comm (2 ^ lo) (_ * _), Nat.mul_comm (2 ^ lo) (v % _)]; omega
  rw [e2, Nat.add_mul_div_left _ _ (Nat.two_pow_pos lo), Nat.div_eq_of_lt hl, Nat.zero_add, Nat.mul_comm, Nat.mul_add_mod,
    Nat.mod_mod]

/-- A field below the written one is left. -/
theorem bits_setBits_below (w : Word) {hi lo hi' lo' : Nat} (h : lo ≤ hi) (h' : hi < 64) (hb : hi' < lo) (hl : lo' ≤ hi') (v : Nat) :
    bits (setBits w hi lo v) hi' lo' = bits w hi' lo' := by
  have e1 : 2 ^ (hi + 1) = 2 ^ (hi + 1 - lo) * 2 ^ lo := by rw [← Nat.pow_add]; congr 1; omega
  have e2 : 2 ^ lo = 2 ^ lo' * 2 ^ (hi' + 1 - lo') * 2 ^ (lo - (hi' + 1)) := by
    rw [← Nat.pow_add, ← Nat.pow_add]; congr 1; omega
  have k (n a b m : Nat) (hm : b = m % 2 ^ lo) : (a * 2 ^ lo + b) / 2 ^ lo' % 2 ^ (hi' + 1 - lo') = b / 2 ^ lo' % 2 ^ (hi' + 1 - lo') := by
    have : a * 2 ^ lo + b = b + 2 ^ lo' * (2 ^ (hi' + 1 - lo') * (2 ^ (lo - (hi' + 1)) * a)) := by
      rw [e2]; ring
    rw [this, Nat.add_mul_div_left _ _ (Nat.two_pow_pos lo'), Nat.add_mul_mod_self_left]
  unfold bits
  rw [setBits_toNat w h h' v]
  have s := word_split w.toNat hi lo h
  have a1 := k 0 (w.toNat / 2 ^ (hi + 1) * 2 ^ (hi + 1 - lo) + v % 2 ^ (hi + 1 - lo)) (w.toNat % 2 ^ lo) w.toNat rfl
  have a2 := k 0 (w.toNat / 2 ^ (hi + 1) * 2 ^ (hi + 1 - lo) + w.toNat / 2 ^ lo % 2 ^ (hi + 1 - lo)) (w.toNat % 2 ^ lo) w.toNat rfl
  rw [Nat.add_mul, Nat.mul_assoc, ← e1] at a1 a2
  rw [a1]
  conv_rhs => rw [s]
  rw [a2]

/-- A field above the written one is left. -/
theorem bits_setBits_above (w : Word) {hi lo hi' lo' : Nat} (h : lo ≤ hi) (h' : hi < 64) (ha : hi < lo') (v : Nat) :
    bits (setBits w hi lo v) hi' lo' = bits w hi' lo' := by
  have e1 : 2 ^ (hi + 1) = 2 ^ (hi + 1 - lo) * 2 ^ lo := by rw [← Nat.pow_add]; congr 1; omega
  have e2 : 2 ^ lo' = 2 ^ (hi + 1) * 2 ^ (lo' - (hi + 1)) := by rw [← Nat.pow_add]; congr 1; omega
  have k (a m : Nat) (hm : m < 2 ^ (hi + 1)) : (a * 2 ^ (hi + 1) + m) / 2 ^ lo' = a / 2 ^ (lo' - (hi + 1)) := by
    rw [e2, ← Nat.div_div_eq_div_mul, Nat.mul_comm a, Nat.mul_add_div (Nat.two_pow_pos _), Nat.div_eq_of_lt hm, Nat.add_zero]
  have hl : w.toNat % 2 ^ lo < 2 ^ lo := Nat.mod_lt _ (Nat.two_pow_pos _)
  have lt (x : Nat) : x % 2 ^ (hi + 1 - lo) * 2 ^ lo + w.toNat % 2 ^ lo < 2 ^ (hi + 1) := by
    have hx : x % 2 ^ (hi + 1 - lo) < 2 ^ (hi + 1 - lo) := Nat.mod_lt _ (Nat.two_pow_pos _)
    rw [e1]
    calc _ < x % 2 ^ (hi + 1 - lo) * 2 ^ lo + 2 ^ lo := by omega
      _ = (x % 2 ^ (hi + 1 - lo) + 1) * 2 ^ lo := by rw [Nat.add_mul, Nat.one_mul]
      _ ≤ _ := Nat.mul_le_mul_right _ hx
  unfold bits
  rw [setBits_toNat w h h' v, Nat.add_assoc, k _ _ (lt v)]
  conv_rhs => rw [word_split w.toNat hi lo h, Nat.add_assoc, k _ _ (lt (w.toNat / 2 ^ lo))]

/-- A field reads as it was written. -/
theorem State.rdB_wrB_same (s : State) (b p : Nat) (f : Fld) (h : f.lo ≤ f.hi) (h' : f.hi < 64) (v : Nat) :
    (s.wrB b p f v).rdB b p f = v % 2 ^ (f.hi + 1 - f.lo) := by
  rw [State.rdB, State.wrB, State.reg_setReg_same, bits_setBits_same _ h h']

/-- Writing a field leaves the registers with another key. -/
theorem State.reg_wrB_ne (s : State) (b p : Nat) (f : Fld) (v : Nat) {b' p' o' : Nat} (h : regKey b' p' o' ≠ regKey b p f.off) :
    (s.wrB b p f v).reg b' p' o' = s.reg b' p' o' := by
  rw [State.wrB, State.reg_setReg_ne s _ _ _ _ h]

/-- A field of another register is left. -/
theorem State.rdB_wrB_ne (s : State) (b p : Nat) (f : Fld) (v : Nat) {b' p' : Nat} (g : Fld) (h : regKey b' p' g.off ≠ regKey b p f.off) :
    (s.wrB b p f v).rdB b' p' g = s.rdB b' p' g := by
  rw [State.rdB, State.reg_wrB_ne s b p f v h, ← State.rdB]

end Sys2Proof.Machine
end

