-- ==== Sys2Proof/Laws/Step.lean ====
section
/-! SUPPORT. What a command can do, said once: run its effect with what follows, or do nothing; and what every command keeps. -/

namespace Sys2Proof.Machine

section
variable {s : State} {f : State → State}

theorem actPin_eq : actPin s f = .next (s.ran f) := rfl
/-- A command in range of a powered package has its effect. -/
theorem act_run {ok : Bool} (h : ok = true) (hp : s.powered = true) : act s ok f = .next (s.ran f) := by
  rw [act, h, hp]; rfl
/-- A command out of range, or without power, has none (log entry 29). -/
theorem act_skip {ok : Bool} (h : (ok && s.powered) = false) : act s ok f = .next s.entry := by
  rw [act, h]; rfl
/-- A command has its effect, or none. -/
theorem act_cases (s : State) (ok : Bool) (f : State → State) :
    (ok = true ∧ s.powered = true ∧ act s ok f = .next (s.ran f)) ∨ ((ok && s.powered) = false ∧ act s ok f = .next s.entry) := by
  cases ok <;> cases h : s.powered <;> simp [act, h, actPin_eq]

@[simp] theorem State.ran_cfg (s : State) (f : State → State) : (s.ran f).cfg = s.cfg := rfl
@[simp] theorem State.ran_pending (s : State) (f : State → State) : (s.ran f).pending = s.pending := rfl

/-- A command whose effect leaves nothing to follow leaves its effect. -/
theorem State.ran_calm (h : s.calm f) (hc : (f s.entry).cfg = s.cfg) (hq : (f s.entry).pending = s.pending) : s.ran f = f s.entry := by
  rw [State.ran, State.after_quiet h, State.closed, ← hc, ← hq]

end

end Sys2Proof.Machine
end

