-- ==== Sys2Proof/Laws/Page.lean ====
section
/-! SUPPORT. The laws of pages and of the register write: which unit a page names, what a write that is refused as a whole does, and that
the state in which a command starts is refused nothing else. -/

namespace Sys2Proof.Machine

/-- The ranges of two unit types share no page (R47). -/
theorem unitRange_disjoint (t u : UType) :
    t = u ∨ (unitRange t).1 + (unitRange t).2 ≤ (unitRange u).1 ∨ (unitRange u).1 + (unitRange u).2 ≤ (unitRange t).1 := by
  revert t u; intro t u
  cases t <;> cases u <;> decide

/-- The page of an instance names that instance (R47). -/
theorem unitOf_pg {t : UType} {k : Nat} (h : k < (unitRange t).2) : unitOf (pg t k) = some (t, k) := by
  rw [unitOf]
  have hm : t ∈ allTypes := by cases t <;> decide
  have e : (allTypes.find? fun u => decide ((unitRange u).1 ≤ pg t k) && decide (pg t k < (unitRange u).1 + (unitRange u).2)) = some t := by
    cases hf : allTypes.find? _ with
    | none =>
      have := List.find?_eq_none.mp hf t hm
      simp [pg] at this; omega
    | some u =>
      have a : (decide ((unitRange u).1 ≤ pg t k) && decide (pg t k < (unitRange u).1 + (unitRange u).2)) = true := by
        have := List.find?_some hf
        exact this
      have a := And.intro (of_decide_eq_true (Bool.and_eq_true_iff.mp a).1) (of_decide_eq_true (Bool.and_eq_true_iff.mp a).2)
      rw [pg] at a
      rcases unitRange_disjoint t u with d | d | d
      · rw [d]
      · exact absurd a.1 (by omega)
      · exact absurd a.2 (by omega)
  rw [e]; simp [pg]

@[simp] theorem typeOf_pg {t : UType} {k : Nat} (h : k < (unitRange t).2) : typeOf (pg t k) = t := by rw [typeOf, unitOf_pg h]
@[simp] theorem instOf_pg {t : UType} {k : Nat} (h : k < (unitRange t).2) : instOf (pg t k) = k := by rw [instOf, unitOf_pg h]
theorem absentPg_pg {t : UType} {k : Nat} (c : PkgCfg) (h : k < (unitRange t).2) : absentPg c (pg t k) = absentUnit c t k := by
  rw [absentPg, unitOf_pg h]

/-! The write of a page is that of its type, where the map defines the offset (R48). -/

section
variable {k off : Nat} (s : State) (v : Word)

theorem State.writeType_tile (h : k < (unitRange .tile).2) (hf : (findRow .tile off).isNone = false) :
    s.writeType (pg .tile k) off v = s.writeTile (pg .tile k) off v := by
  rw [State.writeType, typeOf_pg h, instOf_pg h, hf]; simp only [Bool.false_eq_true, if_false]
theorem State.writeType_gang (h : k < (unitRange .gang).2) (hf : (findRow .gang off).isNone = false) :
    s.writeType (pg .gang k) off v = s.writeTile (pg .gang k) off v := by
  rw [State.writeType, typeOf_pg h, instOf_pg h, hf]; simp only [Bool.false_eq_true, if_false]
theorem State.writeType_halo (h : k < (unitRange .halo).2) (hf : (findRow .halo off).isNone = false) :
    s.writeType (pg .halo k) off v = s.writeHalo k off v := by
  rw [State.writeType, typeOf_pg h, instOf_pg h, hf]; simp only [Bool.false_eq_true, if_false]
theorem State.writeType_gmem (h : k < (unitRange .gmem).2) (hf : (findRow .gmem off).isNone = false) :
    s.writeType (pg .gmem k) off v = s.writeGmem k off v := by
  rw [State.writeType, typeOf_pg h, instOf_pg h, hf]; simp only [Bool.false_eq_true, if_false]
theorem State.writeType_mcache (h : k < (unitRange .mcache).2) (hf : (findRow .mcache off).isNone = false) :
    s.writeType (pg .mcache k) off v = s.writeMcache k off v := by
  rw [State.writeType, typeOf_pg h, instOf_pg h, hf]; simp only [Bool.false_eq_true, if_false]
theorem State.writeType_pool (h : k < (unitRange .pool).2) (hf : (findRow .pool off).isNone = false) :
    s.writeType (pg .pool k) off v = s.writePool k off v := by
  rw [State.writeType, typeOf_pg h, instOf_pg h, hf]; simp only [Bool.false_eq_true, if_false]
theorem State.writeType_check (h : k < (unitRange .check).2) (hf : (findRow .check off).isNone = false) :
    s.writeType (pg .check k) off v = s.writeCheck k off v := by
  rw [State.writeType, typeOf_pg h, instOf_pg h, hf]; simp only [Bool.false_eq_true, if_false]
theorem State.writeType_updraft (h : k < (unitRange .updraft).2) (hf : (findRow .updraft off).isNone = false) :
    s.writeType (pg .updraft k) off v = s.writeUpdraft k off v := by
  rw [State.writeType, typeOf_pg h, instOf_pg h, hf]; simp only [Bool.false_eq_true, if_false]
theorem State.writeType_stepseq (h : k < (unitRange .stepseq).2) (hf : (findRow .stepseq off).isNone = false) :
    s.writeType (pg .stepseq k) off v = s.writeStepseq k off v := by
  rw [State.writeType, typeOf_pg h, instOf_pg h, hf]; simp only [Bool.false_eq_true, if_false]
theorem State.writeType_squall (h : k < (unitRange .squall).2) (hf : (findRow .squall off).isNone = false) :
    s.writeType (pg .squall k) off v = s.writeSquall k off v := by
  rw [State.writeType, typeOf_pg h, instOf_pg h, hf]; simp only [Bool.false_eq_true, if_false]
theorem State.writeType_contrail (h : k < (unitRange .contrail).2) (hf : (findRow .contrail off).isNone = false) :
    s.writeType (pg .contrail k) off v = s.writeContrail k off v := by
  rw [State.writeType, typeOf_pg h, instOf_pg h, hf]; simp only [Bool.false_eq_true, if_false]
theorem State.writeType_flink (h : k < (unitRange .flink).2) (hf : (findRow .flink off).isNone = false) :
    s.writeType (pg .flink k) off v = s.writeFlink k off v := by
  rw [State.writeType, typeOf_pg h, instOf_pg h, hf]; simp only [Bool.false_eq_true, if_false]
theorem State.writeType_frouter (h : k < (unitRange .frouter).2) (hf : (findRow .frouter off).isNone = false) :
    s.writeType (pg .frouter k) off v = s.writeFrouter (pg .frouter k) off v := by
  rw [State.writeType, typeOf_pg h, instOf_pg h, hf]; simp only [Bool.false_eq_true, if_false]
theorem State.writeType_enet (h : k < (unitRange .enet).2) (hf : (findRow .enet off).isNone = false) :
    s.writeType (pg .enet k) off v = s.writeEnet k off v := by
  rw [State.writeType, typeOf_pg h, instOf_pg h, hf]; simp only [Bool.false_eq_true, if_false]
theorem State.writeType_rtu (h : k < (unitRange .rtu).2) (hf : (findRow .rtu off).isNone = false) :
    s.writeType (pg .rtu k) off v = s.writeRtu off v := by
  rw [State.writeType, typeOf_pg h, instOf_pg h, hf]; simp only [Bool.false_eq_true, if_false]
theorem State.writeType_pwr (h : k < (unitRange .pwr).2) (hf : (findRow .pwr off).isNone = false) :
    s.writeType (pg .pwr k) off v = s.pwrWrite off (s.merged (pg .pwr k) off v) := by
  rw [State.writeType, typeOf_pg h, instOf_pg h, hf]; simp only [Bool.false_eq_true, if_false]
theorem State.writeType_therm (h : k < (unitRange .therm).2) (hf : (findRow .therm off).isNone = false) :
    s.writeType (pg .therm k) off v = s.thermWrite off (s.merged (pg .therm k) off v) := by
  rw [State.writeType, typeOf_pg h, instOf_pg h, hf]; simp only [Bool.false_eq_true, if_false]
theorem State.writeType_island (h : k < (unitRange .island).2) (hf : (findRow .island off).isNone = false) :
    s.writeType (pg .island k) off v = (if off = 0x100 then s.vSetWrite k v else s) := by
  rw [State.writeType, typeOf_pg h, instOf_pg h, hf]; simp only [Bool.false_eq_true, if_false]

end

/-- Two registers of one page at two offsets have two keys. -/
theorem regKey_ne_off {b b' p p' o o' : Nat} (h : o < 4096) (h' : o' < 4096) (n : o ≠ o') : regKey b p o ≠ regKey b' p' o' := by
  unfold regKey; omega

/-- A write that is refused as a whole is answered with its status, and sets Q_REFUSED where R105 has it. -/
theorem State.regWrite_barred {s : State} {co keys : Bool} {p off : Nat} {v : Word} {st : Status}
    (h : s.writeBar co keys p off v = some st) : s.regWrite co keys p off v = (s.qRefused p off).answer st := by rw [State.regWrite, h]
/-- A write that nothing refuses is the write of the page. -/
theorem State.regWrite_open {s : State} {co keys : Bool} {p off : Nat} {v : Word} (h : s.writeBar co keys p off v = none) :
    s.regWrite co keys p off v = if off < 0x100 then s.writeCommon p off v else s.writeType p off v := by rw [State.regWrite, h]

@[simp] theorem State.writeBar_entry (s : State) : s.entry.writeBar = s.writeBar := rfl
@[simp] theorem State.rd_entry (s : State) (p : Nat) (f : Fld) : s.entry.rd p f = s.rd p f := rfl
@[simp] theorem State.quiet_entry (s : State) (was : Bool) : s.entry.quiet was = s.quiet was := rfl

/-- A register command that nothing refuses as a whole, whose write is the effect `f`, and after which nothing waits, leaves that effect. -/
theorem State.ran_open {s : State} {co keys : Bool} {p off : Nat} {v : Word} {f : State → State} (hb : s.writeBar co keys p off v = none)
    (hf : (if off < 0x100 then s.entry.writeCommon p off v else s.entry.writeType p off v) = f s.entry)
    (hc : s.calm f) (h1 : (f s.entry).cfg = s.cfg) (h2 : (f s.entry).pending = s.pending) :
    s.ran (fun t => t.regWrite co keys p off v) = f s.entry := by
  have k : s.entry.regWrite co keys p off v = f s.entry := by rw [State.regWrite_open (by rw [State.writeBar_entry]; exact hb), hf]
  rw [State.ran_calm (f := fun t => t.regWrite co keys p off v), k]
  · rw [State.calm, k]; exact hc
  · rw [k]; exact h1
  · rw [k]; exact h2
/-- A register command that is only answered with a status leaves everything else. -/
theorem State.ran_answer {s : State} {co keys : Bool} {p off : Nat} {v : Word} {st : Status} (hb : s.writeBar co keys p off v = none)
    (hf : (if off < 0x100 then s.entry.writeCommon p off v else s.entry.writeType p off v) = s.entry.answer st)
    (hq : s.quiet s.faultL = true) : s.ran (fun t => t.regWrite co keys p off v) = { s with out := [], ret := st } :=
  State.ran_open (f := fun t => t.answer st) hb hf hq rfl rfl

end Sys2Proof.Machine
end

