-- ==== Sys2Proof/Tests/Slice0.lean ====
section
/-! SUPPORT. Tests: the ill-formed terms that well-formedness refuses, values that the spec works out, and for every statement with
hypotheses states and operands that meet them all (`wit_` names the statement's witness). -/

open Sys2Proof Sys2Proof.Machine

namespace Sys2Proof.Tests

-- One test after the other: each evaluates in the kernel, and tests that wait for one another would hold a thread apiece.
set_option Elab.async false

/-! ### Well-formedness -/

/-- A packet of opcode 0x01 for this package. -/
def pk : Pkt := { op := 1 }
/-- A setup datagram. -/
def su : Setup := { via := { port := 0, src := 1 }, header := List.replicate 40 0, body := [] }
/-- A datagram of session 0. -/
def dg : Dgram := { via := { port := 0, src := 1 }, header := List.replicate 40 0, body := [] }

theorem test_wf_accepts_1 : ([
    .regWrite false false 0 0 0, .halt 0 0, .drain 0 0, .kill 0 0, .resume 0 0, .evtStatClear 0 0 0, .evtMaskWrite 0 0, .errInfoClear 0 0 none,
    .unitReset 0 0, .isolate 0 0, .release 0 0, .selftestStart 0 0, .selftestDone 0 false 0, .tgIslandsWrite 0 0, .bind 0 0, .unbind 0 0,
    .tileError 0 1 0, .tileRetire 0 0, .qTailWrite 0 0 0, .qCplHeadWrite 0 0 0, .qEnableWrite 0 0 0, .tileApply 0 0, .cmdStart 0, .cmdComplete 0 0 0,
    .killComplete 0, .meshHopCrcFail 0 0, .meshArrival 0 0 0 0 0 (.inl []), .scrub 0 0, .null 0, .syncWait 0, .syncSignal 0, .syncBarrier 0,
    .syncFence 0, .syncTimeout 0 0, .haloCheck 0, .haloFlush 0, .haloClear 0, .mmaDense 0, .mmaGrouped 0, .attn 0, .vecAdd 0, .vecMul 0, .vecFma 0,
    .vecAxpb 0, .vecRmsnorm 0, .vecLayernorm 0, .vecSoftmax 0, .vecSiluMul 0, .vecGelu 0, .vecRope 0, .vecExp2 0, .vecLog2 0, .vecRecip 0,
    .vecRsqrt 0, .vecTanh 0, .vecRowsum 0, .vecRowmax 0, .vecTopk 0, .vecCast 0, .vecAdamw 0] : List Instr).all Instr.wf = true := by decide +kernel
theorem test_wf_accepts_2 : ([
    .qntQuant 0, .qntDequant 0, .sample 0, .movCopy 0, .movLoad 0 [], .movStore 0 [], .movMeshPut 0, .movBcast 0, .movFill 0, .fetchSingle 0,
    .fetchList 0, .exchPut 0, .exchAddF32 0, .exchAddI64 0, .exchMaxF32 0, .exchSend 0, .tmma 0, .tgrad 0, .haloEvaluate 0, .haloLogPop 0 0,
    .haloWpWrite 0 0x110 0, .rcpModeWrite 0 0x148 0, .gmemCopy 0 0, .gmemReturn 0 0, .gmemRelocDone 0, .mcFlushStart 0 0, .mcFlushDone 0,
    .btLinkDown 0 0, .btRetrain 0 0, .poolApply 0 0, .poolApplyDone 0, .evictWaitExpiry 0, .evictStart 0, .poolMoveDone 0 0, .poolAge 0,
    .poolReqTailWrite 0 0, .poolCplHeadWrite 0 0, .park 0 0, .promote 0 0, .drop 0 0, .fork 0 0, .setQuota 0 0, .querySeq 0 0, .queryCust 0 0,
    .udTableCheck 0 0, .udEnableWrite 0 0, .useArm 0, .fillEntry 0 0 0 [], .loadStart 0 0, .pullData 0 0 0 [] [], .pullTimeoutExpiry 0 0,
    .loadResume 0 0, .loadAbort 0 0, .swapPrepare 0 0, .swapCommit 0 0, .swapCancel 0 0, .swapCopyChunk 0 [], .grant 0 0 [], .programCheck 0 0,
    .stepOpen 0] : List Instr).all Instr.wf = true := by decide +kernel
theorem test_wf_accepts_3 : ([
    .gapWaitExpiry 0, .sliceEnd 0, .sectionDispatch 0, .layerGo 0 0, .stepCommit 0, .stepKillResolve 0, .abortStep 0 0, .isolationLimitExpiry 0,
    .expertFetch 0 0 0, .combine 0 0 0, .dispatch 0 0 0, .returnJob 0 0 0, .allReduce 0 0 0, .reduceScatter 0 0 0, .allGather 0 0 0,
    .sqJobComplete 0 0 0, .sqJobTimeout 0 0 0, .planCheck 0 0, .seqOpen 0 0 [], .seqPrompt 0 0 [], .seqBind 0 0 [], .seqClose 0 0 [],
    .seqSubscribe 0 0 [], .seqAck 0 0 [], .seqQuery 0 0 [], .keepaliveExpiry 0, .bkBalanceWrite 0 0, .bkCredit 0 0, .adInstall 0 0, .adInstallDone 0,
    .adRetire 0 0, .ctEnableWrite 0 0, .flEnableWrite 0 0, .linkDetect 0 0, .linkRxReady 0 0, .linkAlignDone 0 [], .trainingTimeout 0,
    .linkDownWaitExpiry 0, .frameRx 0 (false, false) (List.replicate 1285 0) [], .replayReq 0 0, .ackStallExpiry 0, .ident 0 [], .identAck 0 0 0,
    .identResendExpiry 0, .mirror 0 0, .mirrorOn 0 0 0, .steered 0 0 0, .laneRelease 0 0, .eqReq 0 0 0, .eqSet 0 0 0, .laneFail 0 0, .recal 0 0,
    .autoRecalTurn 0, .recalAdaptDone 0 false, .noFrameTimeout 0, .flRetrain 0 0, .accept 0 0, .nbrExpectWrite 0 0, .ftRd 0 pk [] 0 0,
    .ftWrStaged 0 pk [] 0 0] : List Instr).all Instr.wf = true := by decide +kernel
theorem test_wf_accepts_4 : ([
    .ftAddF32 0 pk [] 0 0, .ftAddI64 0 pk [] 0 0, .ftMaxF32 0 pk [] 0 0, .ftFence 0 pk, .ftNotice 0 pk, .ftRdRsp 0 pk, .ftStagedAck 0 pk,
    .ftHold 0 pk, .ftFenceAck 0 pk, .ftNoticeAck 0 pk, .ftMsgTile 0 pk, .ftMsgMark 0 pk, .ftMsgBundle 0 pk, .ftMsgAck 0 pk, .fabricReady 0 pk,
    .swapReadyMsg 0 pk, .mgmtRd 0 pk, .mgmtWr 0 pk, .mgmtRsp 0 pk, .reqTimeoutExpiry 0 0, .holdTimerExpiry 0, .noticeRetryExpiry 0,
    .cbTimeoutExpiry 0 0 0 0, .combineWindowClose 0, .hotQueueRelease 0 0, .impValidWrite 0 0, .routeFault 0, .packetForward 0 0 pk,
    .lostDelayExpiry 0, .lostSet 0 0, .lostClear 0 0, .join 0 0, .leave 0 0, .rtEntryWrite 0 0 0, .psetWrite 0 0 0, .tgValidWrite 0 0,
    .domainCfgWrite 0 0, .hello su, .finish su.via su.header (List.replicate 1568 0) (List.replicate 32 0), .setupTimeout 0, .gctClose 0, .ackOnly dg, .segmentRx dg [], .rtoExpiry 0,
    .ackDelayExpiry 0, .sessionIdleExpiry 0, .regAccess 0 0 [], .dpWrite 0 0 [] [], .dpRead 0 0 [] [], .evtSub 0 0 [], .getCerts 0 0 [],
    .getEvidence 0 0 [], .heartbeat 0 0 [], .sessClose 0 0, .sessMove 0 0, .saLoad 0 false 0, .enetLinkChange 0 0, .ptpMessage { port := 0 } 0 0 0,
    .syncLossExpiry 0, .todArm 0] : List Instr).all Instr.wf = true := by decide +kernel
theorem test_wf_accepts_5 : ([
    .ppsInEdge, .ppsOutPulse, .pwrGoodRise, .pwrGoodFall, .pkgResetAssert, .pkgResetRelease, .bootStageDone [], .bootStageTimeout [], .warmReset 0,
    .watchdogExpiry 0, .criticalUncorr 0 0 0, .optCommit 0, .optCommitDone false, .svnCommit false 0, .revoke false 0, .akLoad false 0,
    .akClear false 0, .fwVerify false 0, .fwVerifyDone, .fwApply false 0, .cprocReadyTimeout 0, .ucodeLoad 0, .ucodeIdleExpiry 0, .fwPersist false 0,
    .fwPersistDone false, .zeroize false 0, .decommission false 0, .rtuHealthFail 0, .vinLow, .brownOut, .brownoutRecover, .brownoutTimeout,
    .vinUndervoltage, .refclkLoss, .capTick 0, .pwrAlert, .pwrAlertRelease, .alertHoldExpiry, .vSetWrite 0 0, .thermSample (List.replicate 26 0),
    .thermTrip 0, .hbTimeoutExpiry, .orphanExpiry, .i3cAddrAssign 0, .pldmRequest [], .pldmSensorUpdate, .cprocReady 0, .gmemRetrainDone 0 false,
    .btLinkUp 0 0 0 0, .loadVerifyDone 0, .programCheckDone 0, .tableCheckDone 0, .planCheckDone 0 0, .fuseBlowDone false, .keyStoreWriteDone false,
    .evidenceSigned, .vinOperatingRange, .cxlDeviceEvent 0 0] : List Instr).all Instr.wf = true := by decide +kernel
theorem test_wf_refuses_1 : ([
    .regWrite false false (2 ^ 20) 0 0, .regWrite false false 0 4096 0, .halt (2 ^ 20) 0, .drain (2 ^ 20) 0, .kill (2 ^ 20) 0, .resume (2 ^ 20) 0,
    .evtStatClear (2 ^ 20) 0 0, .evtMaskWrite (2 ^ 20) 0, .errInfoClear (2 ^ 20) 0 none, .errInfoClear 0 0 (some (256, 0, 0)),
    .errInfoClear 0 0 (some (0, 16, 0)), .errInfoClear 0 0 (some (0, 0, 2 ^ 32)), .unitReset (2 ^ 20) 0, .isolate (2 ^ 20) 0, .release (2 ^ 20) 0,
    .selftestStart (2 ^ 20) 0, .selftestDone (2 ^ 20) false 0, .selftestDone 0 false 256, .tgIslandsWrite 8 0, .bind (2 ^ 20) 0, .unbind (2 ^ 20) 0,
    .tileError 288 1 0, .tileError 0 0 0, .tileError 0 7 0, .tileError 0 1 (2 ^ 32), .tileRetire (2 ^ 20) 0, .qTailWrite (2 ^ 20) 0 0,
    .qTailWrite 0 4 0, .qCplHeadWrite (2 ^ 20) 0 0, .qCplHeadWrite 0 4 0, .qEnableWrite (2 ^ 20) 0 0, .qEnableWrite 0 4 0, .tileApply (2 ^ 20) 0,
    .cmdStart (2 ^ 20), .cmdComplete (2 ^ 20) 0 0, .cmdComplete 0 4 0, .cmdComplete 0 0 65536, .killComplete (2 ^ 20), .meshHopCrcFail 288 0,
    .meshHopCrcFail 0 4, .meshArrival (2 ^ 20) 0 0 0 0 (.inl []), .meshArrival 0 (2 ^ 32) 0 0 0 (.inl []), .meshArrival 0 0 65536 0 0 (.inl []),
    .meshArrival 0 0 0 288 0 (.inl []), .meshArrival 0 0 0 0 (2 ^ 27) (.inl []), .scrub 288 0, .scrub 0 3, .null (2 ^ 20), .syncWait (2 ^ 20),
    .syncSignal (2 ^ 20), .syncBarrier (2 ^ 20), .syncFence (2 ^ 20), .syncTimeout (2 ^ 20) 0, .syncTimeout 0 1, .haloCheck (2 ^ 20),
    .haloFlush (2 ^ 20), .haloClear (2 ^ 20), .mmaDense (2 ^ 20), .mmaGrouped (2 ^ 20), .attn (2 ^ 20), .vecAdd (2 ^ 20), .vecMul (2 ^ 20),
    .vecFma (2 ^ 20), .vecAxpb (2 ^ 20), .vecRmsnorm (2 ^ 20), .vecLayernorm (2 ^ 20), .vecSoftmax (2 ^ 20), .vecSiluMul (2 ^ 20), .vecGelu (2 ^ 20),
    .vecRope (2 ^ 20), .vecExp2 (2 ^ 20), .vecLog2 (2 ^ 20), .vecRecip (2 ^ 20), .vecRsqrt (2 ^ 20), .vecTanh (2 ^ 20)] : List Instr).any Instr.wf = false := by decide +kernel
theorem test_wf_refuses_2 : ([
    .vecRowsum (2 ^ 20), .vecRowmax (2 ^ 20), .vecTopk (2 ^ 20), .vecCast (2 ^ 20), .vecAdamw (2 ^ 20), .qntQuant (2 ^ 20), .qntDequant (2 ^ 20),
    .sample (2 ^ 20), .movCopy (2 ^ 20), .movLoad (2 ^ 20) [], .movLoad 0 [.crc 0 10], .movStore (2 ^ 20) [], .movStore 0 [.crc 0 10],
    .movMeshPut (2 ^ 20), .movBcast (2 ^ 20), .movFill (2 ^ 20), .fetchSingle (2 ^ 20), .fetchList (2 ^ 20), .exchPut (2 ^ 20), .exchAddF32 (2 ^ 20),
    .exchAddI64 (2 ^ 20), .exchMaxF32 (2 ^ 20), .exchSend (2 ^ 20), .tmma (2 ^ 20), .tgrad (2 ^ 20), .haloEvaluate 8, .haloLogPop 8 0,
    .haloWpWrite 8 0x110 0, .haloWpWrite 0 0x108 0, .haloWpWrite 0 0x138 0, .rcpModeWrite 8 0x148 0, .rcpModeWrite 0 0x140 0, .gmemCopy 20 0,
    .gmemReturn 20 0, .gmemRelocDone 20, .mcFlushStart 2 0, .mcFlushDone 2, .btLinkDown 2 0, .btLinkDown 0 2, .btRetrain 2 0, .poolApply 8 0,
    .poolApplyDone 8, .evictWaitExpiry 8, .evictStart 8, .poolMoveDone 8 0, .poolMoveDone 0 (2 ^ 24), .poolAge 8, .poolReqTailWrite 8 0,
    .poolCplHeadWrite 8 0, .park 8 0, .park 0 65536, .promote 8 0, .promote 0 65536, .drop 8 0, .drop 0 65536, .fork 8 0, .fork 0 65536,
    .setQuota 8 0, .setQuota 0 65536, .querySeq 8 0, .querySeq 0 65536, .queryCust 8 0, .queryCust 0 65536, .udTableCheck 8 0, .udEnableWrite 8 0,
    .useArm 8, .fillEntry 8 0 0 [], .fillEntry 0 1024 0 [], .fillEntry 0 0 65536 [], .fillEntry 0 0 0 [.crc 0 10], .loadStart 8 0,
    .pullData 4096 0 0 [] [], .pullData 0 (2 ^ 32) 0 [] [], .pullData 0 0 256 [] [], .pullData 0 0 0 [] [.crc 0 10]] : List Instr).any Instr.wf = false := by decide +kernel
theorem test_wf_refuses_3 : ([
    .pullTimeoutExpiry 8 0, .pullTimeoutExpiry 0 (2 ^ 24), .loadResume 8 0, .loadAbort 8 0, .swapPrepare 8 0, .swapCommit 8 0, .swapCancel 8 0,
    .swapCopyChunk 8 [], .swapCopyChunk 0 [.crc 0 10], .grant 4096 0 [], .grant 0 (2 ^ 32) [], .programCheck 8 0, .stepOpen 8, .gapWaitExpiry 8,
    .sliceEnd 8, .sectionDispatch 8, .layerGo 8 0, .stepCommit 8, .stepKillResolve 8, .abortStep 8 0, .isolationLimitExpiry 8, .expertFetch 2 0 0,
    .expertFetch 0 8 0, .expertFetch 0 0 65536, .combine 2 0 0, .combine 0 8 0, .combine 0 0 65536, .dispatch 2 0 0, .dispatch 0 8 0,
    .dispatch 0 0 65536, .returnJob 2 0 0, .returnJob 0 8 0, .returnJob 0 0 65536, .allReduce 2 0 0, .allReduce 0 8 0, .allReduce 0 0 65536,
    .reduceScatter 2 0 0, .reduceScatter 0 8 0, .reduceScatter 0 0 65536, .allGather 2 0 0, .allGather 0 8 0, .allGather 0 0 65536,
    .sqJobComplete 2 0 0, .sqJobComplete 0 8 0, .sqJobComplete 0 0 65536, .sqJobTimeout 2 0 0, .sqJobTimeout 0 8 0, .sqJobTimeout 0 0 65536,
    .planCheck 2 0, .seqOpen 4096 0 [], .seqOpen 0 (2 ^ 32) [], .seqPrompt 4096 0 [], .seqPrompt 0 (2 ^ 32) [], .seqBind 4096 0 [],
    .seqBind 0 (2 ^ 32) [], .seqClose 4096 0 [], .seqClose 0 (2 ^ 32) [], .seqSubscribe 4096 0 [], .seqSubscribe 0 (2 ^ 32) [], .seqAck 4096 0 [],
    .seqAck 0 (2 ^ 32) [], .seqQuery 4096 0 [], .seqQuery 0 (2 ^ 32) [], .keepaliveExpiry 8192, .bkBalanceWrite 2 0, .bkCredit 2 0, .adInstall 2 0,
    .adInstallDone 4096, .adRetire 2 0, .ctEnableWrite 2 0, .flEnableWrite 24 0, .linkDetect 24 0, .linkDetect 0 512, .linkRxReady 24 0,
    .linkRxReady 0 512] : List Instr).any Instr.wf = false := by decide +kernel
theorem test_wf_refuses_4 : ([
    .linkAlignDone 24 [], .linkAlignDone 0 [2 ^ 40], .linkAlignDone 0 (List.replicate 10 0), .trainingTimeout 24, .linkDownWaitExpiry 24, .frameRx 24 (false, false) (List.replicate 1285 0) [],
    .frameRx 0 (false, false) [] [], .frameRx 0 (false, false) (List.replicate 1285 0) (List.replicate 10 0), .replayReq 24 0, .replayReq 0 1024, .ackStallExpiry 24,
    .ident 24 [], .ident 0 [256], .identAck 24 0 0, .identAck 0 256 0, .identAck 0 0 256, .identResendExpiry 24, .mirror 24 0, .mirror 0 8,
    .mirrorOn 24 0 0, .mirrorOn 0 8 0, .mirrorOn 0 0 1024, .steered 24 0 0, .steered 0 8 0, .steered 0 0 9, .laneRelease 24 0, .laneRelease 0 9,
    .eqReq 24 0 0, .eqReq 0 9 0, .eqReq 0 0 16, .eqSet 24 0 0, .eqSet 0 9 0, .eqSet 0 0 16, .laneFail 24 0, .laneFail 0 8, .recal 24 0,
    .autoRecalTurn 24, .recalAdaptDone 24 false, .noFrameTimeout 24, .flRetrain 24 0, .accept 24 0, .nbrExpectWrite 24 0, .ftRd 24 pk [] 0 0,
    .ftRd 0 { pk with op := 256 } [] 0 0, .ftRd 0 pk [.crc 0 10] 0 0, .ftRd 0 pk [] 0 128, .ftWrStaged 24 pk [] 0 0,
    .ftWrStaged 0 { pk with op := 256 } [] 0 0, .ftWrStaged 0 pk [.crc 0 10] 0 0, .ftWrStaged 0 pk [] 0 128, .ftAddF32 24 pk [] 0 0,
    .ftAddF32 0 { pk with op := 256 } [] 0 0, .ftAddF32 0 pk [.crc 0 10] 0 0, .ftAddF32 0 pk [] 0 128, .ftAddI64 24 pk [] 0 0,
    .ftAddI64 0 { pk with op := 256 } [] 0 0, .ftAddI64 0 pk [.crc 0 10] 0 0, .ftAddI64 0 pk [] 0 128, .ftMaxF32 24 pk [] 0 0,
    .ftMaxF32 0 { pk with op := 256 } [] 0 0, .ftMaxF32 0 pk [.crc 0 10] 0 0, .ftMaxF32 0 pk [] 0 128, .ftFence 24 pk,
    .ftFence 0 { pk with op := 256 }, .ftNotice 24 pk, .ftNotice 0 { pk with op := 256 }, .ftRdRsp 24 pk, .ftRdRsp 0 { pk with op := 256 },
    .ftStagedAck 24 pk, .ftStagedAck 0 { pk with op := 256 }, .ftHold 24 pk, .ftHold 0 { pk with op := 256 }, .ftFenceAck 24 pk,
    .ftFenceAck 0 { pk with op := 256 }, .ftNoticeAck 24 pk, .ftNoticeAck 0 { pk with op := 256 }] : List Instr).any Instr.wf = false := by decide +kernel
theorem test_wf_refuses_5 : ([
    .ftMsgTile 24 pk, .ftMsgTile 0 { pk with op := 256 }, .ftMsgMark 24 pk, .ftMsgMark 0 { pk with op := 256 }, .ftMsgBundle 24 pk,
    .ftMsgBundle 0 { pk with op := 256 }, .ftMsgAck 24 pk, .ftMsgAck 0 { pk with op := 256 }, .fabricReady 24 pk,
    .fabricReady 0 { pk with op := 256 }, .swapReadyMsg 24 pk, .swapReadyMsg 0 { pk with op := 256 }, .mgmtRd 24 pk, .mgmtRd 0 { pk with op := 256 },
    .mgmtWr 24 pk, .mgmtWr 0 { pk with op := 256 }, .mgmtRsp 24 pk, .mgmtRsp 0 { pk with op := 256 }, .reqTimeoutExpiry (2 ^ 20) 0,
    .reqTimeoutExpiry 0 512, .cbTimeoutExpiry 128 0 0 0, .cbTimeoutExpiry 0 8 0 0, .cbTimeoutExpiry 0 0 (2 ^ 32) 0, .cbTimeoutExpiry 0 0 0 16,
    .hotQueueRelease 2 0, .hotQueueRelease 0 (2 ^ 37), .impValidWrite 2 0, .routeFault 24, .packetForward 24 0 pk, .packetForward 0 5 pk,
    .packetForward 0 0 { pk with op := 256 }, .lostDelayExpiry 128, .lostSet 2 0, .lostClear 2 0, .join 64 0, .leave 64 0, .rtEntryWrite 2 0 0,
    .rtEntryWrite 0 4096 0, .psetWrite 2 0 0, .psetWrite 0 4 0, .tgValidWrite 2 0, .domainCfgWrite 2 0, .hello { su with via := { port := 8, src := 1 } },
    .finish { port := 8, src := 1 } (List.replicate 40 0) (List.replicate 1568 0) (List.replicate 32 0),
    .finish su.via [] (List.replicate 1568 0) (List.replicate 32 0), .finish su.via su.header [] (List.replicate 32 0), .finish su.via su.header (List.replicate 1568 0) [], .setupTimeout 4096, .gctClose 4096, .ackOnly { dg with via := { port := 8, src := 1 } },
    .segmentRx { dg with via := { port := 8, src := 1 } } [],
    .segmentRx dg [.crc 0 10], .rtoExpiry 4096, .ackDelayExpiry 4096, .sessionIdleExpiry 4096, .regAccess 4096 0 [], .regAccess 0 (2 ^ 32) [],
    .dpWrite 4096 0 [] [], .dpWrite 0 (2 ^ 32) [] [], .dpWrite 0 0 [] [.crc 0 10], .dpRead 4096 0 [] [], .dpRead 0 (2 ^ 32) [] [],
    .dpRead 0 0 [] [.crc 0 10], .evtSub 4096 0 [], .evtSub 0 (2 ^ 32) [], .getCerts 4096 0 [], .getCerts 0 (2 ^ 32) [], .getEvidence 4096 0 [],
    .getEvidence 0 (2 ^ 32) [], .heartbeat 4096 0 [], .heartbeat 0 (2 ^ 32) [], .sessClose 2 0, .sessMove 2 0, .saLoad 8 false 0, .enetLinkChange 8 0] : List Instr).any Instr.wf = false := by decide +kernel
theorem test_wf_refuses_6 : ([
    .enetLinkChange 0 3, .ptpMessage { port := 8 } 0 0 0, .ptpMessage { port := 0, transport := 3 } 0 0 0,
    .ptpMessage { port := 0, domain := 256 } 0 0 0, .ptpMessage { port := 0, guard := some 2 } 0 0 0,
    .ptpMessage { port := 0, bytes := 65536 } 0 0 0, .ptpMessage { port := 0 } 16 0 0, .ptpMessage { port := 0 } 0 (2 ^ 64) 0,
    .ptpMessage { port := 0 } 0 0 (2 ^ 64), .syncLossExpiry 2,
    .bootStageDone [2 ^ 20], .bootStageTimeout [2 ^ 20], .watchdogExpiry 8, .criticalUncorr (2 ^ 20) 0 0, .criticalUncorr 0 256 0,
    .criticalUncorr 0 0 (2 ^ 32), .cprocReadyTimeout 8, .ucodeLoad 8, .ucodeIdleExpiry 8, .rtuHealthFail 256, .capTick 65536, .vSetWrite 24 0,
    .thermSample [], .thermTrip 26, .i3cAddrAssign 128, .cprocReady 8, .gmemRetrainDone 20 false, .btLinkUp 2 0 0 0, .btLinkUp 0 2 0 0,
    .btLinkUp 0 0 3 0, .btLinkUp 0 0 0 17, .loadVerifyDone 8, .programCheckDone 8, .tableCheckDone 8, .planCheckDone 2 0, .planCheckDone 0 8,
    .cxlDeviceEvent 2 0, .cxlDeviceEvent 0 2] : List Instr).any Instr.wf = false := by decide +kernel
/-- A body that is longer than a message may be. -/
theorem test_wf_refuses_bodies (b : List Byte) (h : b.length = 4 * 2 ^ 20 + 65) : ([
    .pullData 0 0 0 b [], .grant 0 0 b, .seqOpen 0 0 b, .seqPrompt 0 0 b, .seqBind 0 0 b, .seqClose 0 0 b, .seqSubscribe 0 0 b, .seqAck 0 0 b,
    .seqQuery 0 0 b, .regAccess 0 0 b, .dpWrite 0 0 b [], .dpRead 0 0 b [], .evtSub 0 0 b, .getCerts 0 0 b, .getEvidence 0 0 b, .heartbeat 0 0 b,
    .pldmRequest b] : List Instr).any Instr.wf = false := by
  have e : bodyOk b = false := by simp [bodyOk, h]
  simp [Instr.wf, e, h]
theorem test_wf_packet_fields : ([
    { pk with op := 256 }, { pk with srcDom := 8 }, { pk with dstDom := 8 }, { pk with dstPkg := 128 }, { pk with srcPkg := 128 },
    { pk with job := 65536 }, { pk with part := 64 }, { pk with status := 256 }, { pk with step := 2 ^ 32 }, { pk with gen := 65536 },
    { pk with srcTg := 8 }, { pk with run := 16 }, { pk with dstTg := 8 }, { pk with unit := 4096 }, { pk with tag := 65536 },
    { pk with cmd := 65536 }, { pk with count := 65536 }, { pk with addr := 2 ^ 64 }, { pk with index := 2 ^ 32 }, { pk with len := 8192 },
    { pk with ext := 2 ^ 80 }, { pk with pay := List.replicate 4557 0 }] : List Pkt).any Pkt.wf = false := by decide +kernel
theorem test_wf_datagram_fields : ([
    { dg with via := { port := 8, src := 1 } }, { dg with via := { port := 0, src := 1, form := .ip4 65536 } },
    { dg with via := { port := 0, src := 1, guard := some 2 } }, { dg with header := List.replicate 39 0 }, { dg with header := List.replicate 41 0 },
    { dg with body := List.replicate 9217 0 }] : List Dgram).any Dgram.wf = false := by decide +kernel
theorem test_wf_setup_fields : ([
    { su with via := { port := 8, src := 1 } }, { su with via := { port := 0, src := 1, form := .ip6 65536 } }, { su with header := List.replicate 39 0 }, { su with body := List.replicate 9217 0 }] : List Setup).any Setup.wf = false := by decide +kernel

/-! ### Values that the spec works out -/

/-- The CRC presets over the ASCII digits 1 to 9 (R231). -/
theorem test_crc32c : crc32c [0x31, 0x32, 0x33, 0x34, 0x35, 0x36, 0x37, 0x38, 0x39] = 0xE3069283 := by decide +kernel
theorem test_crc64 : crcOf 64 0x42F0E1EBA9EA3693 0xFFFFFFFFFFFFFFFF true true 0xFFFFFFFFFFFFFFFF
    [0x31, 0x32, 0x33, 0x34, 0x35, 0x36, 0x37, 0x38, 0x39] = 0x995DC9BBDF1939FA := by decide +kernel
/-- The example of R22: step 2 is later than step 0xFFFFFFFE, four steps on. -/
theorem test_serial : laterThan 32 2 0xFFFFFFFE = true ∧ laterThan 32 0xFFFFFFFE 2 = false ∧ laterThan 32 0x80000000 0 = false := by decide
/-- The example of 05 of the spec: t = 5/6 takes the scale 0.875, code 0x76. -/
theorem test_scale : scaleFor ⟨5, 6⟩ = 0x76 ∧ ((ue5m3 0x76).getD ⟨0, 1⟩).eq ⟨7, 8⟩ = true := by
  decide
/-- Its five elements: codes 7, 0xB, 0, 5, 1, none saturated. -/
theorem test_quant : [(false, (⟨40, 7⟩ : Q)), (true, ⟨104, 70⟩), (false, ⟨16, 70⟩), (false, ⟨208, 70⟩), (false, ⟨36, 70⟩)].map
    (fun x => quantElem .fp4 0 0 x.1 x.2) = [(0x7, false), (0xB, false), (0x0, false), (0x5, false), (0x1, false)] := by decide
/-- Its element 2 under ROUND 1: up with random bits 116, down with 117. -/
theorem test_stochastic : quantElem .fp4 1 116 false ⟨16, 70⟩ = (1, false) ∧ quantElem .fp4 1 117 false ⟨16, 70⟩ = (0, false) := by decide
/-- 1.0 in FP32 and BF16, and the least subnormal. -/
theorem test_floats : ((fp32 0x3F800000).num.eq ⟨1, 1⟩ && toFp32 (.fin true ⟨-1, 1⟩) == 0xBF800000 && toFp32 (fp32 1) == 1) = true := by decide
/-- The binding example of R76: 0x40002 gives TGROUP 2, SPLIT 0 and four members. -/
theorem test_bind_word : bits (0x40002 : Word) 2 0 = 2 ∧ bits (0x20102 : Word) 8 8 = 1 ∧ bits (0x40002 : Word) 20 16 = 4 := by decide
/-- Pages of R47 and R46: GMEM 3 is page 0x433, tile position 169 page 0x1A9; page 0x220 and page 0x1800 hold no unit. -/
theorem test_pages : pg .gmem 3 = 0x433 ∧ pg .tile 169 = 0x1A9 ∧ unitOf 0x433 = some (.gmem, 3) ∧ unitOf 0x220 = none ∧ unitOf 0x1800 = none := by
  decide
/-- Enabled tiles of the three variants: 256, 224 and 192 (R5). -/
theorem test_variants : [PkgCfg.dr9400, PkgCfg.dr9300, PkgCfg.dr9200].all PkgCfg.shipped = true := by decide +kernel
/-- A flit's header byte holds KIND, CR_VC and CR_COUNT from its most significant bit on (R343). -/
theorem test_flit : (flit 2 7 0 [0x10]).length = 256 ∧ (flit 2 7 0 [0x10]).take 3 = [0xB8, 0x10, 0] ∧ (flit 0 3 5 []).headD 0 = 0x1D := by
  decide +kernel
/-- SESSION_ID and COUNTER stand most significant byte first in the GCT header (R13, R418). -/
theorem test_gct_header : gctHeader 0x10 false false 0 0xABC 0x1234 1 2 3 4 5 1 6 7 8 =
    [0x10, 0x10, 0, 0, 0x0A, 0xBC, 0x12, 0x34, 0, 0, 0, 1, 0, 0, 0, 2, 0, 0, 0, 3, 0, 0, 0, 4, 0, 5, 0, 0, 0, 6, 0, 7, 0, 0, 0, 0, 0, 0, 0, 8] := by
  decide +kernel
/-- No row of the opcode table gives bits. -/
theorem test_no_bits : decodeTableWord 8 0 = none ∧ State.reset.withFetchWord 8 0 = State.reset := ⟨rfl, rfl⟩
/-- V_SET 0x2EE is 750 mV and takes; 0x2EF (751 mV) is no step of 5. -/
theorem test_v_set : (State.reset.vSetWrite 0 0x2EE).rd (pg .island 0) F.ISLAND.V_SET = 750 ∧
    (State.reset.vSetWrite 0 0x2EF).ret = .badArg := by decide
/-- A credit of 48 bits is signed. -/
theorem test_credit : int48 (2 ^ 48 - 1) = -1 ∧ int48 (2 ^ 47) = -(2 ^ 47) ∧ int48 (2 ^ 47 - 1) = 2 ^ 47 - 1 := by decide

/-! ### Witnesses: the queue, pins and power -/

/-- The package without power. -/
def dark : State := State.reset.off
theorem wit_idle : State.reset.pending = [] ∧ State.reset.powered = true ∧ dark.pending = [] ∧ dark.powered = false := by decide
theorem wit_no_power : isPin .evidenceSigned = false ∧ dark.powered = false := by decide
theorem wit_queue_dark : ({ dark with pending := [.evidenceSigned] } : State).powered = false ∧
    ({ dark with pending := [.evidenceSigned] } : State).pending ≠ [] ∧
    ({ dark with pending := [.evidenceSigned] } : State).pending.all (fun c => !isPin c) = true := ⟨by decide, by simp, by decide⟩
theorem wit_capabilities : (∃ t, step State.reset = .next t) ∧ absentPg State.reset.cfg (pg .tile 10) = true := ⟨⟨_, rfl⟩, by decide⟩
/-- Two packages that differ in a register and in memory. -/
theorem wit_cycle (s t : State) (hs : s = State.reset) (ht : t = { State.reset with regs := [(0, 1)], mem := [(⟨0, 1⟩)] }) :
    s.cfg = t.cfg ∧ s.flash = t.flash ∧ s.rtu.fuses = t.rtu.fuses ∧ s.rtu.stores = t.rtu.stores ∧ s.freeCtr = t.freeCtr ∧ s.storesIdle = true ∧ t.storesIdle = true ∧ s.pins.pwrGood = true ∧
    t.pins.pwrGood = true ∧ s.pins.rstLow = t.pins.rstLow ∧ s.pins.alertLow = t.pins.alertLow ∧ s.pw.low = t.pw.low := by
  subst hs ht; decide
theorem wit_pwr_good : State.reset.pins.pwrGood = true ∧ ({ State.reset with pins := { State.reset.pins with pwrGood := false } } : State).pins.pwrGood = false := by
  decide
theorem wit_i3c (s : State) (h : s = State.reset.setReg 0 bootPg 0x108 6) :
    s.i3cUp = true ∧ s.calm (fun t => { t with pins := { s.pins with i3c := 127 } }) := by
  subst h; exact ⟨by decide, by unfold State.calm; decide⟩

/-! ### Witnesses: register commands -/

/-- The word that a refusal list needs no more of. -/
def opens (s : State) (c : Instr) : Bool :=
  match regForm c with
  | some r => s.writeBar r.co r.keys r.page r.off r.val == none
  | none => false
/-- Each row that is a register write is open on the package after reset. -/
theorem wit_registers_1 : ([.regWrite false false 0x100 0x118 0, .halt 0x100 0, .drain 0x100 0, .kill 0x100 0, .resume 0x100 0,
    .evtMaskWrite 0x100 0, .unitReset 0x100 0, .isolate 0x100 0, .release 0x100 0, .selftestStart 0x100 0, .tgIslandsWrite 7 0, .bind 0x1000 0,
    .unbind 0x17FF 0, .tileRetire 0x100 0, .qTailWrite 0x100 3 0, .qCplHeadWrite 0x100 0 0, .qEnableWrite 0x1000 0 0, .tileApply 0x100 0] :
      List Instr).all (opens State.reset) = true := by decide
theorem wit_registers_2 : ([.haloLogPop 7 0, .haloWpWrite 0 0x110 0, .haloWpWrite 0 0x130 0, .rcpModeWrite 0 0x148 0, .gmemCopy 19 0,
    .gmemReturn 0 0, .mcFlushStart 1 0, .btRetrain 1 0, .poolApply 7 0, .poolReqTailWrite 0 0, .poolCplHeadWrite 0 0, .udTableCheck 7 0,
    .udEnableWrite 0 0, .loadStart 0 0, .loadResume 0 0, .loadAbort 0 0, .swapPrepare 0 0, .swapCommit 0 0, .swapCancel 0 0, .impValidWrite 1 0,
    .lostSet 0 0, .lostClear 0 0, .join 63 0, .leave 0 0, .rtEntryWrite 0 0x1E8 0, .psetWrite 1 3 0, .tgValidWrite 0 0, .domainCfgWrite 0 0] :
      List Instr).all (opens State.reset) = true := by decide
theorem wit_registers_3 : ([.flEnableWrite 23 0, .recal 0 0, .flRetrain 0 0, .accept 0 0, .nbrExpectWrite 0 0, .programCheck 7 0, .layerGo 0 0,
    .abortStep 0 0, .planCheck 1 0, .bkBalanceWrite 0 0, .bkCredit 1 0, .adInstall 0 0, .adRetire 0 0, .ctEnableWrite 1 0, .warmReset 0,
    .optCommit 0, .svnCommit true 0, .revoke true 0, .akLoad true 0, .akClear true 0, .fwVerify true 0, .fwApply true 0, .fwPersist true 0,
    .zeroize true 0, .decommission true 0, .vSetWrite 23 0, .sessClose 1 0, .sessMove 0 0, .saLoad 7 true 0, .todArm 0] :
      List Instr).all (opens State.reset) = true := by decide
theorem wit_refused : regForm (.svnCommit false 0) = some ⟨false, false, pg .rtu 0, 0x110, 0x200⟩ ∧ State.reset.quiet State.reset.faultL = true ∧
    State.reset.writeBar false false (pg .rtu 0) 0x110 0x200 = some .perm ∧ isQueueIndex (pg .rtu 0) 0x110 = false ∧
    (State.reset.wr 0x100 F.COM.BOUND 1).writeBar false false 0x100 0x2D8 1 = some .illegalState ∧ isQueueIndex 0x100 0x2D8 = true ∧
    isQueueIndex 0x17FF 0x228 = true ∧ absentPg State.reset.cfg 0x100 = false ∧
    State.reset.writeBar false false 0x10A 0x218 0 = some .absent ∧ isQueueIndex 0x10A 0x218 = true ∧ absentPg State.reset.cfg 0x10A = true := by
  decide
theorem wit_v_set : State.reset.writeBar false false (pg .island 23) 0x100 0x352 = none ∧ bits (0x352 : Word) 9 0 = 850 ∧
    bits (0x353 : Word) 9 0 = 851 ∧ State.reset.quiet State.reset.faultL = true ∧
    State.reset.calm (fun t => t.wr (pg .island 23) F.ISLAND.V_SET 850) :=
  ⟨by decide, by decide, by decide, by decide, by unfold State.calm; decide⟩
theorem wit_limits : State.reset.writeBar false false pwrPg 0x100 0 = none ∧ State.reset.writeBar false false pwrPg 0x110 0 = none ∧
    bits (0x6400000320 : Word) 15 0 = 800 ∧ bits (0x6400000320 : Word) 47 32 = 100 ∧ State.reset.quiet State.reset.faultL = true ∧
    State.reset.calm (fun t => t.setReg 0 pwrPg 0x100 (State.reset.merged pwrPg 0x100 0x6400000320)) ∧
    State.reset.calm (fun t => t.setReg 0 pwrPg 0x110 (State.reset.merged pwrPg 0x110 50)) :=
  ⟨by decide, by decide, by decide, by decide, by decide, by unfold State.calm; decide, by unfold State.calm; decide⟩
/-- A live page, an absent one, and the flags of the first. -/
theorem wit_flags : (unitOf 0x100).isSome = true ∧ absentPg State.reset.cfg 0x100 = false ∧ State.reset.powered = true ∧
    15 < evtBits (typeOf 0x100) ∧ State.reset.subscribers 0x100 = [] ∧
    State.reset.calm (fun t => t.setReg 0 0x100 0x028 (State.reset.reg 0 0x100 0x028 &&& ~~~ 1)) ∧
    State.reset.calm (fun t => t.setReg 0 0x100 0x030 0) ∧
    State.reset.calm (fun t => (t.setReg 0 0x100 0x040 0).setReg 0 0x100 0x048 0) :=
  ⟨by decide, by decide, by decide, by decide, by decide, by unfold State.calm; decide, by unfold State.calm; decide, by unfold State.calm; decide⟩
/-- An error register that is free, and one that holds an error. -/
theorem wit_errors : State.reset.on 0x100 F.COM.ERR_VALID = false ∧ (State.reset.capture 0x100 1 .poison 7).on 0x100 F.COM.ERR_VALID = true := by
  decide
theorem wit_statuses (s : State) (h : s = (State.reset.wr 0x100 F.COM.ISOLATED 1).wr 0x101 F.COM.BOUND 1) :
    s.powered = true ∧ s.quiet s.faultL = true ∧ (unitOf 0x220).isNone = true ∧ absentPg s.cfg (pg .tile 10) = true ∧
    (unitOf 0x100).isSome = true ∧ absentPg s.cfg 0x100 = false ∧ typeOf 0x100 ≠ .rtu ∧ typeOf 0x100 ≠ .enet ∧
    s.on 0x100 F.COM.ISOLATED = true ∧ isTile 0x101 = true ∧ absentPg s.cfg 0x101 = false ∧ s.on 0x101 F.COM.ISOLATED = false ∧
    s.on 0x101 F.COM.BOUND = true := by subst h; decide
theorem wit_absent : unitOf (pg .tile 10) = some (.tile, 10) ∧ absentUnit State.reset.cfg .tile 10 = true := by decide
theorem wit_bad_actions : State.reset.writeBar false false 0 0x050 2 = none ∧ State.reset.quiet State.reset.faultL = true ∧
    typeOf 0x1000 = .gang ∧ (3 : Word).getLsbD 1 = true ∧ State.reset.writeBar false false 0x1000 0xE08 3 = none ∧
    State.reset.calm (fun t => (t.wr 0x1000 F.GANG.BIND_STATUS Status.badArg.code).answer .badArg) :=
  ⟨by decide, by decide, by decide, by decide, by decide, by unfold State.calm; decide⟩

/-! ### Witnesses: tiles -/

/-- A command that runs, of this descriptor. -/
def runOf (d : Nat) : Run := { eng := 0, q := 0, idx := 0, d := d, t0 := 0, res := none, waiting := 0, acked := 0, failed := none }
/-- The package with one command running on tile 0. -/
def tileRun (d : Nat) : State := { State.reset with seqs := [(0x100, { SeqSt.init with run := [runOf d] })] }
/-- A descriptor of a class and operation with these fields: first byte and value. -/
def desc (cls op : Nat) (fs : List (Nat × Nat)) : Nat := cls + 256 * op + (fs.map fun f => f.2 * 2 ^ (8 * f.1)).sum
/-- The work of the row is running. -/
def workRuns (c : Instr) : Bool :=
  match workForm c with
  | some (p, cls, op, _) => ((tileRun (cls + 256 * op)).running p cls op).isSome && (State.reset.running p cls op).isNone && (tileRun (cls + 256 * op)).powered
  | none => false
theorem wit_work_1 : ([.null 0x100, .syncWait 0x100, .syncSignal 0x100, .syncBarrier 0x100, .syncFence 0x100, .haloCheck 0x100, .haloFlush 0x100,
    .haloClear 0x100, .mmaDense 0x100, .mmaGrouped 0x100, .attn 0x100, .vecAdd 0x100, .vecMul 0x100, .vecFma 0x100, .vecAxpb 0x100,
    .vecRmsnorm 0x100, .vecLayernorm 0x100, .vecSoftmax 0x100, .vecSiluMul 0x100, .vecGelu 0x100, .vecRope 0x100, .vecExp2 0x100,
    .vecLog2 0x100, .vecRecip 0x100] : List Instr).all workRuns = true := by decide
theorem wit_work_2 : ([.vecRsqrt 0x100, .vecTanh 0x100, .vecRowsum 0x100, .vecRowmax 0x100, .vecTopk 0x100, .vecCast 0x100, .vecAdamw 0x100,
    .qntQuant 0x100, .qntDequant 0x100, .sample 0x100, .movCopy 0x100, .movLoad 0x100 [], .movStore 0x100 [], .movMeshPut 0x100, .movBcast 0x100,
    .movFill 0x100, .fetchSingle 0x100, .fetchList 0x100, .exchPut 0x100, .exchAddF32 0x100, .exchAddI64 0x100, .exchMaxF32 0x100, .exchSend 0x100,
    .tmma 0x100, .tgrad 0x100] : List Instr).all workRuns = true := by decide
/-- No check stops the row's command of a descriptor with these fields, and its outputs meet no poisoned word. -/
def madeHere (c : Instr) (fs : List (Nat × Nat)) : Bool :=
  match workForm c with
  | some (p, cls, op, _) =>
    (tileRun (desc cls op fs)).running p cls op == some (runOf (desc cls op fs)) &&
      (workMade c (tileRun (desc cls op fs)).entry (runOf (desc cls op fs))).any fun m => !m.bad
  | none => false
theorem wit_made_vec : ([.vecAdd 0x100, .vecMul 0x100, .vecFma 0x100, .vecAxpb 0x100, .vecRmsnorm 0x100, .vecLayernorm 0x100, .vecSoftmax 0x100,
    .vecSiluMul 0x100, .vecGelu 0x100, .vecRope 0x100, .vecExp2 0x100, .vecLog2 0x100, .vecRecip 0x100, .vecRsqrt 0x100, .vecTanh 0x100,
    .vecRowsum 0x100, .vecRowmax 0x100, .vecCast 0x100, .vecAdamw 0x100] : List Instr).all (madeHere · [(18, 1), (20, 1)]) = true := by
  decide +kernel
theorem wit_made_rows : madeHere (.vecTopk 0x100) [(18, 1), (20, 1), (52, 1)] = true ∧ madeHere (.qntQuant 0x100) [(18, 1), (20, 32)] = true ∧
    madeHere (.qntDequant 0x100) [(18, 1), (20, 32)] = true ∧
    madeHere (.sample 0x100) [(18, 1), (20, 1), (24, 0x100000), (32, 0x4900000), (36, 0x4901000)] = true := by decide +kernel
/-- Fields of a matrix command of one load: A, W, PSCALE, OUT and the pitch. -/
def panels : List (Nat × Nat) := [(18, 1), (20, 1), (22, 1), (24, 0x100000), (32, 0x200000), (36, 0x300000), (40, 0x4900000), (44, 0x10000)]
theorem wit_made_dense : madeHere (.mmaDense 0x100) panels = true ∧ madeHere (.tmma 0x100) panels = true := by decide +kernel
theorem wit_made_matrix : madeHere (.mmaGrouped 0x100) [(18, 1), (24, 0x100000), (40, 0x4900000), (44, 0x10000), (52, 0x4A00000), (56, 1)] = true ∧
    madeHere (.attn 0x100) [(18, 1), (28, 0x4A00000)] = true := by decide +kernel
theorem clean_putOut {s : State} (h : ∀ k, s.isPoison k = false) (a : Nat) (bs : List Byte) :
    (∀ k, (s.putOut a bs).1.isPoison k = false) ∧ (s.putOut a bs).2 = false := by
  have hb : ∀ b, s.headBad b = false := fun b => by simp [State.headBad, h (b / 32)]
  refine ⟨?_, by simp [State.putOut, hb]⟩
  simp only [State.putOut]
  split
  · exact fun k => State.isPoison_put (h k)
  · exact h
theorem clean_fold {α β : Type} (g : State × Bool × β → α → State × Bool × β) (hg : ∀ acc x, (∀ k, acc.1.isPoison k = false) → acc.2.1 = false →
    (∀ k, (g acc x).1.isPoison k = false) ∧ (g acc x).2.1 = false) (l : List α) : ∀ acc, (∀ k, acc.1.isPoison k = false) → acc.2.1 = false →
    (∀ k, (l.foldl g acc).1.isPoison k = false) ∧ (l.foldl g acc).2.1 = false := by
  induction l with
  | nil => exact fun acc h b => ⟨h, b⟩
  | cons x l ih => exact fun acc h b => ih _ (hg acc x h b).1 (hg acc x h b).2
/-- Where no word is poisoned, no output of a TGRAD meets one. -/
theorem clean_grad {s : State} (h : ∀ k, s.isPoison k = false) (p d : Nat) (f : Fmt) : (s.gradMade p d f).bad = false := by
  unfold State.gradMade
  exact (clean_fold _ (fun acc k hc hf => clean_fold _ (fun a b hc hf => ⟨(clean_putOut hc _ _).1, by
    simp only [hf, (clean_putOut hc _ _).2, Bool.or_self]⟩) _ acc hc hf) _ (s, false, []) h rfl).2
theorem wit_made_grad (d : Nat)
    (hd : d = desc 0x41 0 [(18, 1), (20, 1), (22, 1), (24, 0x100000), (32, 0x200000), (40, 0x4900000), (44, 512)]) :
    (tileRun d).running 0x100 0x41 0 = some (runOf d) ∧ (workMade (.tgrad 0x100) (tileRun d).entry (runOf d)).any (fun m => !m.bad) = true := by
  have hp : ∀ k, (tileRun d).entry.isPoison k = false := fun k => rfl
  have hf : fmtOf (dfld d 16 0 4) = some .fp4 := by subst hd; decide
  have hr : (tileRun d).entry.poisonIn ((tileRun d).entry.gradReads 0x100 d .fp4) = false := by subst hd; decide +kernel
  refine ⟨by subst hd; decide +kernel, ?_⟩
  simp only [workMade, runOf, hf, Option.bind_some, hr, Bool.false_eq_true, if_false, Option.any_some, clean_grad hp, Bool.not_false]
/-- No check stops the row's FETCH or EXCH of a descriptor with these fields, which sends `n` requests. A list of one entry stands at 0x4A00000:
address 2^40, scratch offset 0x4900000, 64 bytes. -/
def sends (n : Nat) (fs : List (Nat × Nat)) (c : Instr) : Bool :=
  match workForm c with
  | some (p, cls, op, _) =>
    let s := (tileRun (desc cls op fs)).put (scr 0 0x4A00000) (leBytes 8 (2 ^ 40) ++ leBytes 4 0x4900000 ++ leBytes 4 64)
    s.running p cls op == some (runOf (desc cls op fs)) && (workSends c s.entry (runOf (desc cls op fs))).any fun ps => ps.length == n
  | none => false
theorem wit_sends_one (cs : List Instr) (h : cs = [.fetchSingle 0x100, .exchPut 0x100, .exchAddF32 0x100, .exchAddI64 0x100, .exchMaxF32 0x100,
    .exchSend 0x100]) : cs.all (sends 0 []) = true ∧ cs.all (sends 1 [(16, 2 ^ 40), (24, 0x4900000), (28, 64)]) = true := by
  subst h; decide +kernel
theorem wit_sends_list (cs : List Instr) (h : cs = [.fetchList 0x100, .exchPut 0x100, .exchAddF32 0x100, .exchAddI64 0x100, .exchMaxF32 0x100,
    .exchSend 0x100]) : cs.all (sends 0 [(38, 1)]) = true ∧ cs.all (sends 1 [(32, 0x4A00000), (36, 1), (38, 1)]) = true := by
  subst h; decide +kernel
theorem wit_answered : (runOf 0x31).failed = none ∧ dClass (runOf 0x31).d = 0x31 ∧ dClass (runOf 0x432).d = 0x32 ∧ dOp (runOf 0x432).d = 4 ∧
    dfld (desc 0x32 4 [(40, 0xFFFFFFFF)]) 40 0 32 = 0xFFFFFFFF := by decide
/-- A CHECK of one value, a FLUSH and a CLEAR. -/
theorem wit_halo (d e f : Nat) (hd : d = desc 2 0 [(18, 1), (20, 1)]) (he : e = desc 2 1 [(32, 0x4900000)]) (hf : f = desc 2 2 []) :
    (tileRun d).running 0x100 2 0 = some (runOf d) ∧ (tileRun d).poisonIn ((tileRun d).checkReads 0x100 d) = false ∧
    (tileRun e).running 0x100 2 1 = some (runOf e) ∧ (tileRun e).leaves 0x100 = [0] ∧
    (tileRun e).headBad (scr 0 (dfld e 32 0 27)) = false ∧ (tileRun e).headBad (scr 0 (dfld e 32 0 27) + 40) = false ∧
    (tileRun f).running 0x100 2 2 = some (runOf f) := by subst hd he hf; decide +kernel
theorem wit_null (r : Run) (h : (tileRun 0).running 0x100 0 0 = some r) : isTile 0x100 = true ∧ (tileRun 0).powered = true ∧
    (tileRun 0).calm (fun t => t.finish 0x100 r { st := .ok }) := by
  have e : (tileRun 0).running 0x100 0 0 = some { eng := 0, q := 0, idx := 0, d := 0, t0 := 0, res := none, waiting := 0, acked := 0, failed := none } := by
    decide
  rw [e] at h; cases h
  exact ⟨by decide, by decide, by unfold State.calm; decide⟩
/-- A WAIT for a counter to be at least 1, whose counter at offset 0 reads 0, and one for at least 0. -/
theorem wit_wait (d : Nat) (h : d = 0x01 ∨ d = 0x01 + 2 ^ 192) : ((tileRun d).running 0x100 1 0).isSome = true ∧ (tileRun d).powered = true ∧
    ((tileRun d).leaves 0x100).any (fun pos => (tileRun d).anyPoison (counterOf d pos) 8) = false ∧ (tileRun d).quiet (tileRun d).faultL = true ∧
    ((tileRun d).leaves 0x100).all (fun pos => waitHolds d ((tileRun d).ld (counterOf d pos) 8)) = decide (d = 0x01) := by
  rcases h with rfl | rfl <;> decide
/-- A step that is open with `n` active tiles. -/
def stepOf (n : Nat) : OpenStep :=
  { grant := ⟨0, 0, false, 0, false, 0, [], [], false⟩, openTime := 0, epoch := 0, cfg := 0, pace := 0, q := 0, places := [], waiting := none
    todo := [], sent := [], cmds := [], done := [], fails := [], jobs := [], counts := [], staged := [], barriers := [], active := n, qcfg := []
    cause := none, since := 0, retag := 0, seen := [], scratch := [], uses := [], err := false }
/-- Tiles 0 and 1 serve group 0, step 0 is open there with `n` active tiles, and one command runs on tile 0. -/
def served (n d : Nat) : State :=
  let s := [0x100, 0x101].foldl (fun s p => (s.wr p F.TILE.SERVES_VALID 1).wr p F.TILE.STEP_OPEN 1) (tileRun d)
  { s with steps := [(0, { held := [], opened := some (stepOf n), commits := 0, slice := none, ended := 0, layerWait := false, cfg := 0, pace := 0 })] }
/-- A BARRIER that must wait for another tile, and one that need not. -/
theorem wit_barrier : ([(2, true), (1, false)] : List (Nat × Bool)).all (fun x =>
    let s := served x.1 0x201
    s.powered && s.running 0x100 1 2 == some (runOf 0x201) && s.groupOf 0x100 == some 0 && s.openOf 0 == some (stepOf x.1) &&
      decide ((s.leaves 0x100).length < x.1) == x.2) = true := by decide +kernel
/-- A FENCE that is the oldest command of its tile, and one behind another. -/
theorem wit_fence (s : State) (h : s = { State.reset with seqs := [(0x100, { SeqSt.init with run := [runOf 0, { runOf 0x301 with idx := 1 }] })] }) :
    (tileRun 0x301).running 0x100 1 3 = some (runOf 0x301) ∧ ((tileRun 0x301).sq 0x100).run.head?.any (fun x => x.q == 0 && x.idx == 0) = true ∧
    s.running 0x100 1 3 = some { runOf 0x301 with idx := 1 } ∧ (s.sq 0x100).run.head?.any (fun x => x.q == 0 && x.idx == 1) = false := by
  subst h; decide
/-- A SIGNAL of the own counter, and one of a counter of tile 1. -/
theorem wit_signal_command (d e : Nat) (hd : d = desc 1 1 [(18, 0x1FF)]) (he : e = desc 1 1 [(18, 1), (20, 0x4900000)]) :
    (tileRun d).running 0x100 1 1 = some (runOf d) ∧ dfld d 18 0 9 = 0x1FF ∧ (tileRun d).anyPoison (scr 0 (dfld d 20 0 27)) 8 = false ∧
    (served 2 e).running 0x100 1 1 = some (runOf e) ∧ (served 2 e).meshFail 0x100 e (dfld e 18 0 9) (dfld e 20 0 27) 8 = none ∧
    (served 2 e).anyPoison (scr 1 (dfld e 20 0 27)) 8 = false := by
  subst hd he; decide +kernel
/-- A MOV of one row of 64 bytes. -/
def mov (op src dst : Nat) : Nat := desc 0x30 op [(16, src), (24, dst), (32, 64), (36, 1), (40, 64), (44, 64)]
/-- A command of tile 0 behind an MMA that reads its weights from WINDOW. -/
def behind (d : Nat) : State :=
  let w := desc 0x10 0 [(18, 1), (20, 1), (22, 1), (24, 0x100000), (32, 0x100000), (36, 0x200000), (40, 0x4900000), (44, 0x10000)]
  { State.reset with seqs := [(0x100, { SeqSt.init with run := [runOf w, { runOf d with eng := 1, idx := 1 }] })] }
/-- GMEM 0 holds the GDDR7 region; with `held` it is retrained in place. -/
def gddr (held : Bool) (s : State) : State :=
  let s := s.wr (pg .gmem 0) F.GMEM.IN_LIST 1
  if held then s.wr (pg .gmem 0) F.COM.STATE UState.reset.code else s
/-- COPY, BCAST and FILL into WINDOW: nothing reads its granule, and an MMA does. -/
theorem wit_mov : [0, 4, 5].all (fun op =>
    let d := mov op 0x4900000 0x100000
    let s := (tileRun d).entry
    let w := behind d
    s.running 0x100 0x30 op == some (runOf d) && !s.movWaits 0x100 d && (s.movRows 0x100 d).length == 1 &&
      ((s.movRows 0x100 d).all fun x => !s.anyPoison (scr x.1 (movSrc d x.2)) 64) &&
      (w.running 0x100 0x30 op).isSome && w.entry.movWaits 0x100 d) = true := by decide +kernel
theorem wit_mesh_put (d : Nat) (h : d = desc 0x30 3 [(16, 0x4900000), (24, 0x4900000), (32, 64), (36, 1), (38, 1), (40, 64), (44, 64)]) :
    (served 2 d).running 0x100 0x30 3 = some (runOf d) ∧ ((served 2 d).entry.movRows 0x100 d).length = 1 ∧
    ((served 2 d).entry.movRows 0x100 d).all (fun x => !(served 2 d).entry.anyPoison (scr x.1 (movSrc d x.2)) 64 &&
      (served 2 d).entry.meshFail 0x100 d (dfld d 38 0 9) (movDst d x.2) 64 == none) = true := by subst h; decide +kernel
theorem wit_load (d : Nat) (h : d = mov 1 0 0x4900000) (s t : State) (hs : s = gddr false (tileRun d)) (ht : t = gddr true (tileRun d)) :
    s.running 0x100 0x30 1 = some (runOf d) ∧ s.entry.loadWaits 0x100 d = false ∧
    (let x := loadRows (State.loadRow d (s.entry.clsOf 0x100) []) (s.entry.movRows 0x100 d) none 0 s.entry
     x.1 = none ∧ x.2.1 = false ∧ x.2.2.1 = 1) ∧
    t.running 0x100 0x30 1 = some (runOf d) ∧ t.entry.loadWaits 0x100 d = true := by subst h hs ht; decide +kernel
/-- A STORE to a fresh block of the group's pool. -/
theorem wit_store (d : Nat) (h : d = mov 2 0x4900000 0) (s t : State)
    (hs : s = (gddr false (served 2 d)).setPl 0 { PoolSt.init with blocks := [(0, ⟨.fresh, .fresh, 0, 0, 0, 1, false, 0⟩)] })
    (ht : t = gddr true (tileRun d)) :
    s.running 0x100 0x30 2 = some (runOf d) ∧ s.entry.storeWaits 0x100 d = false ∧
    (let x := moveRows (State.storeRow 0x100 d []) (s.entry.movRows 0x100 d) 0 s.entry
     x.1 = .ok ∧ x.2.1 = 1) ∧
    t.running 0x100 0x30 2 = some (runOf d) ∧ t.entry.storeWaits 0x100 d = true := by subst h hs ht; decide +kernel
theorem wit_signal (s : State) (h : s = { State.reset with poison := [(pword (scr 0 32), true)] }) : Memory.wf s.mem = true ∧
    s.anyPoison (scr 0 32) 8 = true ∧ s.anyPoison (scr 0 0) 8 = false := by subst h; decide
theorem wit_put : (0 : Nat) < ([1, 2] : List Byte).length ∧ Memory.wf State.reset.mem = true := by decide
theorem wit_numbers : (decodeIeee 8 23 0x7F800000).isNan = false ∧ (decodeIeee 2 1 15).isNan = true ∧ (fp32 0x7FC00000).isNan = true ∧
    (elemVal .fp4 (gridMax .fp4)).num.lt ⟨7, 1⟩ = true ∧ (elemVal .fp4 (gridMax .fp4)).num.lt ⟨6, 1⟩ = false ∧ scaleFor ⟨1000000, 1⟩ = 0xFE ∧
    scaleFor ⟨0, 1⟩ = 1 ∧ rneDiv 5 2 = 2 ∧ rneDiv 7 2 = 4 := by decide +kernel

/-! ### Witnesses: HALO, tiers, POOL, Updraft -/

theorem wit_log_pop : State.reset.writeBar false false (pg .halo 7) 0x170 1 = none ∧
    State.reset.calm (fun t => t.setHl 7 { State.reset.hl 7 with log := (State.reset.hl 7).log.drop 1 }) :=
  ⟨by decide, by unfold State.calm; decide⟩
theorem wit_watch (s : State) (h : s = State.reset.setReg 0 (pg .halo 0) 0x110 0x110000) : s.powered = true ∧ s.quiet s.faultL = true ∧
    [0x110, 0x118, 0x120, 0x130].all (fun off => s.writeBar false false (pg .halo 0) off 0xFFFFFFFF80000001 == none) = true ∧
    badRatio 0x80000001 = true ∧ badRatio 0xFFFFFFFF = true ∧ s.rd (pg .halo 0) F.HALO.WP_INDEX = 0 ∧ bits (0x101000 : Word) 11 0 = 0 ∧
    bits (0x101000 : Word) 23 20 ≠ 0 ∧ bits (s.haloWord 0 0 0) 16 16 = 1 ∧
    bits (0x101000 : Word) 15 0 ≠ bits (s.haloWord 0 0 0) 15 0 := by subst h; decide
theorem wit_tiers (s : State) (h : s = State.reset.wr (pg .mcache 1) F.MCACHE.BUSY 1) : s.powered = true ∧
    s.rd (pg .gmem 0) F.GMEM.RELOC_STATE ≠ 2 ∧ s.writeBar false false (pg .gmem 0) 0x120 2 = none ∧
    s.calm (fun t => (t.wr (pg .gmem 0) F.GMEM.RELOC_STATUS Status.illegalState.code).answer .illegalState) ∧
    s.on (pg .mcache 1) F.MCACHE.BUSY = true ∧ s.writeBar false false (pg .mcache 1) 0x198 1 = none ∧
    s.calm (fun t => (t.wr (pg .mcache 1) F.MCACHE.STATUS Status.illegalState.code).answer .illegalState) := by
  subst h; exact ⟨by decide, by decide, by decide, by unfold State.calm; decide, by decide, by decide, by unfold State.calm; decide⟩
theorem wit_pool_apply (s : State) (h : s = State.reset.setPl 0 { PoolSt.init with pages := [(0, none)] }) : s.powered = true ∧
    (s.pl 0).pages ≠ [] ∧ s.writeBar false false (pg .pool 0) 0x130 1 = none ∧
    s.calm (fun t => (t.wr (pg .pool 0) F.POOL.APPLY_STATUS Status.illegalState.code).answer .illegalState) := by
  subst h; exact ⟨by decide, by decide, by decide, by unfold State.calm; decide⟩
/-- A POOL whose request ring holds one request of operation `op`. -/
def poolWith (op : Byte) : State :=
  let s := (State.reset.wr (pg .pool 7) F.POOL.REQ_ENABLE 1).wr (pg .pool 7) F.POOL.REQ_TAIL 1
  (s.setPl 7 { PoolSt.init with ranges := [(0, 0), (0, 0), (0, 0), (1, 1)] }).setByte 0x200000 op
theorem wit_pool_requests : ([1, 2, 3, 4, 5, 6, 7] : List Byte).all (fun op =>
    (poolWith op).powered && (poolWith op).reqReady 7 0 && (poolWith op).reqOp 7 0 == op.toNat) = true := by decide
theorem wit_ud_cfg (s : State) (h : s = State.reset.wr (pg .updraft 1) F.UPDRAFT.ENABLE 1) :
    s.writeBar false false (pg .updraft 0) 0x100 0 = none ∧ s.ust (pg .updraft 0) = .idle ∧ s.on (pg .updraft 0) F.UPDRAFT.ENABLE = false ∧
    s.calm (fun t => t.setReg 0 (pg .updraft 0) 0x100 (s.merged (pg .updraft 0) 0x100 0)) ∧
    s.writeBar false false (pg .updraft 1) 0x100 0 = none ∧ s.on (pg .updraft 1) F.UPDRAFT.ENABLE = true ∧ s.quiet s.faultL = true := by
  subst h; exact ⟨by decide, by decide, by decide, by unfold State.calm; decide, by decide, by decide, by decide⟩

/-! ### Witnesses: steps, exchange, request I/O -/

/-- An entry of tile 0, and entries of page 0x220 with VALID 1 and 0. -/
theorem wit_map_entry : State.reset.writeBar false false (pg .stepseq 0) 0x170 0x100100 = none ∧
    State.reset.writeBar false false (pg .stepseq 0) 0x170 0x100220 = none ∧ State.reset.writeBar false false (pg .stepseq 0) 0x170 0x220 = none ∧
    State.reset.quiet State.reset.faultL = true ∧ isTile 0x100 = true ∧ isTile 0x220 = false ∧
    (unitOf 0x100).isSome = true ∧ (State.reset.openOf 0).isSome = false ∧ State.reset.heldOf 0 = [] ∧
    State.reset.calm (fun t => t.setReg 0 (pg .stepseq 0) 0x170 (State.reset.merged (pg .stepseq 0) 0x170 0x100100)) :=
  ⟨by decide, by decide, by decide, by decide, by decide, by decide, by decide, by decide, by decide, by unfold State.calm; decide⟩
theorem wit_plan_base : State.reset.writeBar false false (pg .squall 1) 0x110 0 = none := by decide
theorem wit_bucket (b : Bucket) (h : b = { rate := 1, cap := 1, bal := 20, en := true, rem := 0, last := 5, debited := 0 }) :
    b.last ≤ 5 ∧ (16 * b.cap : Int) < b.bal ∧ ({ b with bal := 16 } : Bucket).bal ≤ 16 * b.cap := by subst h; decide
theorem wit_balance : State.reset.writeBar false false (pg .contrail 0) 0x1D0 0 = none ∧ State.reset.writeBar false false (pg .contrail 0) 0x1D8 0 = none ∧
    State.reset.calm (fun t => t.setBucket 0 0 { (State.reset.bucket 0 0).refill State.reset.now with bal := 0 }) ∧
    State.reset.calm (fun t => t.setBucket 0 0 { (State.reset.bucket 0 0).refill State.reset.now with bal := ((State.reset.bucket 0 0).refill State.reset.now).bal + 0 }) ∧
    (((State.reset.setBucket 0 0 { State.reset.bucket 0 0 with bal := 2 ^ 47 - 1 }).bucket 0 0).refill 0).bal + 1 = 2 ^ 47 :=
  ⟨by decide, by decide, by unfold State.calm; decide, by unfold State.calm; decide, by decide⟩

/-! ### Witnesses: links, fabric, control transport -/

theorem wit_accept (s : State) (h : s = (State.reset.wr (pg .flink 1) F.FLINK.LINK_STATE 6).wr (pg .flink 1) F.FLINK.QUAR_CAUSE 4) :
    s.powered = true ∧ s.writeBar false false (pg .flink 0) 0x138 2 = none ∧ s.lst 0 ≠ .quarantined ∧ s.lst 1 = .quarantined ∧
    s.rd (pg .flink 1) F.FLINK.QUAR_CAUSE = 4 ∧ s.writeBar false false (pg .flink 1) 0x138 2 = none ∧
    s.calm (fun t => (t.wr (pg .flink 0) F.FLINK.CTRL_STATUS Status.illegalState.code).answer .illegalState) ∧
    s.calm (fun t => (t.wr (pg .flink 1) F.FLINK.CTRL_STATUS Status.illegalState.code).answer .illegalState) := by
  subst h
  exact ⟨by decide, by decide, by decide, by decide, by decide, by decide, by unfold State.calm; decide, by unfold State.calm; decide⟩
theorem wit_fr_cfg : State.reset.writeBar false false (pg .frouter 1) 0x120 1 = none ∧ State.reset.quiet State.reset.faultL = true ∧
    State.reset.calm (fun t => t.setReg 0 (pg .frouter 0) 0x120 (State.reset.merged (pg .frouter 1) 0x120 1)) :=
  ⟨by decide, by decide, by unfold State.calm; decide⟩
/-- The packet of the row is one that this package receives on link 0. -/
def pktHere (c : Instr) : Bool :=
  match pktForm c with
  | some (l, q, ops, _, _, _) => State.reset.ftOk l q ops && State.reset.powered
  | none => false
theorem wit_packets : ([.ftRd 23 pk [] 0 0, .ftWrStaged 0 { pk with op := 2 } [] 0 0, .ftAddF32 0 { pk with op := 3 } [] 0 0,
    .ftAddI64 0 { pk with op := 4 } [] 0 0, .ftMaxF32 0 { pk with op := 5 } [] 0 0, .ftFence 0 { pk with op := 6 }, .ftNotice 0 { pk with op := 7 },
    .ftRdRsp 0 { pk with op := 0x21 }, .ftStagedAck 0 { pk with op := 0x22 }, .ftHold 0 { pk with op := 0x23 }, .ftFenceAck 0 { pk with op := 0x26 },
    .ftNoticeAck 0 { pk with op := 0x27 }, .ftMsgTile 0 { pk with op := 0x40 }, .ftMsgMark 0 { pk with op := 0x41 },
    .ftMsgBundle 0 { pk with op := 0x42 }, .ftMsgAck 0 { pk with op := 0x43 }, .fabricReady 0 { pk with op := 0x60 },
    .swapReadyMsg 0 { pk with op := 0x61 }, .mgmtRd 0 { pk with op := 0x62 }, .mgmtWr 0 { pk with op := 0x63 }, .mgmtRsp 0 { pk with op := 0x64 }] :
      List Instr).all pktHere = true := by decide
/-- The package with session 4095 established, with every permission. -/
def talking : State := { State.reset with sessions := [(4095, { Sess.init with st := .up, perm := 0xFFF })] }
/-- The message of the row may be sent in session 4095, and no session is established at reset. -/
def msgHere (c : Instr) : Bool :=
  match msgForm c with
  | some (m, _) => talking.established m.session && talking.msgErr m == none && talking.powered && !State.reset.established m.session
      && !talking.dpWaits m
  | none => false
theorem wit_messages : ([.pullData 4095 0 0 [] [], .grant 4095 0 [], .seqOpen 4095 0 [], .seqPrompt 4095 0 [], .seqBind 4095 0 [], .seqClose 4095 0 [],
    .seqSubscribe 4095 0 [], .seqAck 4095 0 [], .seqQuery 4095 0 [], .gctClose 4095, .regAccess 4095 0 [], .dpWrite 4095 0 [] [], .dpRead 4095 0 [] [],
    .evtSub 4095 0 [], .getCerts 4095 0 [], .getEvidence 4095 0 [], .heartbeat 4095 0 []] : List Instr).all msgHere = true := by decide
theorem wit_message_waits : ({ talking with seqWait := [⟨4095, 0x19, 0, 0, []⟩] } : State).dpWaits ⟨4095, 0x18, 1, 0, []⟩ = true ∧
    msgForm (.dpWrite 4095 1 [] []) = some (⟨4095, 0x18, 1, 0, []⟩, []) := by decide
/-- The pages that events name. -/
theorem wit_events : isTile 0x100 = true ∧ isTile 0x17FF = true ∧ (unitOf 0x17FF).isSome = true ∧ State.reset.powered = true := by decide

end Sys2Proof.Tests
end

section
/-! PROOFS. Event flags (R61 to R64): what the set of a flag leaves in the common page of its unit. A report to the subscribed sessions
follows the set; it queues messages and counts in the GCT page alone, so that the common page of every unit stays. -/

namespace Sys2Proof.Machine

/-! ### A report leaves every common page -/

@[simp] theorem State.reg_setSess (s : State) (i : Nat) (x : Sess) (b p o : Nat) : (s.setSess i x).reg b p o = s.reg b p o :=
  State.reg_congr rfl rfl b p o

/-- Events that wait for the end of the command do not show in a register. -/
theorem State.reg_late (s : State) (l : List (Nat × Nat)) (b p o : Nat) : ({ s with late := l } : State).reg b p o = s.reg b p o :=
  State.reg_congr rfl rfl b p o

@[simp] theorem State.reg_queueMsg (s : State) (i typ id status : Nat) (body : List Byte) (b p o : Nat) :
    (s.queueMsg i typ id status body).reg b p o = s.reg b p o := by
  rw [State.queueMsg, State.reg_setSess]

/-- Counting in a field of another offset leaves a register. -/
theorem State.reg_bump_ne_off (s : State) (q : Nat) (f : Fld) (n b p : Nat) {o : Nat} (ho : o < 4096) (hf : f.off < 4096) (h : o ≠ f.off) :
    (s.bump q f n).reg b p o = s.reg b p o := by
  rw [State.bump, State.wr, State.reg_wrB_ne _ _ _ _ _ (regKey_ne_off ho hf h)]

/-- EVT_LOST stands above the common page, whatever GCT unit counts it. -/
theorem State.reg_bump_evtLost (s : State) (q b p : Nat) {o : Nat} (ho : o < 0x100) :
    (s.bump q F.GCT.EVT_LOST).reg b p o = s.reg b p o :=
  State.reg_bump_ne_off s q F.GCT.EVT_LOST 1 b p (by omega) (by decide) (show o ≠ 0x158 by omega)

/-- An EVENT is lost, dropped for want of room, or queued (R435): the common page of every unit stays. -/
theorem State.reg_sendEvent (s : State) (q i b p : Nat) {o : Nat} (ho : o < 0x100) : (s.sendEvent q i).reg b p o = s.reg b p o := by
  unfold State.sendEvent
  dsimp only
  split
  · exact State.reg_bump_evtLost s _ b p ho
  · split
    · rw [State.reg_late, State.reg_bump_evtLost _ _ _ _ ho, State.reg_setSess]
    · rw [State.reg_queueMsg, State.reg_setSess]

/-- A report (R64) leaves the common page of every unit, however many sessions are subscribed. -/
theorem State.reg_report (s : State) (q b p : Nat) {o : Nat} (ho : o < 0x100) : (s.report q).reg b p o = s.reg b p o :=
  forEach_keeps (fun t => t.reg b p o = s.reg b p o) (s.subscribers q) (fun i t => t.sendEvent q i)
    (fun i t h => (State.reg_sendEvent t q i b p ho).trans h) s rfl

/-! ### The set of a flag -/

/-- Writing a field replaces its bits in the register that holds it. -/
theorem State.reg_wr_same (s : State) (p : Nat) (f : Fld) (v : Nat) {o : Nat} (h : f.off = o) :
    (s.wr p f v).reg 0 p o = setBits (s.reg 0 p o) f.hi f.lo v := by
  rw [State.wr, State.wrB, h, State.reg_setReg_same]

/-- A field of a register with another offset than the stored one reads as before. -/
theorem State.rd_setReg_ne_off (s : State) (p q : Nat) (f : Fld) {o : Nat} (v : Word) (ho : o < 4096) (hf : f.off < 4096) (h : f.off ≠ o) :
    (s.setReg 0 q o v).rd p f = s.rd p f := by
  rw [State.rd, State.rdB, State.reg_setReg_ne _ _ _ _ _ (regKey_ne_off hf ho h), ← State.rdB, ← State.rd]

/-- A unit whose flag is set, with the set counted and named, before a report (R61, R63). -/
def State.flagged (s : State) (p i : Nat) : State :=
  ((s.setReg 0 p 0x028 (s.reg 0 p 0x028 ||| BitVec.ofNat 64 (2 ^ i))).bump p F.COM.SET_COUNT).wr p F.COM.LAST_BIT i

/-- The set of a flag of a unit that is not ABSENT flags the unit, and reports a 0 to 1 change of an unmasked flag. -/
theorem State.setEvt_eq {s : State} {p : Nat} (h : absentPg s.cfg p = false) (i : Nat) :
    s.setEvt p i = if !(s.reg 0 p 0x028).getLsbD i && !((s.flagged p i).reg 0 p 0x030).getLsbD i then (s.flagged p i).report p
      else s.flagged p i := by
  rw [State.setEvt, h, if_neg Bool.false_ne_true]
  rfl

/-- Reported or not, the common page after the set of a flag is that of the flagged unit. -/
theorem State.reg_setEvt {s : State} {p : Nat} (h : absentPg s.cfg p = false) (i b q : Nat) {o : Nat} (ho : o < 0x100) :
    (s.setEvt p i).reg b q o = (s.flagged p i).reg b q o := by
  rw [State.setEvt_eq h]
  split
  · exact State.reg_report _ p b q ho
  · rfl

/-- The flag is set in EVT_STAT, and the other flags stay. -/
theorem State.flagged_evtStat (s : State) (p i : Nat) :
    (s.flagged p i).reg 0 p 0x028 = s.reg 0 p 0x028 ||| BitVec.ofNat 64 (2 ^ i) := by
  have hk : regKey 0 p 0x028 ≠ regKey 0 p 0x038 := regKey_ne_off (by decide) (by decide) (by decide)
  rw [State.flagged, State.wr, State.reg_wrB_ne _ _ _ _ _ hk, State.bump, State.wr, State.reg_wrB_ne _ _ _ _ _ hk,
    State.reg_setReg_same]

/-- EVT_SET_COUNT takes the next count and the number of the flag. -/
theorem State.flagged_evtSetCount (s : State) (p i : Nat) :
    (s.flagged p i).reg 0 p 0x038 = setBits (setBits (s.reg 0 p 0x038) 31 0 (s.rd p F.COM.SET_COUNT + 1)) 37 32 i := by
  have hk : regKey 0 p 0x038 ≠ regKey 0 p 0x028 := regKey_ne_off (by decide) (by decide) (by decide)
  rw [State.flagged, State.reg_wr_same (o := 0x038) _ p F.COM.LAST_BIT i rfl, State.bump, State.reg_wr_same (o := 0x038) _ p F.COM.SET_COUNT _ rfl,
    State.reg_setReg_ne _ _ _ _ _ hk, State.rd_setReg_ne_off _ _ _ _ _ (by decide) (by decide) (by decide)]
  rfl

/-! ### EVT_SET_COUNT at reset -/

/-- EVT_SET_COUNT resets to 0 on every page. -/
theorem regReset_evtSetCount (c : PkgCfg) (b p : Nat) : regReset c (regKey b p 0x038) = 0 := by
  have ho : regKey b p 0x038 % 4096 = 0x038 := by unfold regKey; omega
  rw [regReset, ho]
  cases unitOf (regKey b p 0x038 / 4096 % 2 ^ 20) <;> rfl

/-- Settles O26: a report after the set leaves the common page, and the three fields of EVT_SET_COUNT are disjoint. -/
theorem eventCounted : Obligations.EventCounted := by
  unfold Obligations.EventCounted
  intro s p i _ hpresent hi
  have hstat := (State.reg_setEvt hpresent i 0 p (o := 0x028) (by decide)).trans (State.flagged_evtStat s p i)
  have hcount := (State.reg_setEvt hpresent i 0 p (o := 0x038) (by decide)).trans (State.flagged_evtSetCount s p i)
  refine ⟨hstat, ?setCount, ?lastBit, ?reserved, regReset_evtSetCount _ 0 p, fun v => rfl⟩
  case setCount =>
    change bits ((s.setEvt p i).reg 0 p 0x038) 31 0 = _
    rw [hcount, bits_setBits_below _ (by decide) (by decide) (by decide) (by decide), bits_setBits_same _ (by decide) (by decide)]
  case lastBit =>
    change bits ((s.setEvt p i).reg 0 p 0x038) 37 32 = _
    rw [hcount, bits_setBits_same _ (by decide) (by decide), Nat.mod_eq_of_lt (show i < 2 ^ (37 + 1 - 32) from hi)]
  case reserved =>
    rw [hcount, bits_setBits_above _ (by decide) (by decide) (by decide), bits_setBits_above _ (by decide) (by decide) (by decide)]

end Sys2Proof.Machine
end

section
/-! PROOFS. Token buckets (R321 to R324): what a refill adds and keeps, and the bucket that a test, a debit and a write of the balance
work on. -/

namespace Sys2Proof.Machine

/-! ### The refill of a bucket -/

/-- A balance that gains `n` up to a limit: one above the limit stays (R322). -/
def topUp (lim bal : Int) (n : Nat) : Int := if lim < bal then bal else min lim (bal + n)

theorem topUp_above {lim bal : Int} (h : lim < bal) (n : Nat) : topUp lim bal n = bal := if_pos h
theorem topUp_within {lim bal : Int} (h : bal ≤ lim) (n : Nat) : topUp lim bal n = min lim (bal + n) := if_neg (not_lt.2 h)

/-- Two gains under one limit are one gain of the sum: a balance once at the limit stays there. -/
theorem topUp_topUp (lim bal : Int) (m n : Nat) : topUp lim (topUp lim bal m) n = topUp lim bal (m + n) := by
  rcases lt_or_ge lim bal with h | h
  · simp only [topUp_above h]
  · rw [topUp_within h, topUp_within h, topUp_within (min_le_left ..)]
    omega

/-- What a bucket has gained since its last refill, in 10^-9 of a sixteenth: RATE × Δ and the remainder kept then (R322). -/
def Bucket.accrued (b : Bucket) (now : Nat) : Nat := b.rate * (now - b.last) + b.rem

/-- A refill adds the whole sixteenths accrued, keeps the rest and leaves rate, limit and enable. -/
theorem Bucket.refill_eq (b : Bucket) (now : Nat) :
    b.refill now = { b with bal := topUp (16 * b.cap) b.bal (b.accrued now / 10 ^ 9), rem := b.accrued now % 10 ^ 9, last := now } := rfl

/-- The time to a later instant is the time to one in between and the time from there. -/
theorem Bucket.accrued_later {b : Bucket} {now later : Nat} (hlast : b.last ≤ now) (hlater : now ≤ later) :
    b.accrued later = b.rate * (later - now) + b.accrued now := by
  have hsplit : later - b.last = (later - now) + (now - b.last) := by omega
  rw [Bucket.accrued, hsplit, Nat.mul_add, Nat.add_assoc, ← Bucket.accrued]

/-- After a refill the remainder and the time since then count. -/
theorem Bucket.accrued_refill (b : Bucket) (now later : Nat) :
    (b.refill now).accrued later = b.rate * (later - now) + b.accrued now % 10 ^ 9 := rfl

/-- A refill in between loses and gains nothing: the remainder carries over, and so does a balance at or above the limit. -/
theorem Bucket.refill_refill {b : Bucket} {now later : Nat} (hlast : b.last ≤ now) (hlater : now ≤ later) :
    (b.refill now).refill later = b.refill later := by
  have hrem : (b.refill now).accrued later % 10 ^ 9 = b.accrued later % 10 ^ 9 := by
    rw [Bucket.accrued_refill, Bucket.accrued_later hlast hlater, Nat.add_mod_mod]
  have hwhole : b.accrued now / 10 ^ 9 + (b.refill now).accrued later / 10 ^ 9 = b.accrued later / 10 ^ 9 := by
    rw [Bucket.accrued_refill, Bucket.accrued_later hlast hlater]
    omega
  rw [Bucket.refill_eq (b.refill now), hrem, Bucket.refill_eq b later, ← hwhole, ← topUp_topUp]
  rfl

/-! ### The buckets of the state -/

/-- A bucket reads as it was set. -/
@[simp] theorem State.bucket_setBucket_same (s : State) (g c : Nat) (b : Bucket) : (s.setBucket g c b).bucket g c = b :=
  tblGet_set_same (fun _ => Bucket.init) s.buckets (g * 4096 + c) b

/-- A bucket is that of the table of buckets alone. -/
theorem State.bucket_congr {s t : State} (h : t.buckets = s.buckets) (g c : Nat) : t.bucket g c = s.bucket g c := by
  rw [State.bucket, h, ← State.bucket]

@[simp] theorem State.wr_buckets (s : State) (p : Nat) (f : Fld) (v : Nat) : (s.wr p f v).buckets = s.buckets := by
  rw [State.wr, State.wrB, State.setReg_buckets]
@[simp] theorem State.bump_buckets (s : State) (p : Nat) (f : Fld) (n : Nat) : (s.bump p f n).buckets = s.buckets := by
  rw [State.bump, State.wr_buckets]
@[simp] theorem State.setSess_buckets (s : State) (i : Nat) (x : Sess) : (s.setSess i x).buckets = s.buckets := by simp only [State.setSess]
@[simp] theorem State.queueMsg_buckets (s : State) (i typ id status : Nat) (body : List Byte) :
    (s.queueMsg i typ id status body).buckets = s.buckets := by
  rw [State.queueMsg, State.setSess_buckets]

/-- An EVENT is lost, dropped for want of room, or queued (R435): the buckets stay. -/
@[simp] theorem State.sendEvent_buckets (s : State) (p i : Nat) : (s.sendEvent p i).buckets = s.buckets := by
  unfold State.sendEvent
  dsimp only
  split
  · rw [State.bump_buckets]
  · split
    · simp only [State.bump_buckets, State.setSess_buckets]
    · rw [State.queueMsg_buckets, State.setSess_buckets]

@[simp] theorem State.report_buckets (s : State) (p : Nat) : (s.report p).buckets = s.buckets :=
  forEach_keeps (fun t => t.buckets = s.buckets) (s.subscribers p) (fun i t => t.sendEvent p i)
    (fun i t h => (State.sendEvent_buckets t p i).trans h) s rfl

@[simp] theorem State.flagged_buckets (s : State) (p i : Nat) : (s.flagged p i).buckets = s.buckets := by
  rw [State.flagged, State.wr_buckets, State.bump_buckets, State.setReg_buckets]

/-- The set of an event flag leaves the buckets, whether or not the unit is there and the flag reported. -/
@[simp] theorem State.setEvt_buckets (s : State) (p i : Nat) : (s.setEvt p i).buckets = s.buckets := by
  cases hp : absentPg s.cfg p with
  | true => rw [State.setEvt, hp, if_pos rfl]
  | false =>
    rw [State.setEvt_eq hp]
    split
    · rw [State.report_buckets, State.flagged_buckets]
    · rw [State.flagged_buckets]

/-! ### What works on the refilled bucket -/

@[simp] theorem State.bucket_refill (s : State) (g c : Nat) : (s.refill g c).bucket g c = (s.bucket g c).refill s.now := by
  rw [State.refill, State.bucket_setBucket_same]

/-- Test 3 of R263 passes a bucket that is disabled or holds a balance (R321, R322). -/
def Bucket.passes (b : Bucket) : Bool := !b.en || decide (0 < b.bal)

/-- The test refills the bucket, and a failed test raises BUDGET_EMPTY. -/
theorem State.budgetOk_eq (s : State) (g c : Nat) :
    s.budgetOk g c = if ((s.bucket g c).refill s.now).passes then (true, s.refill g c)
      else (false, (s.refill g c).setEvt (pg .contrail 0) F.EVT.CONTRAIL.BUDGET_EMPTY) := by
  rw [← State.bucket_refill]
  rfl

theorem State.budgetOk_fst (s : State) (g c : Nat) : (s.budgetOk g c).1 = ((s.bucket g c).refill s.now).passes := by
  rw [State.budgetOk_eq]
  cases ((s.bucket g c).refill s.now).passes <;> rfl

/-- Passed or failed, the test leaves the refilled bucket. -/
theorem State.budgetOk_bucket (s : State) (g c : Nat) : (s.budgetOk g c).2.bucket g c = (s.bucket g c).refill s.now := by
  rw [State.budgetOk_eq]
  split
  · exact State.bucket_refill s g c
  · exact (State.bucket_congr (State.setEvt_buckets ..) g c).trans (State.bucket_refill s g c)

/-- Settles O55: the whole sixteenths of two refills and of one are the same, as the remainder carries over; a failed test raises an event,
which leaves the buckets. -/
theorem bucketRefill : Obligations.BucketRefill := by
  unfold Obligations.BucketRefill
  refine ⟨fun b now later hlast hlater => ?refill, fun s g c d => ?test, fun s v => ?write⟩
  case refill =>
    exact ⟨rfl, rfl, rfl, rfl, rfl, fun h => topUp_within h _, fun h => topUp_above h _, Bucket.refill_refill hlast hlater⟩
  case test =>
    exact ⟨State.budgetOk_fst s g c, State.budgetOk_bucket s g c, State.bucket_setBucket_same ..⟩
  case write =>
    exact State.bucket_setBucket_same ..

end Sys2Proof.Machine
end

section
/-! PROOFS. The guaranteed rate (R501): at a voltage of a row and the temperature of a column the interpolation of R502 gives the
entry of the table itself. -/

namespace Sys2Proof.Machine

/-- The entry of the table of R501 in a row and a column, in 10 M steps/s. -/
def rateEntry (i j : Nat) : Nat := nth 0 (nth [] rateRows i) j
/-- The temperature of a column of the table, in °C. -/
def rateColumnTemp (j : Nat) : Nat := nth 0 [40, 70, 90] j
/-- The mean of a quantity of the two rows about a voltage in mV, each weighted by its nearness, times their distance of 50 mV (R502). -/
def betweenRows (row : Nat → Nat) (v : Nat) : Nat :=
  let r := min ((v - 600) / 50) 4
  row r * (650 + 50 * r - v) + row (r + 1) * (v - 600 - 50 * r)

/-- At the voltage of a row the other row has no weight; the last row is the upper one of its pair. -/
theorem betweenRows_at_row (row : Nat → Nat) {i : Nat} (hi : i ≤ 5) : betweenRows row (600 + 50 * i) = row i * 50 := by
  have hdiv : (600 + 50 * i - 600) / 50 = i := by omega
  unfold betweenRows
  rw [hdiv]
  rcases Nat.lt_or_eq_of_le hi with hlt | rfl
  · have hupper : 600 + 50 * i - 600 - 50 * i = 0 := by omega
    have hlower : 650 + 50 * i - (600 + 50 * i) = 50 := by omega
    rw [Nat.min_eq_left (Nat.le_of_lt_succ hlt)]
    dsimp only
    rw [hupper, hlower, Nat.mul_zero, Nat.add_zero]
  · exact Nat.zero_add _

/-- At the temperature of a column the other column of its pair has no weight; `dt` is the distance of the two columns. -/
theorem rateAt_at_column {j : Nat} (hj : j < 3) : ∃ dt, 0 < dt ∧
    ∀ v, rateAt v (rateColumnTemp j) = some (betweenRows (fun k => rateEntry k j * dt) v * 10 * 100 / (50 * dt * 100)) := by
  match j, hj with
  | 0, _ => exact ⟨30, by decide, fun _ => rfl⟩
  | 1, _ => exact ⟨20, by decide, fun _ => rfl⟩
  | 2, _ =>
    have hrow : (fun k => rateEntry k 2 * 20) = fun k => rateEntry k 1 * 0 + rateEntry k 2 * 20 := funext fun _ => (Nat.zero_add _).symm
    refine ⟨20, by decide, fun v => ?_⟩
    rw [hrow]
    rfl

/-- Where a row and a column meet, both weights cancel and the entry is left, here in M steps/s. -/
theorem rateAt_entry {i j : Nat} (hi : i ≤ 5) (hj : j < 3) : rateAt (600 + 50 * i) (rateColumnTemp j) = some (rateEntry i j * 10) := by
  obtain ⟨dt, hdt, hrate⟩ := rateAt_at_column hj
  have hcancel : rateEntry i j * dt * 50 * 10 * 100 = rateEntry i j * 10 * (50 * dt * 100) := by ring
  rw [hrate, betweenRows_at_row _ hi, hcancel, Nat.mul_div_cancel _ (by omega)]

/-- Settles O36: every voltage of the statement is that of a row and every temperature that of a column. -/
theorem rateTable : Obligations.RateTable := by
  unfold Obligations.RateTable
  have hvoltages : [600, 650, 700, 750, 800, 850] = (List.range 6).map (600 + 50 * ·) := rfl
  have htemps : [40, 70, 90] = (List.range 3).map rateColumnTemp := rfl
  have hentries : (List.range 6).map (fun i => (List.range 3).map fun j => rateAt (600 + 50 * i) (rateColumnTemp j)) =
      (List.range 6).map fun i => (List.range 3).map fun j => some (rateEntry i j * 10) :=
    List.map_congr_left fun _ hi => List.map_congr_left fun _ hj =>
      rateAt_entry (Nat.le_of_lt_succ (List.mem_range.1 hi)) (List.mem_range.1 hj)
  rw [hvoltages, htemps]
  simp only [List.map_map, Function.comp_def]
  exact hentries.trans rfl

end Sys2Proof.Machine
end

section
/-! PROOFS. What every command does (log entries 29 to 31): it runs its effect with what follows, or it has none. From this one case split come the
completion of every command and of every queue, what a step keeps, and the power cycle. -/

namespace Sys2Proof.Machine

/-! ### The shape of a command -/

/-- A happening on a pin needs no power and no operand in range. -/
theorem exec_pin {c : Instr} (h : isPin c = true) (s : State) : ∃ f, exec c s = actPin s f := by
  cases c <;> simp only [isPin, reduceCtorEq] at h
  all_goals exact ⟨_, rfl⟩

/-- Every other command asks for power and for its operands to be in range. -/
theorem exec_act {c : Instr} (h : isPin c = false) (s : State) : ∃ ok f, exec c s = act s ok f := by
  cases c <;> simp only [isPin, reduceCtorEq] at h
  all_goals exact ⟨_, _, rfl⟩

/-- A command runs an effect, or leaves the state in which it starts. -/
theorem exec_cases (c : Instr) (s : State) : (∃ f, exec c s = .next (s.ran f)) ∨ exec c s = .next s.entry := by
  cases h : isPin c with
  | true =>
    obtain ⟨f, hf⟩ := exec_pin h s
    exact .inl ⟨f, hf.trans actPin_eq⟩
  | false =>
    obtain ⟨ok, f, hf⟩ := exec_act h s
    rcases act_cases s ok f with ⟨-, -, hran⟩ | ⟨-, hskip⟩
    · exact .inl ⟨f, hf.trans hran⟩
    · exact .inr (hf.trans hskip)

/-- Settles O4: with or without an effect, the configuration and the queue are put back. -/
theorem everyCommandCompletes : Obligations.EveryCommandCompletes := by
  unfold Obligations.EveryCommandCompletes
  intro c s
  rcases exec_cases c s with ⟨f, h⟩ | h
  · exact ⟨_, h, State.ran_cfg s f, State.ran_pending s f⟩
  · exact ⟨_, h, State.entry_cfg s, State.entry_pending s⟩

/-- Settles O5: a command that is no happening on a pin asks for power. -/
theorem noPowerNoEffect : Obligations.NoPowerNoEffect := by
  unfold Obligations.NoPowerNoEffect
  intro c s hc hs
  obtain ⟨ok, f, hf⟩ := exec_act hc s
  rw [hf]
  exact act_skip (by rw [hs, Bool.and_false])

/-! ### A step -/

/-- With a command waiting a step runs it on the rest of the queue. -/
theorem step_cons {s : State} {c : Instr} {rest : List Instr} (h : s.pending = c :: rest) : step s = exec c { s with pending := rest } := by
  rw [step, h]

/-- With nothing waiting a step idles. -/
theorem step_nil {s : State} (h : s.pending = []) : step s = .next s.idle := by rw [step, h]

/-- Counting in a register keeps the configuration. -/
@[simp] theorem State.wr_cfg (s : State) (p : Nat) (f : Fld) (v : Nat) : (s.wr p f v).cfg = s.cfg := by
  rw [State.wr, State.wrB, State.setReg_cfg]

/-- Idling keeps the configuration. -/
@[simp] theorem State.idle_cfg (s : State) : s.idle.cfg = s.cfg := by
  rw [State.idle]
  split
  · rw [State.bump, State.wr_cfg]
  · rfl

/-- Every step keeps the configuration. -/
theorem step_cfg {s t : State} (h : step s = .next t) : t.cfg = s.cfg := by
  cases hq : s.pending with
  | nil =>
    cases (step_nil hq).symm.trans h
    exact State.idle_cfg s
  | cons c rest =>
    obtain ⟨u, hu, hcfg, -⟩ := everyCommandCompletes c { s with pending := rest }
    cases (step_cons hq).symm.trans h |>.symm.trans hu
    exact hcfg

/-- Settles O1: it is what a step does with the front of its queue. -/
theorem stepRunsTheFrontCommand : Obligations.StepRunsTheFrontCommand := by
  unfold Obligations.StepRunsTheFrontCommand
  exact fun c rest s => step_cons rfl

/-- Settles O2: DEVICE_TIME counts on a powered package alone. -/
theorem emptyQueueIdles : Obligations.EmptyQueueIdles := by
  unfold Obligations.EmptyQueueIdles
  intro s hq
  refine ⟨fun hp => ?_, fun hp => ?_⟩
  · rw [step_nil hq, State.idle, hp, if_pos rfl]
    rfl
  · rw [step_nil hq, State.idle, hp, if_neg Bool.false_ne_true]

/-! ### Queues -/

/-- One more step of a run. -/
theorem run_succ {s t : State} (h : step s = .next t) (k : Nat) : Sys2Proof.core.run (k + 1) s = Sys2Proof.core.run k t := by
  have hcore : Sys2Proof.core.step s = .next t := h
  simp only [Host.Core.run, hcore]

/-- A queue whose front command runs drains as what is left of it does. -/
theorem drained_cons {s t u : State} {c : Instr} (hq : s.pending = c :: t.pending) (hstep : step s = .next t) (h : drained t u) : drained s u := by
  obtain ⟨hrun, hempty⟩ := h
  refine ⟨?_, hempty⟩
  rw [hq, List.length_cons, run_succ hstep]
  exact hrun

/-- Settles O6, by induction on the queue: every command completes, with the rest of the queue and the configuration as before. -/
theorem queueDrains : Obligations.QueueDrains := by
  unfold Obligations.QueueDrains
  intro s
  induction hq : s.pending generalizing s with
  | nil => exact ⟨s, ⟨by rw [hq]; rfl, hq⟩, rfl⟩
  | cons c rest ih =>
    obtain ⟨t, ht, hcfg, hrest⟩ := everyCommandCompletes c { s with pending := rest }
    obtain ⟨u, hu, hcfg'⟩ := ih t hrest
    exact ⟨u, drained_cons (by rw [hrest, hq]) ((step_cons hq).trans ht) hu, hcfg'.trans hcfg⟩

/-- Settles O7, by induction on the queue: each command leaves what it starts with, and the power stays off. -/
theorem unpoweredQueueDrains : Obligations.UnpoweredQueueDrains := by
  unfold Obligations.UnpoweredQueueDrains
  intro s hoff hne hpins
  induction hq : s.pending generalizing s with
  | nil => exact absurd hq hne
  | cons c rest ih =>
    rw [hq, List.all_cons, Bool.and_eq_true, Bool.not_eq_true'] at hpins
    obtain ⟨hc, hrest⟩ := hpins
    have hstep : step s = .next ({ s with pending := rest } : State).entry :=
      (step_cons hq).trans (noPowerNoEffect c { s with pending := rest } hc hoff)
    refine drained_cons (t := ({ s with pending := rest } : State).entry) hq hstep ?_
    cases rest with
    | nil => exact ⟨rfl, rfl⟩
    | cons d rest' => exact ih ({ s with pending := d :: rest' } : State).entry hoff (List.cons_ne_nil _ _) hrest rfl

/-! ### What the fuses fix -/

/-- UNIT_CAP of a page comes from the configuration alone. -/
theorem State.readReg_unitCap (s : State) (p : Nat) :
    (s.readReg p 0x008).2.1 = if (unitOf p).isNone then 0 else unitCap s.cfg (typeOf p) (instOf p) := by
  unfold State.readReg
  split
  · rfl
  · simp [State.readCommon]

/-- An ABSENT page holds a unit. -/
theorem unitOf_of_absentPg {c : PkgCfg} {p : Nat} (h : absentPg c p = true) : (unitOf p).isNone = false := by
  cases hu : unitOf p with
  | none => rw [absentPg, hu] at h; exact absurd h Bool.false_ne_true
  | some x => rfl

/-- The state of an ABSENT unit is ABSENT (R10). -/
theorem State.ust_absent {s : State} {p : Nat} (h : absentPg s.cfg p = true) : s.ust p = .absent := by rw [State.ust, h, if_pos rfl]

/-- No STEPSEQ is ABSENT. -/
theorem typeOf_ne_stepseq {c : PkgCfg} {p : Nat} (h : absentPg c p = true) : typeOf p ≠ .stepseq := by
  intro ht
  rw [typeOf] at ht
  rw [absentPg] at h
  cases hu : unitOf p with
  | none => rw [hu] at h; exact absurd h Bool.false_ne_true
  | some x =>
    obtain ⟨t, k⟩ := x
    rw [hu] at h ht
    cases ht
    exact absurd h (by simp [absentUnit])

/-- UNIT_STAT of an ABSENT unit shows ABSENT, whose code is 0 (R10, R55). -/
theorem State.unitStat_absent {s : State} {p : Nat} (h : absentPg s.cfg p = true) : s.unitStat p = 0 := by
  have hshown : s.shownState p = .absent := by
    rw [State.shownState, State.ust_absent h]
    split
    · rfl
    · exact absurd ‹_› (typeOf_ne_stepseq h)
    · rfl
    · rfl
  rw [State.unitStat, hshown, if_pos rfl]
  rfl

/-- A page of an ABSENT unit reads zero but for UNIT_ID and UNIT_CAP (R10). -/
theorem State.readReg_absent {s : State} {p off : Nat} (h : absentPg s.cfg p = true) (hid : off ≠ 0x000) (hcap : off ≠ 0x008) :
    s.readReg p off = (.ok, 0, s) := by
  rw [State.readReg, unitOf_of_absentPg h, if_neg Bool.false_ne_true, h]
  split
  · by_cases hstat : off = 0x020
    · subst hstat
      exact congrArg (fun x => (Status.ok, x, s)) (State.unitStat_absent h)
    · simp [hid, hcap, hstat]
  · rfl

/-- Settles O8: a step keeps the configuration, which fixes what an ABSENT unit and UNIT_CAP read. -/
theorem capabilitiesKept : Obligations.CapabilitiesKept := by
  unfold Obligations.CapabilitiesKept
  intro s t hstep
  have hcfg := step_cfg hstep
  refine ⟨fun p => by rw [State.readReg_unitCap, State.readReg_unitCap, hcfg], fun p off habs hid hcap => ?_⟩
  rw [← hcfg] at habs
  exact ⟨State.ust_absent habs, State.readReg_absent habs hid hcap⟩

/-- UNIT_CAP of an ABSENT unit is that of the DR-9400 (R53). -/
theorem unitCap_absent {c : PkgCfg} {t : UType} {k : Nat} (h : absentUnit c t k = true) : unitCap c t k = unitCap { c with variant := .dr9400 } t k := by
  unfold unitCap
  simp only [h, if_true, ite_self]

/-- Settles O31: UNIT_CAP is that of the DR-9400, and the other offsets read zero. -/
theorem absentUnitReads : Obligations.AbsentUnitReads := by
  unfold Obligations.AbsentUnitReads
  intro s p t k hu habs
  have hpg : absentPg s.cfg p = true := by rw [absentPg, hu]; exact habs
  refine ⟨State.readReg_absent hpg (by decide) (by decide), ?_, fun off hid hcap _ => State.readReg_absent hpg hid hcap⟩
  simp [State.readReg, hu, State.readCommon, typeOf, instOf, unitCap_absent habs]

/-! ### Reset and the power cycle -/

/-- Settles O3: every value is that of the register map or of the build that log entry 1 names. -/
theorem State.resetState : Obligations.ResetState := by
  unfold Obligations.ResetState
  decide

/-- The second state differs from the first in the RTU, the flash and the free values taken alone. -/
def State.storesOnly (s t : State) : Prop := ∃ rtu flash n, t = { s with rtu := rtu, flash := flash, freeCtr := n }

theorem State.storesOnly_refl (s : State) : s.storesOnly s := ⟨_, _, _, rfl⟩
theorem State.storesOnly.trans {s t u : State} (h : s.storesOnly t) (h' : t.storesOnly u) : s.storesOnly u := by
  obtain ⟨_, _, _, rfl⟩ := h
  obtain ⟨rtu, flash, n, rfl⟩ := h'
  exact ⟨rtu, flash, n, rfl⟩

theorem State.storesOnly_pick {α : Type} (s : State) (d : α) (l : List α) : s.storesOnly (s.pick d l).2 := by
  match l with
  | [] => exact ⟨_, _, _, rfl⟩
  | [_] => exact ⟨_, _, _, rfl⟩
  | _ :: _ :: _ => exact ⟨_, _, _, rfl⟩
theorem State.storesOnly_flashPut (s : State) (a : Nat) (bs : List Byte) : s.storesOnly (s.flashPut a bs) := ⟨_, _, _, rfl⟩
theorem State.storesOnly_flashLost (s : State) (a n : Nat) : s.storesOnly (s.flashLost a n) := ⟨_, _, _, rfl⟩
theorem State.storesOnly_storePut (s : State) (ak : Option (List (Nat × AkSlot))) : s.storesOnly (s.storePut ak) := ⟨_, _, _, rfl⟩
theorem State.storesOnly_blowEnd (s : State) (ok : Bool) : s.storesOnly (s.blowEnd ok) := by
  rw [State.blowEnd]
  split
  · exact s.storesOnly_refl
  · exact ⟨_, _, _, rfl⟩
theorem State.storesOnly_persistLost (s : State) : s.storesOnly s.persistLost := by
  refine (s.storesOnly_pick false [false, true]).trans ?_
  unfold State.persistLost
  dsimp only
  split
  · exact (State.storesOnly_flashPut ..).trans (State.storesOnly_flashLost ..)
  · exact State.storesOnly_flashLost ..

/-- What a reset breaks off lies in the fuses, the key store and the flash. -/
theorem State.storesOnly_breakOff (s : State) : s.storesOnly s.breakOff := by
  unfold State.breakOff
  extract_lets fuses keys image
  have hfuses : s.storesOnly fuses := s.storesOnly_blowEnd false
  have hkeys : fuses.storesOnly keys := by
    unfold keys
    split
    · exact fuses.storesOnly_refl
    · refine (fuses.storesOnly_pick false [false, true]).trans ?_
      exact State.storesOnly_storePut _ _
  have himage : keys.storesOnly image := by
    unfold image
    split
    · exact keys.storesOnly_persistLost
    · exact keys.storesOnly_refl
  refine ((hfuses.trans hkeys).trans himage).trans ?_
  split
  · exact State.storesOnly_flashLost ..
  · exact image.storesOnly_refl

/-- The pins outlast what a reset breaks off, and so do the configuration and the queue. -/
theorem State.breakOff_frame (s : State) : s.breakOff.pins = s.pins ∧ s.breakOff.cfg = s.cfg ∧ s.breakOff.pending = s.pending := by
  obtain ⟨_, _, _, h⟩ := s.storesOnly_breakOff
  rw [h]
  exact ⟨rfl, rfl, rfl⟩

@[simp] theorem State.cold_cfg (s : State) : s.cold.cfg = s.cfg := s.breakOff_frame.2.1
@[simp] theorem State.cold_pending (s : State) : s.cold.pending = s.pending := s.breakOff_frame.2.2
theorem State.cold_pwrGood (s : State) : s.cold.pins.pwrGood = s.pins.pwrGood := by
  change s.breakOff.pins.pwrGood = _
  rw [s.breakOff_frame.1]
theorem State.cold_tripLow (s : State) : s.cold.pins.tripLow = s.pins.tripLow := by
  change s.breakOff.pins.tripLow = _
  rw [s.breakOff_frame.1]

/-- Without PWR_GOOD the package has no power. -/
theorem State.powered_of_pwrGood {s : State} (h : s.pins.pwrGood = false) : s.powered = false := by
  rw [State.powered, h, Bool.false_and, Bool.false_and]
/-- In OFF the package has no power. -/
theorem State.off_powered (s : State) : s.off.powered = false := by
  have hmode : s.off.pw.mode = 3 := rfl
  rw [State.powered, hmode]
  exact Bool.and_false _

/-- A package that comes out of a cold reset stands in stage FUSE, where nothing raises an interrupt: nothing follows. -/
theorem State.cold_calm (s : State) (was : Bool) : s.cold.quiet was = true :=
  s.cold_quiet was (by rw [State.cold_bstage]; exact Bool.or_true _)
/-- Nothing follows in OFF: it is the cold package with its rails off. -/
theorem State.off_calm (s : State) (was : Bool) : s.off.quiet was = true := by
  have q := (State.quiet_iff true).1 (s.cold_calm true)
  have hstage : s.off.bstage = 0 := s.cold_bstage
  exact (State.quiet_iff was).2 ⟨q.held, q.wait, q.done, q.lost0, q.lost1, q.steps, q.seqWait, q.remote, q.squall, q.pools, q.drains, q.parts,
    q.pps, q.late, q.tests, q.queues, q.keys, by rw [hstage]; exact Bool.or_true _⟩

/-- PWR_GOOD falling leaves the cold package without PWR_GOOD and without a trip. -/
theorem exec_pwrGoodFall {s : State} (h : s.pins.pwrGood = true) :
    exec .pwrGoodFall s = .next ({ s.entry with pins := { s.pins with pwrGood := false, tripLow := false } } : State).cold := by
  have hfall : s.entry.pwrGoodFall = ({ s.entry with pins := { s.pins with pwrGood := false, tripLow := false } } : State).cold := by
    rw [State.pwrGoodFall, State.entry_pins, h]
    rfl
  have hran : exec .pwrGoodFall s = .next (s.ran State.pwrGoodFall) := rfl
  rw [hran, State.ran_calm, hfall]
  · rw [State.calm, hfall]; exact State.cold_calm ..
  · rw [hfall]; exact State.cold_cfg _
  · rw [hfall]; exact State.cold_pending _

/-- A command whose effect ends in OFF leaves that state. -/
theorem State.ran_off {s : State} {f : State → State} (u : State) (h : f s.entry = u.off) (hcfg : u.cfg = s.cfg) (hq : u.pending = s.pending) :
    s.ran f = u.off := by
  rw [State.ran_calm, h]
  · rw [State.calm, h]; exact u.off_calm _
  · rw [h]; exact u.cold_cfg.trans hcfg
  · rw [h]; exact u.cold_pending.trans hq

/-- Settles O37: OFF is the cold package with its rails off, of which the pins alone outlast a reset. -/
theorem supplyLossTurnsOff : Obligations.SupplyLossTurnsOff := by
  unfold Obligations.SupplyLossTurnsOff
  refine fun s k => ⟨?trip, ?low, exec_pwrGoodFall, fun u => ?off, fun u hu => ?cold⟩
  case trip => exact congrArg _ (State.ran_off (f := State.thermTrip) { s.entry with pins := { s.pins with tripLow := true } } rfl rfl rfl)
  case low => exact congrArg _ (State.ran_off (f := State.undervoltage) { s.entry with pw := { s.pw with low := true } } rfl rfl rfl)
  case off => exact ⟨u.off_powered, rfl, u.cold_tripLow, rfl, rfl, rfl, rfl, rfl, rfl, rfl⟩
  case cold => exact ⟨State.powered_of_pwrGood (u.cold_pwrGood.trans hu), rfl, rfl, rfl⟩

/-- Where no store is being written a reset breaks nothing off. -/
theorem State.breakOff_idle {s : State} (h : s.storesIdle = true) : s.breakOff = s := by
  simp only [State.storesIdle, Bool.and_eq_true, List.isEmpty_iff, Option.isNone_iff_eq_none, Bool.not_eq_true'] at h
  obtain ⟨⟨⟨hblow, hak⟩, hfw⟩, hopt⟩ := h
  have hend : s.blowEnd false = s := by rw [State.blowEnd, hblow]
  rw [State.breakOff, hend, hak]
  simp only [hfw, hopt, Bool.false_eq_true, if_false]

/-- Two packages agree in what a cold reset keeps (R446): their fuses, flash, supply and pins, and what a command leaves beside the package. -/
structure State.SameOutside (s t : State) : Prop where
  cfg : s.cfg = t.cfg
  flash : s.flash = t.flash
  fuses : s.rtu.fuses = t.rtu.fuses
  stores : s.rtu.stores = t.rtu.stores
  low : s.pw.low = t.pw.low
  pwrGood : s.pins.pwrGood = t.pins.pwrGood
  rstLow : s.pins.rstLow = t.pins.rstLow
  alertLow : s.pins.alertLow = t.pins.alertLow
  tripLow : s.pins.tripLow = t.pins.tripLow
  sent : s.out = t.out ∧ s.ret = t.ret
  freeCtr : s.freeCtr = t.freeCtr
  pending : s.pending = t.pending

/-- A cold reset forgets the rest. -/
theorem State.SameOutside.cold {s t : State} (h : s.SameOutside t) (hs : s.storesIdle = true) (ht : t.storesIdle = true) : s.cold = t.cold := by
  rw [State.cold, State.breakOff_idle hs, State.cold, State.breakOff_idle ht]
  simp only [h.cfg, h.flash, h.fuses, h.stores, h.low, h.pwrGood, h.rstLow, h.alertLow, h.tripLow, h.sent, h.freeCtr, h.pending]

/-- Settles O9: the loss of PWR_GOOD leaves two such packages in one state, so that its return does. -/
theorem powerCycleForgets : Obligations.PowerCycleForgets := by
  unfold Obligations.PowerCycleForgets
  intro s t hcfg hflash hfuses hstores hfree hs ht hgs hgt hrst halert hlow
  have hfall : ∀ u : State, u.pins.pwrGood = true → step { u with pending := [.pwrGoodFall, .pwrGoodRise] } =
      .next ({ ({ u with pending := [.pwrGoodRise] } : State).entry with pins := { u.pins with pwrGood := false, tripLow := false } } : State).cold :=
    fun u hu => (step_cons rfl).trans (exec_pwrGoodFall (s := { u with pending := [.pwrGoodRise] }) hu)
  rw [run_succ (hfall s hgs), run_succ (hfall t hgt)]
  refine congrArg (Sys2Proof.core.run 1) (State.SameOutside.cold ?_ hs ht)
  exact ⟨hcfg, hflash, hfuses, hstores, hlow, rfl, hrst, halert, rfl, ⟨rfl, rfl⟩, hfree, rfl⟩

end Sys2Proof.Machine
end

section
/-! PROOFS. Completion, family by family: a command in range of a powered package runs as the register write, the tile work, the packet, the message
or the event that it stands for. -/

namespace Sys2Proof.Machine

/-- Effects that agree on the state in which a command starts leave the same state. -/
theorem State.ran_congr {s : State} {f g : State → State} (h : f s.entry = g s.entry) : s.ran f = s.ran g := by
  rw [State.ran, h, ← State.ran]

/-- A command of which nothing follows, in a quiet state and without an effect, leaves the state in which it starts. -/
theorem State.ran_id_quiet {s : State} (h : s.quiet s.faultL = true) : s.ran id = s.entry :=
  State.ran_calm (f := id) h rfl rfl

/-! ### What a row of each table runs -/

/-- Each row of `regForm` is the write of its register, in range by its own check. -/
theorem exec_regForm {c : Instr} {r : RegForm} (h : regForm c = some r) {s : State} (hp : s.powered = true) :
    exec c s = .next (s.ran fun t => t.regWrite r.co r.keys r.page r.off r.val) := by
  cases c <;> simp only [regForm, Option.ite_none_right_eq_some, Option.some.injEq, reduceCtorEq] at h
  all_goals first
    | (subst h; exact act_run rfl hp)
    | (obtain ⟨hrange, rfl⟩ := h; exact act_run (by simpa using hrange) hp)

/-- Each row of `workForm` does the work of the command of its class and operation that runs. -/
theorem exec_workForm {c : Instr} {p cls op : Nat} {work : Run → State → State} (h : workForm c = some (p, cls, op, work)) {s : State}
    (hp : s.powered = true) : exec c s = .next (s.ran fun t => t.work p cls op work) := by
  cases c <;> simp only [workForm, Option.ite_none_right_eq_some, Option.some.injEq, reduceCtorEq] at h
  all_goals
    obtain ⟨htile, hrow⟩ := h
    cases hrow
    exact act_run htile hp

/-- Each row of `pktForm` is a packet of its opcode that arrives. -/
theorem exec_pktForm {c : Instr} {l : Nat} {q : Pkt} {ops : List Nat} {es : List MemErr} {waiting top : Nat}
    (h : pktForm c = some (l, q, ops, es, waiting, top)) {s : State} (hp : s.powered = true) :
    exec c s = .next (s.ran fun t => t.ftArrive l q ops es waiting top) := by
  cases c <;> simp only [pktForm, Option.ite_none_right_eq_some, Option.some.injEq, reduceCtorEq] at h
  all_goals
    obtain ⟨hlink, hrow⟩ := h
    cases hrow
    exact act_run (decide_eq_true hlink) hp

/-- Each row of `msgForm` is a message of its type and session. -/
theorem exec_msgForm {c : Instr} {m : Msg} {es : List MemErr} (h : msgForm c = some (m, es)) {s : State} (hp : s.powered = true) :
    exec c s = .next (s.ran fun t => t.gctAct m es) := by
  cases c <;> simp only [msgForm, Option.ite_none_right_eq_some, Option.some.injEq, reduceCtorEq] at h
  all_goals
    obtain ⟨hsession, hrow⟩ := h
    cases hrow
    exact act_run (decide_eq_true hsession) hp

/-! ### Register commands -/

/-- Settles O10: the checks of a write as a whole read nothing that a command's start changes. -/
theorem registerCommandsComplete : Obligations.RegisterCommandsComplete := by
  unfold Obligations.RegisterCommandsComplete
  intro c s r hform hp hopen
  rw [exec_regForm hform hp]
  exact congrArg _ (State.ran_congr (State.regWrite_open (by rw [State.writeBar_entry]; exact hopen)))

/-- The flag that is set reads 1. -/
theorem State.getLsbD_setEvt {s : State} {p i : Nat} (h : absentPg s.cfg p = false) (hi : i < 64) :
    ((s.setEvt p i).reg 0 p 0x028).getLsbD i = true := by
  rw [State.reg_setEvt h i 0 p (by decide), State.flagged_evtStat, BitVec.getLsbD_or, BitVec.getLsbD_ofNat]
  simp [hi, Nat.testBit_two_pow_self]

/-- An ABSENT unit has no flags (R10). -/
theorem State.setEvt_absent {s : State} {p : Nat} (h : absentPg s.cfg p = true) (i : Nat) : s.setEvt p i = s := by
  rw [State.setEvt, h, if_pos rfl]

/-- Settles O11: the write is answered, after Q_REFUSED where it names a queue's index. -/
theorem refusedWriteHasNoEffect : Obligations.RefusedWriteHasNoEffect := by
  unfold Obligations.RefusedWriteHasNoEffect
  intro c s r st hform hp hbar
  have hwrite : s.entry.regWrite r.co r.keys r.page r.off r.val = (s.entry.qRefused r.page r.off).answer st :=
    State.regWrite_barred (by rw [State.writeBar_entry]; exact hbar)
  rw [exec_regForm hform hp]
  refine ⟨fun hindex hquiet => ?plain, fun hindex => ⟨?queue, fun habs => ?flag, fun habs => State.setEvt_absent habs _⟩⟩
  case plain =>
    have hanswer : s.entry.regWrite r.co r.keys r.page r.off r.val = s.entry.answer st := by
      rw [hwrite, State.qRefused, hindex, if_neg Bool.false_ne_true]
    rw [State.ran_congr (g := fun t => t.answer st) hanswer, State.ran_calm (f := fun t => t.answer st) hquiet rfl rfl]
    rfl
  case queue =>
    refine congrArg _ (State.ran_congr ?_)
    rw [hwrite, State.qRefused, hindex, if_pos rfl]
  case flag => exact State.getLsbD_setEvt habs (by decide)

/-! ### Packets and messages -/

/-- Settles O14: the packet is one that this package takes on the link. -/
theorem packetsComplete : Obligations.PacketsComplete := by
  unfold Obligations.PacketsComplete
  intro c s l q ops es waiting top hform hp hok
  rw [exec_pktForm hform hp]
  refine congrArg _ (State.ran_congr ?_)
  have hentry : s.entry.ftOk l q ops = true := hok
  rw [State.ftArrive, hentry, if_pos rfl]

/-- A message that may be sent is acted on by its type; a data-port operation may have to wait (R433). -/
theorem State.gctAct_open {s : State} {m : Msg} (hest : s.established m.session = true) (herr : s.msgErr m = none) (es : List MemErr) :
    s.gctAct m es = if m.typ = 0x18 ∨ m.typ = 0x19 then s.dpOp m es else msgWork m es s := by
  rw [State.gctAct, State.gctMsg, hest, herr, if_neg (by decide), msgWork]
  dsimp only
  split
  case h_11 =>
    have hother : ¬ (m.typ = 0x18 ∨ m.typ = 0x19) := by rintro (h | h) <;> contradiction
    simp [*]
  all_goals simp [*]

/-- A data-port operation that need not wait is done. -/
theorem State.dpOp_now {s : State} {m : Msg} (hdp : m.typ = 0x18 ∨ m.typ = 0x19) (hw : s.dpWaits m = false) (es : List MemErr) :
    s.dpOp m es = msgWork m es s := by
  rw [State.dpOp, hw, if_neg Bool.false_ne_true, msgWork]
  rcases hdp with h | h <;> simp [h]

/-- Settles O13: the session and its permission let the message pass, and a data-port operation waits or is done. -/
theorem messagesComplete : Obligations.MessagesComplete := by
  unfold Obligations.MessagesComplete
  intro c s m es hform hp hest herr waits
  have hact : s.entry.gctAct m es = if m.typ = 0x18 ∨ m.typ = 0x19 then s.entry.dpOp m es else msgWork m es s.entry :=
    State.gctAct_open (s := s.entry) hest herr es
  rw [exec_msgForm hform hp]
  refine ⟨fun hgo => congrArg _ (State.ran_congr ?_), fun hwait => congrArg _ (State.ran_congr ?_)⟩
  · rw [hact]
    split
    · rename_i hdp
      exact State.dpOp_now hdp (by rw [State.entry_dpWaits]; exact Bool.not_eq_true _ ▸ fun h => hgo ⟨hdp, h⟩) es
    · rfl
  · rw [hact, if_pos hwait.1, State.dpOp, State.entry_dpWaits, hwait.2, if_pos rfl]

/-- Settles O59: the message is dropped before its type is looked at. -/
theorem sessionlessMessagesIgnored : Obligations.SessionlessMessagesIgnored := by
  unfold Obligations.SessionlessMessagesIgnored
  intro c s m es hform hp hest
  have hdrop : s.entry.gctAct m es = s.entry := by
    have hentry : s.entry.established m.session = false := hest
    rw [State.gctAct, State.gctMsg, hentry]
    rfl
  rw [exec_msgForm hform hp, State.ran_congr (g := id) hdrop]
  exact ⟨rfl, fun hquiet => congrArg _ (State.ran_id_quiet hquiet)⟩

/-! ### Events -/

/-- Settles O15: each row asks for its page, position, code or port to be in range, and for no more. -/
theorem tileEventsComplete : Obligations.TileEventsComplete := by
  unfold Obligations.TileEventsComplete
  intro s hp
  refine ⟨?_, ?_, ?_, ?_, ?_, ?_, ?_, ?_, ?_, ?_⟩ <;> (intros; exact act_run (by simp [*]) hp)

/-- Settles O16: each row asks for its unit to be in range, and for no more. -/
theorem memoryEventsComplete : Obligations.MemoryEventsComplete := by
  unfold Obligations.MemoryEventsComplete
  intro s hp
  refine ⟨?_, ?_, ?_, ?_, ?_, ?_, ?_, ?_, ?_, ?_, ?_, ?_, ?_, ?_, ?_, ?_, ?_, ?_⟩ <;> (intros; exact act_run (by simp [*]) hp)

/-- Settles O17: each row asks for its POOL to be in range; whether the request is ready is judged in its effect. -/
theorem poolRequestsComplete : Obligations.PoolRequestsComplete := by
  unfold Obligations.PoolRequestsComplete
  intro s hp
  refine ⟨?_, ?_, ?_, ?_, ?_, ?_, ?_⟩ <;> (intros; exact act_run (by simp [*]) hp)

/-- Settles O18: each row asks for its unit and group, slot or adapter to be in range, and for no more. -/
theorem stepEventsComplete : Obligations.StepEventsComplete := by
  unfold Obligations.StepEventsComplete
  intro s hp
  refine ⟨?_, ?_, ?_, ?_, ?_, ?_, ?_, ?_, ?_, ?_, ?_, ?_, ?_, ?_, ?_, ?_, ?_, ?_, ?_, ?_⟩ <;> (intros; exact act_run (by simp [*]) hp)

/-- Settles O19: each row asks for its link to be in range, and for no more. -/
theorem linkEventsComplete : Obligations.LinkEventsComplete := by
  unfold Obligations.LinkEventsComplete
  intro s hp
  refine ⟨?_, ?_, ?_, ?_, ?_, ?_, ?_, ?_, ?_, ?_, ?_, ?_, ?_, ?_, ?_, ?_, ?_, ?_, ?_, ?_, ?_⟩ <;> (intros; exact act_run (by simp [*]) hp)

/-- Settles O20: the timers ask for nothing, the other rows for their link, half or package number to be in range. -/
theorem fabricEventsComplete : Obligations.FabricEventsComplete := by
  unfold Obligations.FabricEventsComplete
  intro s hp
  refine ⟨?_, ?_, ?_, ?_, ?_, ?_, ?_, ?_, ?_⟩ <;> (intros; exact act_run (by simp [*]) hp)

/-- Settles O21: each row asks for its session index or port to be in range, or for nothing. -/
theorem transportEventsComplete : Obligations.TransportEventsComplete := by
  unfold Obligations.TransportEventsComplete
  intro s hp
  refine ⟨?_, ?_, ?_, ?_, ?_, ?_, ?_, ?_, ?_, ?_, ?_, ?_, ?_⟩ <;> (intros; exact act_run (by simp [*]) hp)

/-- Settles O22: each row asks for its control processor or group to be in range, or for nothing. -/
theorem systemEventsComplete : Obligations.SystemEventsComplete := by
  unfold Obligations.SystemEventsComplete
  intro s hp
  refine ⟨?_, ?_, ?_, ?_, ?_, ?_, ?_, ?_, ?_, ?_, ?_, ?_, ?_, ?_, ?_, ?_, ?_, ?_, ?_, ?_, ?_, ?_⟩ <;>
    (intros; exact act_run (by simp [*]) hp)

/-- Settles O23: a happening on a pin asks for nothing, not even power. -/
theorem pinEventsComplete : Obligations.PinEventsComplete := by
  unfold Obligations.PinEventsComplete
  intro s
  refine ⟨?_, ?_, ?_, ?_, ?_, ?_, ?_, ?_, ?_, ?_, ?_, ?_, ?_, ?_⟩ <;> (intros; exact actPin_eq)

/-- Settles O60: the target is up, and a 7-bit address is taken whole. -/
theorem i3cAddress : Obligations.I3cAddress := by
  unfold Obligations.I3cAddress
  intro s a ha hup hcalm
  have hp : s.powered = true := (Bool.and_eq_true_iff.1 hup).1
  have hassign : s.entry.i3cAssign a = { s.entry with pins := { s.pins with i3c := a } } := by
    have hentry : s.entry.i3cUp = true := hup
    rw [State.i3cAssign, hentry, if_pos rfl, Nat.mod_eq_of_lt ha, State.entry_pins]
  have hrun : exec (.i3cAddrAssign a) s = .next (s.ran fun t => t.i3cAssign a) := act_run rfl hp
  rw [hrun, State.ran_congr (f := fun t => t.i3cAssign a) (g := fun t => { t with pins := { s.pins with i3c := a } }) hassign, State.ran_calm hcalm rfl rfl]

end Sys2Proof.Machine
end

section
/-! PROOFS. Writes of the common page, error capture, and the limits of power: a write of the common page is refused only by its address or
an ABSENT unit, so that it has its effect; V_SET and SLEW_UP move rails besides. -/

namespace Sys2Proof.Machine

/-! ### Writes of the common page -/

/-- Nothing refuses an aligned write of the common page of a unit that is not ABSENT: the other checks speak of offsets from 0x100 on. -/
theorem State.writeBar_common {s : State} {p off : Nat} (co keys : Bool) (v : Word) (hunit : (unitOf p).isSome = true)
    (hpresent : absentPg s.cfg p = false) (halign : off % 8 = 0) (hcommon : off < 0x100) : s.writeBar co keys p off v = none := by
  have hmanaged : s.unmanagedBars p off v = false := by
    rw [State.unmanagedBars, Bool.and_eq_false_iff]
    right
    split <;> simp <;> omega
  have hlow (n : Nat) (h : 0x100 ≤ n) : decide (n ≤ off) = false := decide_eq_false (by omega)
  simp [State.writeBar, halign, Option.isSome_iff_ne_none.1 hunit, hpresent, hmanaged, hlow, show ¬ 4096 ≤ off by omega]

/-- A write of the common page of a unit that is not ABSENT is the write of its register. -/
theorem State.regWrite_common {s : State} {p off : Nat} (co keys : Bool) (v : Word) (hunit : (unitOf p).isSome = true)
    (hpresent : absentPg s.cfg p = false) (halign : off % 8 = 0) (hcommon : off < 0x100) :
    s.regWrite co keys p off v = s.writeCommon p off v := by
  rw [State.regWrite_open (State.writeBar_common co keys v hunit hpresent halign hcommon), if_pos hcommon]

/-! ### EVT_STAT and EVT_MASK -/

/-- The write of EVT_STAT clears the flags written as 1 that hardware does not set, and hardware sets the others. -/
theorem State.clearEvts_eq {s : State} {p : Nat} (hunit : (unitOf p).isSome = true) (hpresent : absentPg s.cfg p = false) (v set : Word) :
    s.clearEvts p v set = forEach ((List.range (evtBits (typeOf p))).filter fun i => set.getLsbD i) (fun i t => t.setEvt p i)
      (s.setReg 0 p 0x028 (s.reg 0 p 0x028 &&& ~~~ (v &&& ~~~ set))) := by
  rw [State.clearEvts, State.regWrite_common false false _ hunit hpresent (by decide) (by decide)]
  rfl

/-- Settles O24: with no flag set by hardware the write clears the flags written as 1. -/
theorem evtStatClears : Obligations.EvtStatClears := by
  unfold Obligations.EvtStatClears
  intro s p v hunit hpresent hp hcalm
  have hzero : v &&& ~~~(0 : Word) = v := BitVec.and_allOnes
  have hclear : s.entry.clearEvts p v 0 = s.entry.setReg 0 p 0x028 (s.reg 0 p 0x028 &&& ~~~ v) := by
    rw [State.clearEvts_eq (s := s.entry) hunit hpresent, List.filter_eq_nil_iff.2 (by simp), forEach_nil, State.reg_entry, hzero]
  have hrun : exec (.evtStatClear p v 0) s = .next (s.ran fun t => t.clearEvts p v 0) := act_run rfl hp
  rw [hrun, State.ran_congr (f := fun t => t.clearEvts p v 0)
    (g := fun t => t.setReg 0 p 0x028 (s.reg 0 p 0x028 &&& ~~~ v)) hclear,
    State.ran_calm hcalm (State.setReg_cfg ..) (State.setReg_pending ..)]

/-- The flags of a word with one bit are that bit, where the unit has it. -/
theorem filter_range_single {i n : Nat} (hi : i < n) :
    (List.range n).filter (fun j => decide (j = i)) = [i] := by
  rw [List.filter_eq, List.count_eq_one_of_mem List.nodup_range (List.mem_range.2 hi)]
  rfl

/-- Settles O25: the one flag is set after the clear, whose set is counted. -/
theorem setWinsOverClear : Obligations.SetWinsOverClear := by
  unfold Obligations.SetWinsOverClear
  intro s p i v set hunit hpresent hp
  refine ⟨act_run rfl hp, fun hi hset => ?_⟩
  have h64 : evtBits (typeOf p) ≤ 64 := by cases typeOf p <;> decide
  have hhit : (List.range (evtBits (typeOf p))).filter (fun j => set.getLsbD j) = [i] := by
    rw [← filter_range_single hi]
    refine List.filter_congr fun j hj => ?_
    rw [hset, BitVec.getLsbD_ofNat, Nat.testBit_two_pow]
    have hj64 : j < 64 := (List.mem_range.1 hj).trans_le h64
    simp [hj64, eq_comm]
  rw [State.clearEvts_eq hunit hpresent, hhit, forEach_cons, forEach_nil]
  set t := s.setReg 0 p 0x028 (s.reg 0 p 0x028 &&& ~~~ (v &&& ~~~ set)) with ht
  have htp : absentPg t.cfg p = false := hpresent
  obtain ⟨hstat, hcount, -⟩ := eventCounted t p i hunit htp (hi.trans_le h64)
  refine ⟨?_, ?_⟩
  · rw [hstat, BitVec.getLsbD_or, BitVec.getLsbD_ofNat, Nat.testBit_two_pow_self]
    simp [hi.trans_le h64]
  · rw [hcount, ht, State.rd_setReg_ne_off _ _ _ _ _ (by decide) (by decide) (by decide)]

/-- Reports of a unit leave every common page, however many there are. -/
theorem State.reg_reports {α : Type} (s : State) (q : Nat) (l : List α) (b p : Nat) {o : Nat} (ho : o < 0x100) :
    (forEach l (fun _ t => t.report q) s).reg b p o = s.reg b p o :=
  forEach_keeps (fun t => t.reg b p o = s.reg b p o) l (fun _ t => t.report q)
    (fun _ t h => (State.reg_report t q b p ho).trans h) s rfl

/-- A unit that no session is subscribed to reports nothing. -/
theorem State.report_none {s : State} {p : Nat} (h : s.subscribers p = []) : s.report p = s := by
  rw [State.report, h]; rfl

/-- Settles O27: the mask is stored, and what is reported besides leaves the common page. -/
theorem maskWriteKeepsFlags : Obligations.MaskWriteKeepsFlags := by
  unfold Obligations.MaskWriteKeepsFlags
  intro s p v hunit hpresent
  have hmask {o : Nat} (ho : o < 0x100) : (s.maskWrite p v).reg 0 p o = (s.setReg 0 p 0x030 v).reg 0 p o :=
    State.reg_reports _ p _ 0 p ho
  refine ⟨?_, ?_, ?_, fun hp hsubs hcalm => ?_⟩
  · rw [hmask (by decide), State.reg_setReg_same]
  · rw [hmask (by decide), State.reg_setReg_ne _ _ _ _ _ (regKey_ne_off (by decide) (by decide) (by decide))]
  · rw [hmask (by decide), State.reg_setReg_ne _ _ _ _ _ (regKey_ne_off (by decide) (by decide) (by decide))]
  · have hwrite : s.entry.maskWrite p v = s.entry.setReg 0 p 0x030 v :=
      forEach_fix _ _ _ fun _ _ => State.report_none (s := s.entry.setReg 0 p 0x030 v) hsubs
    have hrun : exec (.evtMaskWrite p v) s = .next (s.ran fun t => t.regWrite false false p 0x030 v) := act_run rfl hp
    rw [hrun, State.ran_open (off := 0x030) (f := fun t => t.setReg 0 p 0x030 v)
      (State.writeBar_common false false v hunit hpresent (by decide) (by decide)) hwrite hcalm (State.setReg_cfg ..) (State.setReg_pending ..)]

/-! ### The error registers -/

/-- The word of ERR_INFO0 that a captured error leaves: its code, its status, VALID and its location. -/
def captureWord (code : Nat) (st : Status) (loc : Nat) : Nat := code % 256 + st.code * 2 ^ 8 + 2 ^ 16 + loc % 2 ^ 32 * 2 ^ 32

/-- The first error is captured with its time. -/
theorem State.capture_first {s : State} {p : Nat} (hpresent : absentPg s.cfg p = false) (hv : s.on p F.COM.ERR_VALID = false)
    (code : Nat) (st : Status) (loc : Nat) :
    s.capture p code st loc = (s.setReg 0 p 0x040 (BitVec.ofNat 64 (captureWord code st loc))).setReg 0 p 0x048 (BitVec.ofNat 64 s.now) := by
  rw [State.capture, hpresent, hv, if_neg Bool.false_ne_true, if_neg Bool.false_ne_true, captureWord]

/-- A further error sets OVERFLOW. -/
theorem State.capture_further {s : State} {p : Nat} (hpresent : absentPg s.cfg p = false) (hv : s.on p F.COM.ERR_VALID = true)
    (code : Nat) (st : Status) (loc : Nat) : s.capture p code st loc = s.wr p F.COM.ERR_OVERFLOW 1 := by
  rw [State.capture, hpresent, hv, if_neg Bool.false_ne_true, if_pos rfl]

theorem statusCode_lt (st : Status) : st.code < 256 := by cases st <;> decide

/-- ERR_INFO0 and ERR_INFO1 after the capture of a first error. -/
theorem State.capture_first_regs {s : State} {p : Nat} (hpresent : absentPg s.cfg p = false) (hv : s.on p F.COM.ERR_VALID = false)
    (code : Nat) (st : Status) (loc : Nat) :
    (s.capture p code st loc).reg 0 p 0x040 = BitVec.ofNat 64 (captureWord code st loc) ∧
    (s.capture p code st loc).reg 0 p 0x048 = BitVec.ofNat 64 s.now := by
  rw [State.capture_first hpresent hv]
  refine ⟨?_, State.reg_setReg_same ..⟩
  rw [State.reg_setReg_ne _ _ _ _ _ (regKey_ne_off (by decide) (by decide) (by decide)), State.reg_setReg_same]

/-- The fields of the captured word. -/
theorem captureWord_fields {code loc : Nat} (st : Status) (hcode : code < 256) (hloc : loc < 2 ^ 32) :
    let w : Word := BitVec.ofNat 64 (captureWord code st loc)
    bits w 7 0 = code ∧ bits w 15 8 = st.code ∧ bits w 16 16 = 1 ∧ bits w 17 17 = 0 ∧ bits w 18 18 = 0 ∧ bits w 63 32 = loc := by
  have hst := statusCode_lt st
  have hw : captureWord code st loc < 2 ^ 64 := by rw [captureWord]; omega
  simp only [bits, BitVec.toNat_ofNat, Nat.mod_eq_of_lt hw]
  rw [captureWord]
  refine ⟨?_, ?_, ?_, ?_, ?_, ?_⟩ <;> omega

theorem State.now_lt (s : State) : s.now < 2 ^ 64 := bits_lt ..

/-- The cleared error registers show no error. -/
theorem State.cleared_not_valid (s : State) (p : Nat) : ((s.setReg 0 p 0x040 0).setReg 0 p 0x048 0).on p F.COM.ERR_VALID = false := by
  rw [State.on, State.rd_setReg_ne_off _ _ _ _ _ (by decide) (by decide) (by decide), State.rd, State.rdB]
  rw [show F.COM.ERR_VALID.off = 0x040 from rfl, State.reg_setReg_same]
  rfl

/-- The write that clears VALID clears both registers. -/
theorem State.press_errClear {s : State} {p : Nat} (hunit : (unitOf p).isSome = true) (hpresent : absentPg s.cfg p = false) (v : Word) :
    s.press false false p 0x040 16 v = (s.setReg 0 p 0x040 0).setReg 0 p 0x048 0 := by
  have hbit : (v ||| BitVec.ofNat 64 (2 ^ 16)).getLsbD 16 = true := by
    rw [BitVec.getLsbD_or, Bool.or_eq_true]; exact Or.inr (by decide)
  rw [State.press, State.regWrite_common false false _ hunit hpresent (by decide) (by decide)]
  change s.errClear p _ = _
  rw [State.errClear, if_pos hbit]

/-- Settles O28: the clear is the press of VALID, after which an error is the first. -/
theorem errInfoClears : Obligations.ErrInfoClears := by
  unfold Obligations.ErrInfoClears
  intro s p v hunit hpresent hp
  refine ⟨fun hcalm => ?_, fun code st loc hcode hloc => ⟨?_, ?_⟩⟩
  · have hrun : exec (.errInfoClear p v none) s = .next (s.ran fun t => t.press false false p 0x040 16 v) := act_run rfl hp
    rw [hrun, State.ran_congr (f := fun t => t.press false false p 0x040 16 v) (g := fun t => (t.setReg 0 p 0x040 0).setReg 0 p 0x048 0)
      (State.press_errClear (s := s.entry) hunit hpresent v), State.ran_calm hcalm ((State.setReg_cfg ..).trans (State.setReg_cfg ..))
      ((State.setReg_pending ..).trans (State.setReg_pending ..))]
  · have hrun : exec (.errInfoClear p v (some (code, st, loc))) s = .next (s.ran fun t => t.clearErr p v (some (code, st, loc))) :=
      act_run rfl hp
    rw [hrun]
    refine congrArg _ (State.ran_congr ?_)
    rw [State.clearErr, State.press_errClear (s := s.entry) hunit hpresent]
  · have hfree := s.cleared_not_valid p
    have hcap : absentPg ((s.setReg 0 p 0x040 0).setReg 0 p 0x048 0).cfg p = false := hpresent
    obtain ⟨hreg, -⟩ := State.capture_first_regs hcap hfree code (statusOf st) loc
    obtain ⟨hc, -, hv, ho, -, hl⟩ := captureWord_fields (statusOf st) hcode hloc
    rw [← hreg] at hc hv ho hl
    exact ⟨hv, ho, hc, hl⟩

/-- Settles O29: the captured word holds the error's fields, and OVERFLOW is one bit of that word. -/
theorem firstErrorCaptured : Obligations.FirstErrorCaptured := by
  unfold Obligations.FirstErrorCaptured
  intro s p code loc st hunit hpresent hcode hloc
  refine ⟨fun hv => ?_, fun hv => ?_⟩
  · obtain ⟨hreg, htime⟩ := State.capture_first_regs hpresent hv code st loc
    obtain ⟨hc, hs, hv, ho, ht, hl⟩ := captureWord_fields st hcode hloc
    rw [← hreg] at hc hs hv ho ht hl
    refine ⟨hc, hs, hv, ho, ht, hl, ?_⟩
    rw [htime, BitVec.toNat_ofNat, Nat.mod_eq_of_lt s.now_lt]
  · rw [State.capture_further hpresent hv]
    have hreg : (s.wr p F.COM.ERR_OVERFLOW 1).reg 0 p 0x040 = setBits (s.reg 0 p 0x040) 17 17 1 :=
      State.reg_wr_same s p F.COM.ERR_OVERFLOW 1 rfl
    have hset : bits ((s.wr p F.COM.ERR_OVERFLOW 1).reg 0 p 0x040) 17 17 = 1 := by
      rw [hreg, bits_setBits_same _ (by decide) (by decide)]; rfl
    have hbelow {hi lo : Nat} (hh : hi < 17) (hl : lo ≤ hi) :
        bits ((s.wr p F.COM.ERR_OVERFLOW 1).reg 0 p 0x040) hi lo = bits (s.reg 0 p 0x040) hi lo := by
      rw [hreg, bits_setBits_below _ (by decide) (by decide) hh hl]
    have hloc' : bits ((s.wr p F.COM.ERR_OVERFLOW 1).reg 0 p 0x040) 63 32 = bits (s.reg 0 p 0x040) 63 32 := by
      rw [hreg, bits_setBits_above _ (by decide) (by decide) (by decide)]
    have hvalid : bits (s.reg 0 p 0x040) 16 16 = 1 := beq_iff_eq.1 hv
    exact ⟨hset, hbelow (by decide) (by decide), hbelow (by decide) (by decide), (hbelow (by decide) (by decide)).trans hvalid, hloc',
      State.reg_wrB_ne _ _ _ _ _ (regKey_ne_off (by decide) (by decide) (by decide))⟩

/-! ### Actions that are refused -/

/-- A pressed bit is set in the word that is written. -/
theorem getLsbD_press (v : Word) {i : Nat} (h : i < 64) : (v ||| BitVec.ofNat 64 (2 ^ i)).getLsbD i = true := by
  rw [BitVec.getLsbD_or, BitVec.getLsbD_ofNat, Nat.testBit_two_pow_self]
  simp [h]

/-- Settles O32: ROOT has no wrapper, and the write of a gang's actions looks for two of them first. -/
theorem badActionsRefused : Obligations.BadActionsRefused := by
  unfold Obligations.BadActionsRefused
  intro s p v hp
  refine ⟨fun hopen hquiet => ?_, fun hgang hunbind hopen hcalm => ?_⟩
  · have hiso : s.entry.writeCommon 0 0x050 (v ||| BitVec.ofNat 64 2) = s.entry.answer .badArg := by
      have hbit : (v ||| BitVec.ofNat 64 2).getLsbD 1 = true := getLsbD_press v (i := 1) (by decide)
      simp only [State.writeCommon, if_true, hbit, Bool.true_or]
    have hrun : exec (.isolate 0 v) s = .next (s.ran fun t => t.regWrite false false 0 0x050 (v ||| BitVec.ofNat 64 2)) := act_run rfl hp
    rw [hrun, State.ran_answer hopen hiso hquiet]
  · have hwrite : s.entry.writeType p 0xE08 (v ||| BitVec.ofNat 64 1)
        = (s.entry.wr p F.GANG.BIND_STATUS Status.badArg.code).answer .badArg := by
      have hrow : (findRow .gang 0xE08).isNone = false := by decide
      have hboth : ((v ||| BitVec.ofNat 64 1).getLsbD 0 && (v ||| BitVec.ofNat 64 1).getLsbD 1) = true := by
        rw [Bool.and_eq_true, BitVec.getLsbD_or (i := 1), hunbind]
        exact ⟨getLsbD_press v (i := 0) (by decide), rfl⟩
      simp only [State.writeType, hgang, hrow, Bool.false_eq_true, if_false, State.writeTile, State.gangCtrl, hboth, if_true]
      rfl
    have hrun : exec (.bind p v) s = .next (s.ran fun t => t.regWrite false false p 0xE08 (v ||| BitVec.ofNat 64 1)) :=
      act_run (by rw [hgang]; rfl) hp
    rw [hrun, State.ran_open (f := fun t => (t.wr p F.GANG.BIND_STATUS Status.badArg.code).answer .badArg) hopen hwrite hcalm rfl rfl]

/-! ### Voltages and limits -/

/-- Refutes O33: a V_SET that changes the effective voltage of its island also moves the rail (R499, R500), which takes a free value for the
level it has reached. After reset island 23 stands at 750 mV, and 850 mV moves it. -/
theorem not_vSetWrite : ¬ Obligations.VSetWrite := by
  unfold Obligations.VSetWrite
  intro h
  obtain ⟨hset, -⟩ := h State.reset 23 0x352 (by decide) (by decide) (by decide)
  have hsays := hset (by decide) (by unfold State.calm; decide)
  have hrun : exec (.vSetWrite 23 0x352) State.reset = .next (State.reset.ran fun t => t.regWrite false false (pg .island 23) 0x100 0x352) :=
    exec_regForm (c := .vSetWrite 23 0x352) rfl (by decide)
  have hcalm : State.reset.calm (fun t => t.regWrite false false (pg .island 23) 0x100 0x352) := by unfold State.calm; decide
  rw [hrun, State.ran_calm hcalm (by decide) (by decide)] at hsays
  have hfree := congrArg State.freeCtr (Host.Outcome.next.inj hsays)
  exact absurd hfree (by decide)

/-- The package after reset, with the rail of island 0 settled at 750 mV after a move. -/
def movedRail : State := { State.reset with pw := { State.reset.pw with rails := [(0, ⟨750, 0, 750, 10⟩)] } }

/-- Refutes O34: a write of SLEW_UP restarts the rails that have moved from where they are (R504), which takes a free value for each. Here the
rail of island 0 stands at 750 mV, and SLEW_UP is written with 50. -/
theorem not_powerLimits : ¬ Obligations.PowerLimits := by
  unfold Obligations.PowerLimits
  intro h
  obtain ⟨-, hslew⟩ := h movedRail false false 50 (by decide)
  obtain ⟨hset, -⟩ := hslew (by decide)
  have hsays := hset (by decide) (by unfold State.calm; decide)
  have hrun : exec (.regWrite false false pwrPg 0x110 50) movedRail = .next (movedRail.ran fun t => t.regWrite false false pwrPg 0x110 50) :=
    exec_regForm (c := .regWrite false false pwrPg 0x110 50) rfl (by decide)
  have hcalm : movedRail.calm (fun t => t.regWrite false false pwrPg 0x110 50) := by unfold State.calm; decide
  rw [hrun, State.ran_calm hcalm (by decide) (by decide)] at hsays
  have hfree := congrArg State.freeCtr (Host.Outcome.next.inj hsays)
  exact absurd hfree (by decide)

end Sys2Proof.Machine
end

section
/-! PROOFS. Writes of the unit pages (06 to 13 of the spec): each is the branch of its page's write that its offset names, and a refusal
leaves everything but its status and the status field that takes it. -/

namespace Sys2Proof.Machine

/-! ### A unit register's write -/

/-- The write of a unit's own register that nothing refuses as a whole, with the effect `f` of which nothing follows, leaves that effect. -/
theorem exec_write {c : Instr} {r : RegForm} {s : State} (f : State → State) (hform : regForm c = some r) (hp : s.powered = true)
    (hopen : s.writeBar r.co r.keys r.page r.off r.val = none) (hunit : 0x100 ≤ r.off)
    (hwrite : s.entry.writeType r.page r.off r.val = f s.entry) (hcalm : s.calm f) (hcfg : (f s.entry).cfg = s.cfg)
    (hqueue : (f s.entry).pending = s.pending) : exec c s = .next (f s.entry) := by
  rw [exec_regForm hform hp]
  exact congrArg _ (State.ran_open hopen (by rw [if_neg (by omega), hwrite]) hcalm hcfg hqueue)

/-- The write of a unit's own register that is only answered with a status leaves everything else. -/
theorem exec_write_refused {c : Instr} {r : RegForm} {s : State} {st : Status} (hform : regForm c = some r) (hp : s.powered = true)
    (hopen : s.writeBar r.co r.keys r.page r.off r.val = none) (hunit : 0x100 ≤ r.off)
    (hwrite : s.entry.writeType r.page r.off r.val = s.entry.answer st) (hquiet : s.quiet s.faultL = true) :
    exec c s = .next { s with out := [], ret := st } :=
  exec_write (fun t => t.answer st) hform hp hopen hunit hwrite hquiet rfl rfl

/-- The write of a unit's own register that is refused with a status that a field of the page takes leaves everything else. -/
theorem exec_write_noted {c : Instr} {r : RegForm} {s : State} {st : Status} (f : Fld) (hform : regForm c = some r) (hp : s.powered = true)
    (hopen : s.writeBar r.co r.keys r.page r.off r.val = none) (hunit : 0x100 ≤ r.off)
    (hwrite : s.entry.writeType r.page r.off r.val = (s.entry.wr r.page f st.code).answer st)
    (hcalm : s.calm (fun t => (t.wr r.page f st.code).answer st)) :
    exec c s = .next ((s.entry.wr r.page f st.code).answer st) :=
  exec_write (fun t => (t.wr r.page f st.code).answer st) hform hp hopen hunit hwrite hcalm rfl rfl

/-! ### HALO -/

/-- Settles O48. -/
theorem logPop : Obligations.LogPop := by
  unfold Obligations.LogPop
  intro s g v hg hp hopen hcalm
  have hpop : s.entry.writeType (pg .halo g) 0x170 (v ||| BitVec.ofNat 64 1) = s.entry.haloPop g := by
    have hbit : (v ||| BitVec.ofNat 64 1).getLsbD 0 = true := getLsbD_press v (i := 0) (by decide)
    rw [State.writeType_halo _ _ hg (by decide)]
    simp only [State.writeHalo, hbit, if_true]
    rfl
  exact exec_write (fun t => t.setHl g { s.hl g with log := (s.hl g).log.drop 1 })
    (r := ⟨false, false, pg .halo g, 0x170, v ||| BitVec.ofNat 64 1⟩) (by simp [regForm, hg]) hp hopen (by simp) hpop hcalm rfl rfl

@[simp] theorem State.haloWord_entry (s : State) : s.entry.haloWord = s.haloWord := rfl

/-- The write of a watch word is that of its word of the entry that WP_INDEX shows (R182). -/
theorem State.writeType_watch (s : State) {g off : Nat} (v : Word) (hg : g < 8) (hlo : 0x110 ≤ off) (hhi : off < 0x138)
    (hrow : (findRow .halo off).isNone = false) : s.writeType (pg .halo g) off v = s.haloWpWrite g ((off - 0x110) / 8) v := by
  rw [State.writeType_halo _ _ hg hrow]
  unfold State.writeHalo
  exact if_pos (by simp [hlo, hhi])

/-- Settles O49: each refusal is a test of the written word, and the ID's test comes last. -/
theorem watchWriteRefused : Obligations.WatchWriteRefused := by
  unfold Obligations.WatchWriteRefused
  intro s g v hg hp hquiet
  have hrefused {off : Nat} {st : Status} (hlo : 0x110 ≤ off) (hhi : off < 0x138) (hrow : (findRow .halo off).isNone = false)
      (hopen : s.writeBar false false (pg .halo g) off v = none)
      (hwp : s.entry.haloWpWrite g ((off - 0x110) / 8) v = s.entry.answer st) :
      exec (.haloWpWrite g off v) s = .next { s with out := [], ret := st } :=
    exec_write_refused (r := ⟨false, false, pg .halo g, off, v⟩) (by simp [regForm, hg, hlo, hhi]) hp hopen (show 0x100 ≤ off by omega)
      ((State.writeType_watch _ v hg hlo hhi hrow).trans hwp) hquiet
  refine ⟨fun hopen hbad => ?_, fun hopen hbad => ?_, fun hopen hbad => ?_, fun hopen hbad => ?_, fun hopen hid halpha hon hnew => ?_⟩
  · refine hrefused (by decide) (by decide) (by decide) hopen ?_
    have htest : (bits v 11 0 != s.entry.rd (pg .halo g) F.HALO.WP_INDEX || bits v 23 20 == 0) = true := by
      simpa [State.rd_entry] using hbad
    simp only [State.haloWpWrite, Nat.sub_self, Nat.zero_div, htest, if_true]
  · refine hrefused (by decide) (by decide) (by decide) hopen ?_
    simp [State.haloWpWrite, hbad]
  · refine hrefused (by decide) (by decide) (by decide) hopen ?_
    simp [State.haloWpWrite, hbad]
  · refine hrefused (by decide) (by decide) (by decide) hopen ?_
    simp [State.haloWpWrite, hbad]
  · refine hrefused (by decide) (by decide) (by decide) hopen ?_
    simp [State.haloWpWrite, hid, halpha, hon]
    exact fun hsame => absurd hsame hnew

/-! ### Memory tiers, POOL and Updraft -/

/-- Settles O50: RETURN looks at RELOC_STATE first, and a flush at BUSY. -/
theorem tierActionsRefused : Obligations.TierActionsRefused := by
  unfold Obligations.TierActionsRefused
  intro s k v hp
  refine ⟨fun hk hcopy hstate hopen hcalm => ?_, fun hk hbusy hopen hcalm => ?_⟩
  · have hreturn : s.entry.writeType (pg .gmem k) 0x120 (v ||| BitVec.ofNat 64 2)
        = (s.entry.wr (pg .gmem k) F.GMEM.RELOC_STATUS Status.illegalState.code).answer .illegalState := by
      have hbit : (v ||| BitVec.ofNat 64 2).getLsbD 1 = true := getLsbD_press v (i := 1) (by decide)
      have hnoCopy : (v ||| BitVec.ofNat 64 2).getLsbD 0 = false := by rw [BitVec.getLsbD_or, hcopy]; rfl
      have hwrong : (s.entry.rd (pg .gmem k) F.GMEM.RELOC_STATE != 2) = true := bne_iff_ne.2 hstate
      rw [State.writeType_gmem _ _ hk (by decide)]
      simp only [State.writeGmem, hbit, hnoCopy, State.gmemReturn, hwrong, Bool.true_or, if_true, Bool.false_and, Bool.false_eq_true, if_false]
    exact exec_write_noted F.GMEM.RELOC_STATUS
      (r := ⟨false, false, pg .gmem k, 0x120, v ||| BitVec.ofNat 64 2⟩) (by simp [regForm, hk]) hp hopen (by simp) hreturn hcalm
  · have hflush : s.entry.writeType (pg .mcache k) 0x198 (v ||| BitVec.ofNat 64 1)
        = (s.entry.wr (pg .mcache k) F.MCACHE.STATUS Status.illegalState.code).answer .illegalState := by
      have hbit : (v ||| BitVec.ofNat 64 1).getLsbD 0 = true := getLsbD_press v (i := 0) (by decide)
      have hentry : s.entry.on (pg .mcache k) F.MCACHE.BUSY = true := hbusy
      rw [State.writeType_mcache _ _ hk (by decide)]
      simp only [State.writeMcache, hbit, State.mcFlushStart, hentry, Bool.true_or, if_true]
    exact exec_write_noted F.MCACHE.STATUS
      (r := ⟨false, false, pg .mcache k, 0x198, v ||| BitVec.ofNat 64 1⟩) (by simp [regForm, hk]) hp hopen (by simp) hflush hcalm

/-- Settles O51: the POOL's state and what it holds are looked at before the staged configuration. -/
theorem poolApplyRefused : Obligations.PoolApplyRefused := by
  unfold Obligations.PoolApplyRefused
  intro s g v hg hp huse hopen hcalm
  have happly : s.entry.writeType (pg .pool g) 0x130 (v ||| BitVec.ofNat 64 1)
      = (s.entry.wr (pg .pool g) F.POOL.APPLY_STATUS Status.illegalState.code).answer .illegalState := by
    have hbit : (v ||| BitVec.ofNat 64 1).getLsbD 0 = true := getLsbD_press v (i := 0) (by decide)
    have hinUse : (s.entry.ust (pg .pool g) != .idle || !(s.entry.pl g).blocks.isEmpty || !(s.entry.pl g).pages.isEmpty) = true := by
      rcases huse with h | h | h
      · rw [show (s.entry.ust (pg .pool g) != .idle) = true from bne_iff_ne.2 h]; rfl
      · rw [show (s.entry.pl g).blocks.isEmpty = false from List.isEmpty_eq_false_iff.2 h]; simp
      · rw [show (s.entry.pl g).pages.isEmpty = false from List.isEmpty_eq_false_iff.2 h]; simp
    rw [State.writeType_pool _ _ hg (by decide)]
    simp only [State.writePool, hbit, State.poolApply, hinUse, if_true]
  exact exec_write_noted F.POOL.APPLY_STATUS
    (r := ⟨false, false, pg .pool g, 0x130, v ||| BitVec.ofNat 64 1⟩) (by simp [regForm, hg]) hp hopen (by simp) happly hcalm

/-- Settles O52. -/
theorem udCfgWrite : Obligations.UdCfgWrite := by
  unfold Obligations.UdCfgWrite
  intro s co keys u v hu hp hopen
  have hstore : s.entry.store (pg .updraft u) 0x100 v = s.entry.setReg 0 (pg .updraft u) 0x100 (s.merged (pg .updraft u) 0x100 v) := by
    have hbank : s.entry.bankAt (pg .updraft u) 0x100 = 0 := by rw [State.bankAt, typeOf_pg hu]
    have hhome : homePage (pg .updraft u) 0x100 = pg .updraft u := by rw [homePage, typeOf_pg hu]
    rw [State.store, hbank, hhome]
    rfl
  have hwrite : s.entry.writeType (pg .updraft u) 0x100 v =
      if s.entry.ust (pg .updraft u) == .idle && !s.entry.on (pg .updraft u) F.UPDRAFT.ENABLE
      then s.entry.store (pg .updraft u) 0x100 v else s.entry.answer .illegalState := by
    rw [State.writeType_updraft _ _ hu (by decide), State.writeUpdraft]
    rfl
  refine ⟨fun hfree hcalm => ?_, fun hbusy hquiet => ?_⟩
  · have hyes : (s.entry.ust (pg .updraft u) == .idle && !s.entry.on (pg .updraft u) F.UPDRAFT.ENABLE) = true := by
      rw [Bool.and_eq_true, Bool.not_eq_true']; exact ⟨beq_iff_eq.2 hfree.1, hfree.2⟩
    exact exec_write (fun t => t.setReg 0 (pg .updraft u) 0x100 (s.merged (pg .updraft u) 0x100 v))
      (r := ⟨co, keys, pg .updraft u, 0x100, v⟩) rfl hp hopen (by simp) (by rw [hwrite, hyes, if_pos rfl, hstore]) hcalm rfl rfl
  · have hno : (s.entry.ust (pg .updraft u) == .idle && !s.entry.on (pg .updraft u) F.UPDRAFT.ENABLE) = false := by
      rw [Bool.eq_false_iff]
      intro h
      rw [Bool.and_eq_true, Bool.not_eq_true'] at h
      exact hbusy ⟨beq_iff_eq.1 h.1, h.2⟩
    exact exec_write_refused (r := ⟨co, keys, pg .updraft u, 0x100, v⟩) rfl hp hopen (by simp)
      (by rw [hwrite, hno, if_neg Bool.false_ne_true]) hquiet

/-! ### Steps, exchange and request I/O -/

/-- The page of a tile or a gang slot names such a unit. -/
theorem unitOf_isTile {p : Nat} : (isTile p = true ∧ (unitOf p).isSome = true) ↔
    (match unitOf p with | some (.tile, _) | some (.gang, _) => true | _ => false) = true := by
  rw [isTile, typeOf]
  rcases unitOf p with _ | ⟨t, k⟩
  · simp
  · cases t <;> simp

/-- A write of MAP_ENTRY looks at the unit it names, then at what the group does. -/
theorem State.writeType_mapEntry (s : State) {g : Nat} (v : Word) (hg : g < 8) :
    s.writeType (pg .stepseq g) 0x170 v =
      if isTile (bits v 19 0) = true ∧ (unitOf (bits v 19 0)).isSome = true then
        if (s.openOf g).isSome = true ∨ s.heldOf g ≠ [] then s.answer .illegalState else s.store (pg .stepseq g) 0x170 v
      else s.answer .range := by
  rw [State.writeType_stepseq _ _ hg (by decide), if_congr unitOf_isTile rfl rfl]
  simp only [State.writeStepseq]
  rcases unitOf (bits v 19 0) with _ | ⟨t, k⟩
  · rfl
  · cases t <;> simp

/-- Settles O53. -/
theorem mapEntryWrite : Obligations.MapEntryWrite := by
  unfold Obligations.MapEntryWrite
  intro s co keys g v hg hp hopen p tileOrGang busy
  have hbusy : ((s.entry.openOf g).isSome = true ∨ s.entry.heldOf g ≠ []) ↔ busy := Iff.rfl
  have hwrite := s.entry.writeType_mapEntry v hg
  refine ⟨fun hno hquiet => ?_, fun hyes hbusy' hquiet => ?_, fun hyes hfree => ?_⟩
  · exact exec_write_refused (r := ⟨co, keys, p, 0x170, v⟩) rfl hp hopen (by simp) (by rw [hwrite, if_neg hno]) hquiet
  · exact exec_write_refused (r := ⟨co, keys, p, 0x170, v⟩) rfl hp hopen (by simp)
      (by rw [hwrite, if_pos hyes, if_pos (hbusy.2 hbusy')]) hquiet
  · intro b hcalm
    have hstore : s.entry.store p 0x170 v = s.entry.setReg b p 0x170 (s.merged p 0x170 v) := by
      have hbank : s.entry.bankAt p 0x170 = b := by rw [State.bankAt, typeOf_pg hg]; exact if_pos rfl
      have hhome : homePage p 0x170 = p := by rw [homePage, typeOf_pg hg]
      rw [State.store, hbank, hhome]
      rfl
    exact exec_write (fun t => t.setReg b p 0x170 (s.merged p 0x170 v)) (r := ⟨co, keys, p, 0x170, v⟩) rfl hp hopen (by simp)
      (by rw [hwrite, if_pos hyes, if_neg (hfree ∘ hbusy.1), hstore]) hcalm
      (State.setReg_cfg ..) (State.setReg_pending ..)

/-- A report leaves every register of a page but EVT_LOST. -/
theorem State.reg_report_ne (s : State) (q b p : Nat) {o : Nat} (ho : o < 4096) (hlost : o ≠ 0x158) :
    (s.report q).reg b p o = s.reg b p o := by
  refine forEach_keeps (fun t => t.reg b p o = s.reg b p o) (s.subscribers q) (fun i t => t.sendEvent q i) (fun i t h => ?_) s rfl
  have hbump (u : State) : (u.bump (t.anchorPg i) F.GCT.EVT_LOST).reg b p o = u.reg b p o :=
    State.reg_bump_ne_off u _ F.GCT.EVT_LOST 1 b p ho (by decide) hlost
  rw [← h]
  unfold State.sendEvent
  dsimp only
  split
  · exact hbump t
  · split
    · rw [State.reg_late, hbump, State.reg_setSess]
    · rw [State.reg_queueMsg, State.reg_setSess]

/-- The set of a flag leaves every register but EVT_STAT, EVT_SET_COUNT and EVT_LOST. -/
theorem State.reg_setEvt_ne (s : State) (q i b p : Nat) {o : Nat} (ho : o < 4096) (hstat : o ≠ 0x028) (hcount : o ≠ 0x038)
    (hlost : o ≠ 0x158) : (s.setEvt q i).reg b p o = s.reg b p o := by
  have hflag : (s.flagged q i).reg b p o = s.reg b p o := by
    rw [State.flagged, State.wr, State.reg_wrB_ne _ _ _ _ _ (regKey_ne_off ho (by decide) hcount),
      State.reg_bump_ne_off _ _ _ _ _ _ ho (by decide) hcount, State.reg_setReg_ne _ _ _ _ _ (regKey_ne_off ho (by decide) hstat)]
  cases h : absentPg s.cfg q
  · rw [State.setEvt_eq h]
    split
    · rw [State.reg_report_ne _ _ _ _ ho hlost, hflag]
    · exact hflag
  · rw [State.setEvt_absent h]

/-- PLAN_VALID of a group reads 0 once it is cleared. -/
theorem State.planClear_valid (s : State) (k g : Nat) : (s.planClear k g).rdB g (pg .squall k) F.SQUALL.PLAN_VALID = 0 := by
  rw [State.planClear]
  split
  · rw [State.rdB, State.reg_setEvt_ne _ _ _ _ _ (by decide) (by decide) (by decide) (by decide), ← State.rdB,
      State.rdB_wrB_same _ _ _ _ (by decide) (by decide)]
    rfl
  · next hvalid =>
    have hone : bits ((s.busyClear (busyKey (pg .squall k) g)).reg g (pg .squall k) 0x118) 1 1 < 2 := bits_lt ..
    have hne : bits ((s.busyClear (busyKey (pg .squall k) g)).reg g (pg .squall k) 0x118) 1 1 ≠ 1 := fun h => hvalid (beq_iff_eq.2 h)
    change bits ((s.busyClear (busyKey (pg .squall k) g)).reg g (pg .squall k) 0x118) 1 1 = 0
    omega

/-- A write of PLAN_BASE is that of the selected group's plan. -/
theorem State.writeSquall_planBase (s : State) (k : Nat) (v : Word) : s.writeSquall k 0x110 v = s.planBaseWrite k v := by
  unfold State.writeSquall
  split
  · contradiction
  · rfl
  · contradiction
  · contradiction

/-- Settles O54. -/
theorem planBaseWrite : Obligations.PlanBaseWrite := by
  unfold Obligations.PlanBaseWrite
  intro s co keys k v hk hp hopen g
  refine ⟨?_, State.planClear_valid _ k g⟩
  have hwrite : s.entry.regWrite co keys (pg .squall k) 0x110 v =
      (s.entry.setReg g (pg .squall k) 0x110 (v &&& 0x1FFFFFFFFFC0)).planClear k g := by
    rw [State.regWrite_open (by rw [State.writeBar_entry]; exact hopen), if_neg (by decide), State.writeType_squall _ _ hk (by decide)]
    rw [State.writeSquall_planBase, State.planBaseWrite, State.rd_entry]
  rw [exec_regForm (r := ⟨co, keys, pg .squall k, 0x110, v⟩) rfl hp]
  exact congrArg _ (State.ran_congr hwrite)

/-- The writes of a bucket's balance and credit are those of the shown bucket. -/
theorem State.writeType_bkBalance (s : State) (v : Word) : s.writeType (pg .contrail 0) 0x1D0 v = s.bkBalance v.toNat := by
  rw [State.writeType_contrail _ _ (by decide) (by decide)]
  rfl
theorem State.writeType_bkCredit (s : State) (v : Word) : s.writeType (pg .contrail 0) 0x1D8 v = s.bkCredit v.toNat := by
  rw [State.writeType_contrail _ _ (by decide) (by decide)]
  rfl

/-- Settles O56: a credit keeps to the range of a balance, or takes a free one. -/
theorem balanceWrites : Obligations.BalanceWrites := by
  unfold Obligations.BalanceWrites
  intro s v hp g c b x
  have hcredit : s.entry.bkCredit v.toNat = if -(2 ^ 47) ≤ b.bal + x ∧ b.bal + x < 2 ^ 47 then s.entry.setBucket g c { b with bal := b.bal + x }
      else { s.entry.setBucket g c { b with bal := int48 (Config.freeValue s.freeCtr % 2 ^ 48) } with freeCtr := s.freeCtr + 1 } := rfl
  refine ⟨fun hopen hcalm => ?_, fun hopen hlo hhi hcalm => ?_, fun hopen hout => ⟨int48 (Config.freeValue s.freeCtr % 2 ^ 48), ?_⟩⟩
  · exact exec_write (fun t => t.setBucket g c { b with bal := x }) (r := ⟨false, false, pg .contrail 0, 0x1D0, v⟩) rfl hp hopen (by simp)
      (s.entry.writeType_bkBalance v) hcalm rfl rfl
  · exact exec_write (fun t => t.setBucket g c { b with bal := b.bal + x }) (r := ⟨false, false, pg .contrail 0, 0x1D8, v⟩) rfl hp hopen
      (by simp) (by rw [State.writeType_bkCredit, hcredit, if_pos ⟨hlo, hhi⟩]) hcalm rfl rfl
  · have hwrite : s.entry.regWrite false false (pg .contrail 0) 0x1D8 v =
        { s.entry.setBucket g c { b with bal := int48 (Config.freeValue s.freeCtr % 2 ^ 48) } with freeCtr := s.freeCtr + 1 } := by
      rw [State.regWrite_open (by rw [State.writeBar_entry]; exact hopen), if_neg (by decide), State.writeType_bkCredit, hcredit, if_neg hout]
    rw [exec_regForm (r := ⟨false, false, pg .contrail 0, 0x1D8, v⟩) rfl hp]
    exact congrArg _ (State.ran_congr hwrite)

/-! ### Links and the fabric router -/

/-- A field as a slice of its word. -/
theorem bits_eq_extractLsb' (w : Word) (hi lo : Nat) : bits w hi lo = (w.extractLsb' lo (hi + 1 - lo)).toNat := by
  rw [bits, BitVec.extractLsb'_toNat, Nat.shiftRight_eq_div_pow]

/-- A field that is RW takes the written bits. -/
theorem bits_merge {w v m : Word} {hi lo : Nat} (h : m.extractLsb' lo (hi + 1 - lo) = BitVec.allOnes _) :
    bits ((w &&& ~~~ m) ||| (v &&& m)) hi lo = bits v hi lo := by
  have hset (i : Nat) (hi' : i < hi + 1 - lo) : m.getLsbD (lo + i) = true := by
    simpa [hi'] using congrArg (fun x => BitVec.getLsbD x i) h
  rw [bits_eq_extractLsb', bits_eq_extractLsb']
  congr 1
  ext i hlt
  simp [hset i hlt]

/-- Bits above a field that is set leave a field. -/
theorem bits_or_clear {v m : Word} {hi lo : Nat} (h : m.extractLsb' lo (hi + 1 - lo) = 0) : bits (v ||| m) hi lo = bits v hi lo := by
  rw [bits_eq_extractLsb', bits_eq_extractLsb', BitVec.extractLsb'_or, h]
  exact congrArg _ (BitVec.or_zero)

/-- Settles O57: ACCEPT looks at the link's state and its cause, which the store of the word leaves. -/
theorem acceptRefused : Obligations.AcceptRefused := by
  unfold Obligations.AcceptRefused
  intro s l v hl hp hretrain hrecal hpreset hopen hcause hcalm
  set w := v ||| BitVec.ofNat 64 2 with hw
  have h0 : w.getLsbD 0 = false := by rw [hw, BitVec.getLsbD_or, hretrain]; rfl
  have h1 : w.getLsbD 1 = true := getLsbD_press v (i := 1) (by decide)
  have h2 : w.getLsbD 2 = false := by rw [hw, BitVec.getLsbD_or, hrecal]; rfl
  have hfield : ¬ 7 < bits w 11 8 := by rw [hw, bits_or_clear (by decide)]; omega
  have hone : ([0, 1, 2].filter fun i => w.getLsbD i).length = 1 := by rw [List.filter, List.filter, List.filter, List.filter, h0, h1, h2]; rfl
  have hkeep {f : Fld} (hf : f.off = 0x118) : (s.entry.store (pg .flink l) 0x138 w).rd (pg .flink l) f = s.rd (pg .flink l) f := by
    have hbank : s.entry.bankAt (pg .flink l) 0x138 = 0 := by rw [State.bankAt, typeOf_pg hl]; rfl
    rw [State.store, hbank, homePage, typeOf_pg hl]
    exact State.rd_setReg_ne_off _ _ _ _ _ (by decide) (by rw [hf]; decide) (by rw [hf]; decide)
  have hlst : (s.entry.store (pg .flink l) 0x138 w).lst l = s.lst l := by rw [State.lst, hkeep rfl, ← State.lst]
  have hno : ((s.entry.store (pg .flink l) 0x138 w).flAccept l).ret = .illegalState := by
    have htest : ((s.entry.store (pg .flink l) 0x138 w).lst l != .quarantined ||
        decide ((s.entry.store (pg .flink l) 0x138 w).rd (pg .flink l) F.FLINK.QUAR_CAUSE = 3) ||
        decide ((s.entry.store (pg .flink l) 0x138 w).rd (pg .flink l) F.FLINK.QUAR_CAUSE = 4)) = true := by
      rw [hlst, hkeep rfl]
      simpa [or_assoc] using hcause
    rw [State.flAccept]
    exact congrArg State.ret (if_pos htest)
  have hwrite : s.entry.writeType (pg .flink l) 0x138 w
      = (s.entry.wr (pg .flink l) F.FLINK.CTRL_STATUS Status.illegalState.code).answer .illegalState := by
    rw [State.writeType_flink _ _ hl (by decide)]
    unfold State.writeFlink
    simp only [hone, hfield, h0, h1, hno]
    rfl
  exact exec_write_noted F.FLINK.CTRL_STATUS (r := ⟨false, false, pg .flink l, 0x138, w⟩) (by simp [regForm, hl, hw]) hp hopen (by simp)
    hwrite hcalm

/-- Settles O58: REQ_TIMEOUT is RW, so that the stored word has the written one. -/
theorem frCfgWrite : Obligations.FrCfgWrite := by
  unfold Obligations.FrCfgWrite
  intro s co keys k v hk hp hopen
  have htimeout : bits (s.merged (pg .frouter k) 0x120 v) 15 0 = bits v 15 0 := by
    rw [State.merged, typeOf_pg hk]
    exact bits_merge (by decide)
  have hwrite : s.entry.writeType (pg .frouter k) 0x120 v = s.entry.frCfgWrite (s.merged (pg .frouter k) 0x120 v) := by
    rw [State.writeType_frouter _ _ hk (by decide)]
    rfl
  refine ⟨fun hzero hquiet => ?_, fun hnz hcalm => ?_⟩
  · exact exec_write_refused (r := ⟨co, keys, pg .frouter k, 0x120, v⟩) rfl hp hopen (by simp)
      (by rw [hwrite, State.frCfgWrite, htimeout, if_pos hzero]) hquiet
  · exact exec_write (fun t => t.setReg 0 (pg .frouter 0) 0x120 (s.merged (pg .frouter k) 0x120 v))
      (r := ⟨co, keys, pg .frouter k, 0x120, v⟩) rfl hp hopen (by simp)
      (by rw [hwrite, State.frCfgWrite, htimeout, if_neg hnz]; rfl) hcalm rfl rfl

end Sys2Proof.Machine
end

section
/-! PROOFS. Numbers (05 of the spec): rounding a quotient, the scale of a block, the codes of quantisation, the uniform variate, and the
round trip of a floating-point code. -/

namespace Sys2Proof.Machine

/-! ### Rounding -/

/-- The rounded quotient is the quotient, or the next integer where the remainder is more than half, or is half and the quotient odd. -/
theorem rneDiv_cases (a b : Nat) :
    (rneDiv a b = a / b ∧ 2 * (a % b) ≤ b ∧ (2 * (a % b) = b → a / b % 2 = 0)) ∨
    (rneDiv a b = a / b + 1 ∧ b ≤ 2 * (a % b) ∧ (2 * (a % b) = b → a / b % 2 = 1)) := by
  rw [rneDiv]
  split
  · next h => exact Or.inr ⟨rfl, by omega, by omega⟩
  · next h =>
    split
    · next htie =>
      obtain ⟨hhalf, hodd⟩ := Bool.and_eq_true_iff.1 htie
      have hhalf := of_decide_eq_true hhalf
      exact Or.inr ⟨rfl, by omega, fun _ => beq_iff_eq.1 hodd⟩
    · next htie =>
      refine Or.inl ⟨rfl, by omega, fun hhalf => ?_⟩
      have hodd : ¬ a / b % 2 = 1 := fun h1 => htie (by rw [decide_eq_true hhalf, h1]; rfl)
      omega

/-- Settles O43: the remainder tells which of two integers is the nearer one. -/
theorem roundsToNearestEven : Obligations.RoundsToNearestEven := by
  unfold Obligations.RoundsToNearestEven
  intro a b k hb
  have hdiv : b * (a / b) + a % b = a := Nat.div_add_mod a b
  have hlt : a % b < b := Nat.mod_lt _ hb
  have hnext : b * (a / b + 1) = b * (a / b) + b := Nat.mul_succ _ _
  refine ⟨?_, fun htie => ?_⟩
  · rcases rneDiv_cases a b with ⟨h, hle, -⟩ | ⟨h, hle, -⟩ <;> rw [h] <;> omega
  · have hk : a / b = k := by
      rw [show a = b * k + b / 2 by omega, Nat.mul_add_div hb, Nat.div_eq_of_lt (by omega), Nat.add_zero]
    have hrem : 2 * (a % b) = b := by rw [hk] at hdiv; omega
    rcases rneDiv_cases a b with ⟨h, -, hpar⟩ | ⟨h, -, hpar⟩ <;> rw [h, ← hk, hpar hrem]
    · rfl
    · rfl

/-! ### The scale of a block -/

/-- The scan of the UE5M3 codes from `c` on: it stays in its range, passes only values below t, and stops early only at one that is not. -/
theorem scaleFrom_spec (t : Q) (k c : Nat) :
    c ≤ scaleFrom t k c ∧ scaleFrom t k c ≤ c + k ∧ (∀ i, c ≤ i → i < scaleFrom t k c → t.le ((ue5m3 i).getD ⟨0, 1⟩) = false) ∧
    (scaleFrom t k c < c + k → t.le ((ue5m3 (scaleFrom t k c)).getD ⟨0, 1⟩) = true) := by
  induction k generalizing c with
  | zero => exact ⟨Nat.le_refl _, Nat.le_refl _, fun i h1 h2 => absurd h2 (Nat.not_lt.2 h1), fun h => absurd h (Nat.lt_irrefl _)⟩
  | succ k ih =>
    rw [scaleFrom]
    split
    · next hstop => exact ⟨Nat.le_refl _, Nat.le_add_right _ _, fun i h1 h2 => absurd h2 (Nat.not_lt.2 h1), fun _ => hstop⟩
    · next hgo =>
      obtain ⟨hlo, hhi, hpass, hstop⟩ := ih (c + 1)
      refine ⟨by omega, by omega, fun i h1 h2 => ?_, fun h => hstop (by omega)⟩
      rcases Nat.eq_or_lt_of_le h1 with rfl | h1
      · exact Bool.eq_false_iff.2 hgo
      · exact hpass i h1 h2

/-- Settles O44: the scan begins at code 0x01 and ends at 0xFE. -/
theorem scaleIsLeast : Obligations.ScaleIsLeast := by
  unfold Obligations.ScaleIsLeast
  intro t _
  exact scaleFrom_spec t 0xFD 1

/-! ### Quantised codes -/

/-- The grid code below a value is one of those looked at. -/
theorem gridBelow_le (f : Fmt) (y : Q) (c : Nat) : gridBelow f y c ≤ c := by
  induction c with
  | zero => exact Nat.le_refl 0
  | succ c ih =>
    rw [gridBelow]
    split
    · exact Nat.le_refl _
    · omega

/-- It is the first one where the value is not below that. -/
theorem gridBelow_eq_top {f : Fmt} {y : Q} {c : Nat} (hc : 0 < c) (h : gridBelow f y c = c) : (elemVal f c).num.le y = true := by
  cases c with
  | zero => omega
  | succ c =>
    rw [gridBelow] at h
    split at h
    · assumption
    · have := gridBelow_le f y c
      omega

/-- At most and not less is equal. -/
theorem Q.eq_of_le_of_not_lt {a b : Q} (hle : a.le b = true) (hlt : a.lt b = false) : a.eq b = true := by
  rw [Q.le, decide_eq_true_eq] at hle
  rw [Q.lt, decide_eq_false_iff_not] at hlt
  rw [Q.eq, decide_eq_true_eq]
  omega

/-- One of a code and the next is within a bound above the code. -/
theorem ite_succ_le {up : Bool} {lo top : Nat} (h : lo < top) : (if up then lo + 1 else lo) ≤ top := by
  split <;> omega

/-- Without saturation the code is that of the grid value below, or of the next one within the grid. -/
theorem quantElem_within {f : Fmt} {y : Q} (round rb : Nat) (neg : Bool) (h : (elemVal f (gridMax f)).num.lt y = false) :
    ∃ c ≤ gridMax f, quantElem f round rb neg y = (signedCode f neg c, false) := by
  have hlo := gridBelow_le f y (gridMax f)
  rw [quantElem]
  simp only [h, Bool.false_eq_true, if_false]
  split
  · exact ⟨_, hlo, rfl⟩
  · next hne =>
    have hpos : 0 < gridMax f := by cases f <;> decide
    have hbelow : gridBelow f y (gridMax f) ≠ gridMax f := fun htop =>
      hne (by rw [htop]; exact Q.eq_of_le_of_not_lt (gridBelow_eq_top hpos htop) h)
    exact ⟨_, ite_succ_le (by omega), rfl⟩

/-- Settles O45. -/
theorem quantisedCodes : Obligations.QuantisedCodes := by
  unfold Obligations.QuantisedCodes
  intro f round rb neg y _ _ _
  have hsat (h : (elemVal f (gridMax f)).num.lt y = true) : quantElem f round rb neg y = (signedCode f neg (gridMax f), true) := by
    rw [quantElem]
    simp only [h, if_true]
  refine ⟨?_, hsat, fun h => ?_⟩
  · cases h : (elemVal f (gridMax f)).num.lt y
    · obtain ⟨c, hc, he⟩ := quantElem_within round rb neg h
      exact ⟨c, hc, by rw [he]⟩
    · exact ⟨_, Nat.le_refl _, by rw [hsat h]⟩
  · obtain ⟨c, -, he⟩ := quantElem_within round rb neg h
    rw [he]

/-! ### The uniform variate -/

/-- The mixing steps keep to 32 bits: the last product does, and shifting it and xor keep that. -/
theorem mix32_lt (x : Nat) : mix32 x < 2 ^ 32 := by
  rw [mix32]
  exact Nat.xor_lt_two_pow (Nat.mod_lt _ (by decide)) ((Nat.div_le_self _ _).trans_lt (Nat.mod_lt _ (by decide)))

/-- Settles O46. -/
theorem uniformVariate : Obligations.UniformVariate := by
  unfold Obligations.UniformVariate
  intro seed handle q
  have hx := mix32_lt ((seed % 2 ^ 32) ^^^ mul32 handle 0xC2B2AE35 ^^^ mul32 q 0x27D4EB2F)
  rw [uvar]
  refine ⟨rfl, ?_, ?_, ?_⟩ <;> dsimp only <;> omega

/-! ### Floating-point codes -/

/-- An exact quotient is left by rounding. -/
theorem rneDiv_mul {b : Nat} (hb : 0 < b) (a : Nat) : rneDiv (a * b) b = a := by
  rcases rneDiv_cases (a * b) b with ⟨h, -, -⟩ | ⟨h, hle, -⟩
  · rw [h, Nat.mul_div_cancel _ hb]
  · rw [Nat.mul_mod_left] at hle; omega

/-- 2 to an integer power, with the numerator and the denominator both as powers. -/
theorem Q.pow2_eq (x : Int) : Q.pow2 x = ⟨(2 ^ x.toNat : Nat), 2 ^ (-x).toNat⟩ := by
  rw [Q.pow2]
  split
  · next h => rw [show (-x).toNat = 0 by omega]; push_cast; rfl
  · next h => rw [show x.toNat = 0 by omega]; rfl

/-- The exponent of an integer times a power of 2. -/
theorem floorLog2_scaled {m : Nat} (hm : m ≠ 0) (x : Int) : floorLog2 (m * 2 ^ x.toNat) (2 ^ (-x).toNat) = m.log2 + x := by
  have hself : 2 ^ m.log2 ≤ m := Nat.log2_self_le hm
  have hlog : (m * 2 ^ x.toNat).log2 = m.log2 + x.toNat := by
    rw [Nat.log2_eq_iff (Nat.mul_ne_zero hm (Nat.two_pow_pos _).ne'), Nat.pow_add, Nat.add_right_comm, Nat.pow_add]
    exact ⟨Nat.mul_le_mul_right _ hself, Nat.mul_lt_mul_of_pos_right Nat.lt_log2_self (Nat.two_pow_pos _)⟩
  have hk : ((m.log2 + x.toNat : Nat) : Int) - ((-x).toNat : Nat) = m.log2 + x := by omega
  rw [floorLog2, hlog, Nat.log2_two_pow, hk]
  refine if_pos ?_
  split
  · next hpos =>
    refine decide_eq_true ?_
    rw [← Nat.pow_add, show (-x).toNat + (m.log2 + x).toNat = m.log2 + x.toNat by omega, Nat.pow_add]
    exact Nat.mul_le_mul_right _ hself
  · next hneg =>
    refine decide_eq_true ?_
    rw [Nat.mul_assoc, ← Nat.pow_add, show (-x).toNat = m.log2 + (x.toNat + (-(m.log2 + x)).toNat) by omega, Nat.pow_add]
    exact Nat.mul_le_mul_right _ hself

/-- The significand of an integer times a power of 2, at the scale of that power, is the integer. -/
theorem rne_scaled (m : Nat) (x : Int) :
    (if 0 ≤ x then rneDiv (m * 2 ^ x.toNat) (2 ^ (-x).toNat * 2 ^ x.toNat) else rneDiv (m * 2 ^ x.toNat * 2 ^ (-x).toNat) (2 ^ (-x).toNat)) = m := by
  split
  · next h =>
    rw [show (-x).toNat = 0 by omega, Nat.pow_zero, Nat.one_mul]
    exact rneDiv_mul (Nat.two_pow_pos _) m
  · next h =>
    rw [show x.toNat = 0 by omega, Nat.pow_zero, Nat.mul_one]
    exact rneDiv_mul (Nat.two_pow_pos _) m

/-- The exponent bias of a format with `eb` exponent bits. -/
def expBias (eb : Nat) : Int := 2 ^ (eb - 1) - 1
/-- The sign bit's share of a code. -/
def signPart (eb mb : Nat) (neg : Bool) : Nat := if neg then 2 ^ (eb + mb) else 0
/-- The sign as a factor. -/
def signOf (neg : Bool) : Int := if neg then -1 else 1

/-- The code of an integer times a power of 2 that is the last place of the format at that exponent: nothing is rounded. -/
theorem encodeIeee_scaled {eb mb m : Nat} {x : Int} (neg : Bool) (hm : m ≠ 0) (hx : max ((m.log2 : Int) + x) (1 - expBias eb) = x + mb)
    (hfin : (x + mb + expBias eb - 1).toNat * 2 ^ mb + m < (2 ^ eb - 1) * 2 ^ mb) :
    encodeIeee eb mb (.fin neg (Q.mul ⟨signOf neg * m, 1⟩ (Q.pow2 x)))
      = signPart eb mb neg + ((x + mb + expBias eb - 1).toNat * 2 ^ mb + m) := by
  have hval : Q.mul ⟨signOf neg * m, 1⟩ (Q.pow2 x) = ⟨signOf neg * (m * 2 ^ x.toNat : Nat), 2 ^ (-x).toNat⟩ := by
    rw [Q.pow2_eq, Q.mul, Nat.one_mul, Int.mul_assoc, Nat.cast_mul]
  have habs : (signOf neg * (m * 2 ^ x.toNat : Nat)).natAbs = m * 2 ^ x.toNat := by
    rw [Int.natAbs_mul, Int.natAbs_natCast]
    cases neg <;> simp [signOf]
  have hnz : signOf neg * (m * 2 ^ x.toNat : Nat) ≠ 0 := by
    rw [← Int.natAbs_ne_zero, habs]
    exact Nat.mul_ne_zero hm (Nat.two_pow_pos _).ne'
  rw [hval, encodeIeee]
  simp only [hnz, if_false, habs, floorLog2_scaled hm]
  rw [show (2 ^ (eb - 1) - 1 : Int) = expBias eb from rfl, hx, Int.add_sub_cancel, rne_scaled, if_neg (Nat.not_le.2 hfin)]
  rfl

/-- The bias of a format with two exponent bits or more. -/
theorem expBias_pos {eb : Nat} (heb : 2 ≤ eb) : 1 ≤ expBias eb := by
  have h : 2 ^ 1 ≤ 2 ^ (eb - 1) := Nat.pow_le_pow_right (by decide) (by omega)
  rw [expBias]
  have : ((2 ^ (eb - 1) : Nat) : Int) = 2 ^ (eb - 1) := by push_cast; rfl
  omega

/-- The code of a subnormal number or a zero. -/
theorem encodeIeee_subnormal {eb mb e m : Nat} (neg : Bool) (heb : 2 ≤ eb) (hm : m < 2 ^ mb) (he : e = 0)
    (hfin : e * 2 ^ mb + m < (2 ^ eb - 1) * 2 ^ mb) :
    encodeIeee eb mb (.fin neg (Q.mul ⟨signOf neg * m, 1⟩ (Q.pow2 (1 - expBias eb - mb)))) = signPart eb mb neg + (e * 2 ^ mb + m) := by
  have hbias := expBias_pos heb
  rcases Nat.eq_zero_or_pos m with rfl | hpos
  · have hzero : (Q.mul ⟨signOf neg * (0 : Nat), 1⟩ (Q.pow2 (1 - expBias eb - mb))).n = 0 := by simp [Q.mul]
    rw [encodeIeee, if_pos hzero, he]
    simp [signPart]
  · have hlog : m.log2 < mb := (Nat.log2_lt hpos.ne').2 hm
    have hplace : (1 - expBias eb - mb + mb + expBias eb - 1).toNat = e := by omega
    rw [encodeIeee_scaled neg hpos.ne' (by omega) (by rw [hplace]; exact hfin), hplace]

/-- The code of a normal number. -/
theorem encodeIeee_normal {eb mb e m : Nat} (neg : Bool) (hm : m < 2 ^ mb) (he : e ≠ 0)
    (hfin : e * 2 ^ mb + m < (2 ^ eb - 1) * 2 ^ mb) :
    encodeIeee eb mb (.fin neg (Q.mul ⟨signOf neg * (2 ^ mb + m), 1⟩ (Q.pow2 ((e : Int) - expBias eb - mb))))
      = signPart eb mb neg + (e * 2 ^ mb + m) := by
  have hpos : 2 ^ mb + m ≠ 0 := by have := Nat.two_pow_pos mb; omega
  have hlog : (2 ^ mb + m).log2 = mb := by
    rw [Nat.log2_eq_iff hpos, Nat.pow_succ]
    omega
  have hplace : ((e : Int) - expBias eb - mb + mb + expBias eb - 1).toNat = e - 1 := by omega
  have hcode : (e - 1) * 2 ^ mb + (2 ^ mb + m) = e * 2 ^ mb + m := by
    rw [← Nat.add_assoc, ← Nat.succ_mul, Nat.succ_eq_add_one, Nat.sub_add_cancel (Nat.one_le_iff_ne_zero.2 he)]
  have h := encodeIeee_scaled (eb := eb) (mb := mb) (m := 2 ^ mb + m) (x := (e : Int) - expBias eb - mb) neg hpos (by rw [hlog]; omega)
    (by rw [hplace, hcode]; exact hfin)
  rw [hplace, hcode] at h
  rw [← h]
  push_cast
  rfl

/-- A code is its sign, its exponent and its mantissa. -/
theorem code_split {eb mb c : Nat} (hc : c < 2 ^ (1 + eb + mb)) :
    c = signPart eb mb (c / 2 ^ (eb + mb) % 2 == 1) + (c / 2 ^ mb % 2 ^ eb * 2 ^ mb + c % 2 ^ mb) := by
  have hdiv : c / 2 ^ mb = c / 2 ^ (eb + mb) * 2 ^ eb + c / 2 ^ mb % 2 ^ eb := by
    rw [Nat.add_comm eb mb, Nat.pow_add, ← Nat.div_div_eq_div_mul, Nat.div_add_mod']
  have hsign : signPart eb mb (c / 2 ^ (eb + mb) % 2 == 1) = c / 2 ^ (eb + mb) * 2 ^ (eb + mb) := by
    have htop : c / 2 ^ (eb + mb) < 2 := Nat.div_lt_of_lt_mul (by rwa [← Nat.pow_succ, show (eb + mb).succ = 1 + eb + mb by omega])
    rw [signPart, Nat.mod_eq_of_lt htop]
    obtain h | h : c / 2 ^ (eb + mb) = 0 ∨ c / 2 ^ (eb + mb) = 1 := Nat.le_one_iff_eq_zero_or_eq_one.1 (Nat.lt_succ_iff.1 htop)
    · simp [h]
    · simp [h]
  calc c = c / 2 ^ mb * 2 ^ mb + c % 2 ^ mb := (Nat.div_add_mod' c _).symm
    _ = (c / 2 ^ (eb + mb) * 2 ^ eb + c / 2 ^ mb % 2 ^ eb) * 2 ^ mb + c % 2 ^ mb := by rw [← hdiv]
    _ = _ := by rw [hsign, Nat.add_mul, Nat.mul_assoc, ← Nat.pow_add, Nat.add_assoc]

/-- Settles O42: the exponent of what is read is that of the code, or the least one, and the significand its mantissa, with the leading 1 of
a normal code. -/
theorem floatCodesRoundTrip : Obligations.FloatCodesRoundTrip := by
  unfold Obligations.FloatCodesRoundTrip
  intro eb mb c heb hmb hc hnan
  have hsplit := code_split hc
  have hm : c % 2 ^ mb < 2 ^ mb := Nat.mod_lt _ (Nat.two_pow_pos _)
  have he : c / 2 ^ mb % 2 ^ eb < 2 ^ eb := Nat.mod_lt _ (Nat.two_pow_pos _)
  rw [decodeIeee] at hnan ⊢
  generalize c % 2 ^ mb = m at *
  generalize c / 2 ^ mb % 2 ^ eb = e at *
  generalize (c / 2 ^ (eb + mb) % 2 == 1) = neg at *
  rw [hsplit]
  split at hnan
  · next hall =>
    split at hnan
    · next hzero => rw [if_pos hall, if_pos hzero, encodeIeee, hall, hzero]; rfl
    · exact absurd hnan (by decide)
  · next hall =>
    have hfin : e * 2 ^ mb + m < (2 ^ eb - 1) * 2 ^ mb :=
      calc e * 2 ^ mb + m < (e + 1) * 2 ^ mb := by rw [Nat.succ_mul]; omega
        _ ≤ _ := Nat.mul_le_mul_right _ (by omega)
    rw [if_neg hall]
    split
    · next hzero => exact encodeIeee_subnormal neg heb hm hzero hfin
    · next hnorm => exact encodeIeee_normal neg hm hnorm hfin

end Sys2Proof.Machine
end

section
/-! PROOFS. The control commands of a tile (R137, R139, R547): what a counter's update leaves, and that the checks of a SIGNAL see the same
registers, regions and poison marks after every update as before the command. -/

namespace Sys2Proof.Machine

/-! ### A running command's work -/

/-- The work of a running command is its effect. -/
theorem exec_work {c : Instr} {p cls op : Nat} {work : Run → State → State} {s : State} {r : Run} (hform : workForm c = some (p, cls, op, work))
    (hp : s.powered = true) (hrun : s.running p cls op = some r) : exec c s = .next (s.ran fun t => work r t) := by
  have hentry : s.entry.running p cls op = some r := hrun
  rw [exec_workForm hform hp]
  exact congrArg _ (State.ran_congr (by rw [State.work, hentry]))

/-- The work of a running command that leaves all as it is. -/
theorem exec_work_id {c : Instr} {p cls op : Nat} {work : Run → State → State} {s : State} {r : Run} (hform : workForm c = some (p, cls, op, work))
    (hp : s.powered = true) (hrun : s.running p cls op = some r) (hwork : work r s.entry = s.entry) : exec c s = .next (s.ran id) := by
  rw [exec_work hform hp hrun]
  exact congrArg _ (State.ran_congr hwork)

/-- The work of a running command that completes it, of which nothing follows. -/
theorem exec_work_finish {c : Instr} {p cls op : Nat} {work : Run → State → State} {s : State} {r : Run} {x : Res}
    (hform : workForm c = some (p, cls, op, work)) (hp : s.powered = true) (hrun : s.running p cls op = some r)
    (hwork : work r s.entry = s.entry.finish p r x) (hcalm : s.calm fun t => t.finish p r x) :
    exec c s = .next (s.entry.finish p r x) := by
  rw [exec_work hform hp hrun, State.ran_congr (f := fun t => work r t) (g := fun t => t.finish p r x) hwork, State.ran_calm hcalm rfl rfl]

/-- Settles O38. -/
theorem nullCompletes : Obligations.NullCompletes := by
  unfold Obligations.NullCompletes
  intro s p r htile hp hrun hcalm
  exact exec_work_finish (if_pos htile) hp hrun rfl hcalm

/-! ### WAIT, BARRIER and FENCE -/

/-- The group of a page, the queues and the times stay while an open step is replaced. -/
theorem State.setOpen_eq (s : State) (g : Nat) (o : Option OpenStep) : ∃ st, s.setOpen g o = { s with steps := st } := by
  rw [State.setOpen]
  split
  · exact ⟨_, rfl⟩
  · exact ⟨s.steps, rfl⟩

/-- The BARRIERs that run in a group stay while its open step is replaced. -/
theorem State.atBarrier_setOpen (s : State) (g h id : Nat) (o : Option OpenStep) : (s.setOpen h o).atBarrier g id = s.atBarrier g id := by
  obtain ⟨st, he⟩ := s.setOpen_eq h o
  rw [he]
  rfl

/-- WAIT with no poisoned counter completes once its condition holds on every leaf, and goes on waiting until then. -/
theorem State.waitWork_eq {s : State} {p : Nat} {r : Run} (hclean : (s.leaves p).any (fun pos => s.anyPoison (counterOf r.d pos) 8) = false) :
    s.waitWork p r = if (s.leaves p).all (fun pos => waitHolds r.d (s.ld (counterOf r.d pos) 8)) then
      s.finish p r { st := .ok, r0 := sat32 (((s.leaves p).map fun pos => s.ld (counterOf r.d pos) 8 % 2 ^ 32).sum), r1 := s.waitUs p r } else s := by
  rw [State.waitWork, hclean]
  rfl

/-- Settles O39: each of the three asks its condition and does nothing until it holds. -/
theorem waitWaits : Obligations.WaitWaits := by
  unfold Obligations.WaitWaits
  refine ⟨?wait, ?others⟩
  case wait =>
    intro s p r htile hp hrun hclean v holds
    have hwork := State.waitWork_eq (s := s.entry) (p := p) (r := r) hclean
    have hld : (fun pos => waitHolds r.d (s.entry.ld (counterOf r.d pos) 8)) = holds := by
      funext pos; rw [State.entry_ld]; rfl
    rw [hld] at hwork
    refine ⟨fun hno hquiet => ?_, fun hyes => ?_⟩
    · have hid : s.entry.waitWork p r = s.entry := by rw [hwork, if_neg]; rw [Bool.not_eq_true]; exact hno
      rw [exec_work_id (c := .syncWait p) (if_pos htile) hp hrun hid, State.ran_id_quiet hquiet]
    · intro us x hcalm
      refine exec_work_finish (if_pos htile) hp hrun (hwork.trans ((if_pos hyes).trans ?_)) hcalm
      simp only [State.entry_ld]
      rfl
  intro s p r htile hp us
  refine ⟨?barrier, ?fence⟩
  case barrier =>
    intro g o hrun hgroup hopen id had now
    have hb : s.entry.barrierWork p r = if o.active ≤ now.length then
        forEach (s.atBarrier g id) (fun x u => u.syncDone x.1 x.2) (s.entry.setOpen g (some { o with barriers := tblErase id o.barriers }))
        else s.entry.setOpen g (some { o with barriers := tblInsert id now (tblErase id o.barriers) }) := by
      have hg : s.entry.groupOf p = some g := hgroup
      have ho : s.entry.openOf g = some o := hopen
      have hat : (s.entry.setOpen g (some { o with barriers := tblErase id o.barriers })).atBarrier g id = s.atBarrier g id :=
        s.entry.atBarrier_setOpen g g id _
      rw [State.barrierWork, hg]
      dsimp only
      rw [ho]
      dsimp only
      rw [hat]
      rfl
    refine ⟨fun hlt => ?_, fun hall => ?_⟩
    · rw [exec_work (c := .syncBarrier p) (if_pos htile) hp hrun]
      exact congrArg _ (State.ran_congr (by rw [hb, if_neg (by omega)]))
    · rw [exec_work (c := .syncBarrier p) (if_pos htile) hp hrun]
      exact congrArg _ (State.ran_congr (by rw [hb, if_pos hall]; rfl))
  case fence =>
    intro hrun
    have hf : s.entry.fenceWork p r = if (s.sq p).run.head?.any (fun x => x.q == r.q && x.idx == r.idx) then s.entry.syncDone p r else s.entry := by
      have hsq : s.entry.sq p = s.sq p := rfl
      rw [State.fenceWork, hsq]
      cases (s.sq p).run with
      | nil => rfl
      | cons x xs => simp
    refine ⟨fun hfirst => ?_, fun hlater => ?_⟩
    · rw [exec_work (c := .syncFence p) (if_pos htile) hp hrun]
      exact congrArg _ (State.ran_congr (by rw [hf, if_pos hfirst]; rfl))
    · exact exec_work_id (c := .syncFence p) (if_pos htile) hp hrun (by rw [hf, hlater]; rfl)

/-! ### What the checks at a peer see -/

/-- A state whose registers, configuration and regions are those of another, and in which no further word is poisoned: what the checks of R547
see of it has not grown worse. -/
structure State.SameChecks (s t : State) : Prop where
  cfg : t.cfg = s.cfg
  regs : t.regs = s.regs
  regions : ∀ pos, (t.tl pos).regions = (s.tl pos).regions
  clean : ∀ w, s.isPoison w = false → t.isPoison w = false

namespace State.SameChecks
variable {s t u : State}

theorem refl (s : State) : s.SameChecks s := ⟨rfl, rfl, fun _ => rfl, fun _ h => h⟩
theorem trans (h : s.SameChecks t) (k : t.SameChecks u) : s.SameChecks u :=
  ⟨k.cfg.trans h.cfg, k.regs.trans h.regs, fun pos => (k.regions pos).trans (h.regions pos), fun w hw => k.clean w (h.clean w hw)⟩

/-- Registers read the same. -/
theorem rdB (h : s.SameChecks t) (b p : Nat) (f : Fld) : t.rdB b p f = s.rdB b p f := by
  rw [State.rdB, State.reg_congr h.cfg h.regs, ← State.rdB]
theorem rd (h : s.SameChecks t) (p : Nat) (f : Fld) : t.rd p f = s.rd p f := h.rdB 0 p f
theorem on (h : s.SameChecks t) (p : Nat) (f : Fld) : t.on p f = s.on p f := by rw [State.on, h.rd, ← State.on]
theorem stored (h : s.SameChecks t) (p : Nat) : t.stored p = s.stored p := by rw [State.stored, h.rd, ← State.stored]
theorem now (h : s.SameChecks t) : t.now = s.now := h.rd _ _

/-- The state that a unit shows, its gang's group and its leaves are read from registers. -/
theorem ust (h : s.SameChecks t) (p : Nat) : t.ust p = s.ust p := by
  have hup (n q : Nat) : t.stateUp n q = s.stateUp n q := by
    induction n generalizing q with
    | zero => exact h.stored q
    | succ n ih => simp only [State.stateUp, h.on, h.stored, h.rd, ih]
  rw [State.ust, State.ust, h.cfg, hup]
theorem groupOf (h : s.SameChecks t) (p : Nat) : t.groupOf p = s.groupOf p := by simp only [State.groupOf, h.stored, h.rd, h.on]
theorem members (h : s.SameChecks t) (p : Nat) : t.members p = s.members p := by simp only [State.members, h.on, h.rd]
theorem leaves (h : s.SameChecks t) (p : Nat) : t.leaves p = s.leaves p := by
  have hn (n q : Nat) : t.leavesN n q = s.leavesN n q := by
    induction n generalizing q with
    | zero => rfl
    | succ n ih =>
      have hf : t.leavesN n = s.leavesN n := funext ih
      simp only [State.leavesN, h.members, hf]
  exact hn 16 p
theorem waitUs (h : s.SameChecks t) (p : Nat) (r : Run) : t.waitUs p r = s.waitUs p r := by rw [State.waitUs, h.now, h.leaves, ← State.waitUs]

/-- The checks of a mesh write pass alike (R547). -/
theorem meshFail (h : s.SameChecks t) (p d peer off n : Nat) : t.meshFail p d peer off n = s.meshFail p d peer off n := by
  have hwork : t.inWork peer off n = s.inWork peer off n := by rw [State.inWork, h.regions, ← State.inWork]
  have htag : t.tagOpen peer (dTag d).1 (dTag d).2 = s.tagOpen peer (dTag d).1 (dTag d).2 := by simp only [State.tagOpen, h.on, h.rd]
  rw [State.meshFail, State.meshFail, h.ust, h.on, h.groupOf, h.groupOf, hwork, htag]

theorem anyPoison (h : s.SameChecks t) {a n : Nat} (hc : s.anyPoison a n = false) : t.anyPoison a n = false := State.anyPoison_mono h.clean hc

/-- What each element of a list leaves to the checks, all of them do. -/
theorem forEach {α : Type} (f : α → State → State) (hf : ∀ (x : α) (v : State), v.SameChecks (f x v)) (l : List α) (s : State) :
    s.SameChecks (forEach l f s) :=
  forEach_keeps (fun v => s.SameChecks v) l f (fun x v h => h.trans (hf x v)) s (refl s)

end State.SameChecks

/-- Replacing a tile's state but for its regions. -/
theorem State.sameChecks_setTl (s : State) {pos : Nat} {x : TileSt} (h : x.regions = (s.tl pos).regions) : s.SameChecks (s.setTl pos x) where
  cfg := rfl
  regs := rfl
  clean _ hw := hw
  regions q := by
    by_cases hq : q = pos
    · rw [hq, ← h]
      exact congrArg TileSt.regions (tblGet_set_same _ _ _ _)
    · exact congrArg TileSt.regions (tblGet_set_ne _ _ hq _)

theorem State.sameChecks_free (s : State) : s.SameChecks s.free.2 := ⟨rfl, rfl, fun _ => rfl, fun _ h => h⟩
theorem State.sameChecks_pick {α : Type} (s : State) (d : α) (l : List α) : s.SameChecks (s.pick d l).2 := by
  rcases l with _ | ⟨x, _ | ⟨y, l⟩⟩
  · exact .refl s
  · exact .refl s
  · exact s.sameChecks_free

/-- Hops over the mesh end runs of failures at their ports, and may take free values. -/
theorem State.sameChecks_hopsDone (s : State) (a b : Nat) : s.SameChecks (s.hopsDone a b) := by
  have hpath (w : List (Nat × Nat)) (v : State) : v.SameChecks (v.pathDone w) :=
    .forEach (fun (x : Nat × Nat) u => u.setTl x.1 { u.tl x.1 with hopFails := setNth 0 (u.tl x.1).hopFails x.2 })
      (fun _ u => u.sameChecks_setTl rfl) w v
  rw [State.hopsDone]
  split
  · exact hpath _ s
  · exact ((s.sameChecks_pick _ _).trans (State.sameChecks_pick _ _ _)).trans ((hpath _ _).trans (hpath _ _))

/-! ### Numbers in memory -/

/-- Storing a number writes memory alone. -/
theorem State.st_frame (s : State) (a n v : Nat) : ∃ m, s.st a n v = { s with mem := m } := by
  induction n generalizing s a v with
  | zero => exact ⟨s.mem, rfl⟩
  | succ n ih =>
    obtain ⟨m, h⟩ := ih (s.setByte a (BitVec.ofNat 8 v)) (a + 1) (v / 256)
    exact ⟨m, by rw [State.st, h, State.setByte]⟩

theorem State.sameChecks_st (s : State) (a n v : Nat) : s.SameChecks (s.st a n v) := by
  obtain ⟨m, h⟩ := s.st_frame a n v
  rw [h]
  exact ⟨rfl, rfl, fun _ => rfl, fun _ hw => hw⟩

/-- Storing a number leaves what lies outside it. -/
theorem State.byte_st_out (s : State) (a n v : Nat) {b : Nat} (h : b < a ∨ a + n ≤ b) : (s.st a n v).byte b = s.byte b := by
  induction n generalizing s a v with
  | zero => rfl
  | succ n ih => rw [State.st, ih _ _ _ (by omega), State.byte_setByte_ne s (by omega)]

/-- A number reads as it was stored, reduced to its bytes. -/
theorem State.ld_st (s : State) (a n v : Nat) : (s.st a n v).ld a n = v % 256 ^ n := by
  induction n generalizing s a v with
  | zero => rw [State.ld, Nat.pow_zero, Nat.mod_one]
  | succ n ih =>
    rw [State.st, State.ld, ih, State.byte_st_out _ _ _ _ (Or.inl (Nat.lt_succ_self a)), State.byte_setByte_same, BitVec.toNat_ofNat]
    change v % 256 + 256 * (v / 256 % 256 ^ n) = v % 256 ^ (n + 1)
    rw [Nat.pow_succ', Nat.mod_mul]

/-- A number in memory is below the bound of its bytes. -/
theorem State.ld_lt (s : State) (a n : Nat) : s.ld a n < 256 ^ n := by
  induction n generalizing a with
  | zero => exact Nat.one_pos
  | succ n ih =>
    have hb := (s.byte a).isLt
    have hr := ih (a + 1)
    rw [State.ld, Nat.pow_succ]
    omega

/-! ### SIGNAL -/

/-- An update of a counter without a poisoned word. -/
theorem State.signalAt_clean {s : State} {pos off : Nat} (h : s.anyPoison (scr pos off) 8 = false) (mode v : Nat) :
    s.signalAt pos off mode v = (.ok, s.st (scr pos off) 8 (signalVal mode (s.ld (scr pos off) 8) v)) := by
  rw [State.signalAt, h]; rfl

/-- The updated value of a counter: both modes keep to 64 bits. -/
theorem signalVal_eq {old v : Nat} (hold : old < 2 ^ 64) (hv : v < 2 ^ 64) (mode : Nat) :
    signalVal mode old v % 256 ^ 8 = if mode = 0 then (old + v) % 2 ^ 64 else Nat.lor old v := by
  rw [show 256 ^ 8 = 2 ^ 64 from rfl, signalVal]
  split
  · rw [Nat.mod_mod]
  · rw [Nat.mod_mod]
    exact Nat.mod_eq_of_lt (Nat.or_lt_two_pow hold hv)

/-- The SIGNAL of a descriptor into a counter without a poisoned word is OK. -/
theorem State.signalInto_clean {s : State} {d pos : Nat} (h : s.anyPoison (scr pos (dfld d 20 0 27)) 8 = false) :
    (s.signalInto d pos).1 = .ok ∧ s.SameChecks (s.signalInto d pos).2.2 := by
  rw [State.signalInto, State.signalAt_clean h]
  exact ⟨rfl, s.sameChecks_st _ _ _⟩

/-- A leaf's SIGNAL where nothing refuses it: the hops to a peer, and the update of the counter (R547). -/
def State.signalClean (s : State) (d pos : Nat) : Status × Nat × State :=
  (if dfld d 18 0 9 = 0x1FF then s else s.hopsDone pos (dfld d 18 0 9)).signalInto d (if dfld d 18 0 9 = 0x1FF then pos else dfld d 18 0 9)

/-- The counters of a SIGNAL hold no poisoned word, and a peer accepts its write. -/
structure State.SignalPasses (s : State) (p d : Nat) (l : List Nat) : Prop where
  clean : ∀ pos ∈ l, s.anyPoison (scr (if dfld d 18 0 9 = 0x1FF then pos else dfld d 18 0 9) (dfld d 20 0 27)) 8 = false
  peer : dfld d 18 0 9 = 0x1FF ∨ s.meshFail p d (dfld d 18 0 9) (dfld d 20 0 27) 8 = none

/-- The SIGNAL of a leaf that passes its checks. -/
theorem State.signalOne_passes {s t : State} {p d pos : Nat} {l : List Nat} (hpass : s.SignalPasses p d l) (hpos : pos ∈ l) (hst : s.SameChecks t) :
    t.signalOne p d pos = t.signalClean d pos ∧ (t.signalClean d pos).1 = .ok ∧ s.SameChecks (t.signalClean d pos).2.2 := by
  have hclean := hpass.clean pos hpos
  rw [State.signalOne, State.signalClean]
  by_cases hown : dfld d 18 0 9 = 0x1FF
  · simp only [hown, if_true] at hclean ⊢
    obtain ⟨hok, hsame⟩ := State.signalInto_clean (d := d) (hst.anyPoison hclean)
    exact ⟨trivial, hok, hst.trans hsame⟩
  · simp only [hown, if_false] at hclean ⊢
    have hhop := hst.trans (t.sameChecks_hopsDone pos (dfld d 18 0 9))
    obtain ⟨hok, hsame⟩ := State.signalInto_clean (d := d) (hhop.anyPoison hclean)
    refine ⟨?_, hok, hhop.trans hsame⟩
    rw [hhop.meshFail, hpass.peer.resolve_left hown]

/-- A sum so far takes the value and the state that one more update answers. -/
def addUpdate (sum : Nat) (y : Status × Nat × State) : Nat × State := (sum + y.2.1, y.2.2)
theorem addUpdate_state (sum : Nat) (y : Status × Nat × State) : (addUpdate sum y).2 = y.2.2 := rfl
/-- The sum of the counters so far, after the SIGNAL of one more leaf. -/
def signalStep (d : Nat) (x : Nat × State) (pos : Nat) : Nat × State := addUpdate x.1 (x.2.signalClean d pos)

/-- One leaf of a SIGNAL: after a refusal nothing more is done. -/
def signalAcc (p d : Nat) (acc : Status × Nat × State) (pos : Nat) : Status × Nat × State :=
  let (st, v, s) := acc
  if st != .ok then acc else let (st, w, s) := s.signalOne p d pos; (st, v + w, s)

/-- One leaf of a SIGNAL that nothing has refused. -/
theorem signalAcc_ok (p d : Nat) (x : Nat × State) (pos : Nat) : signalAcc p d (.ok, x) pos =
    ((x.2.signalOne p d pos).1, addUpdate x.1 (x.2.signalOne p d pos)) := by
  rw [signalAcc]
  exact if_neg (by decide)

/-- Leaf by leaf, a SIGNAL that passes its checks updates every counter. -/
theorem signalAcc_passes {s : State} {p d : Nat} {l : List Nat} (hpass : s.SignalPasses p d l) (k : List Nat) (hk : ∀ pos ∈ k, pos ∈ l)
    (x : Nat × State) (hx : s.SameChecks x.2) :
    k.foldl (signalAcc p d) (.ok, x) = (.ok, k.foldl (signalStep d) x) ∧ s.SameChecks (k.foldl (signalStep d) x).2 := by
  induction k generalizing x with
  | nil => exact ⟨rfl, hx⟩
  | cons pos k ih =>
    obtain ⟨hone, hok, hsame⟩ := State.signalOne_passes hpass (hk pos List.mem_cons_self) hx
    have hstep : signalAcc p d (.ok, x) pos = (.ok, signalStep d x pos) := by
      rw [signalAcc_ok, hone, hok, signalStep]
    rw [List.foldl_cons, List.foldl_cons, hstep]
    exact ih (fun q hq => hk q (List.mem_cons_of_mem _ hq)) _ (by rw [signalStep, addUpdate_state]; exact hsame)

/-- A SIGNAL that passes its checks completes OK with the sum of its counters. -/
theorem State.signalWork_passes {s : State} {p : Nat} {r : Run} (hpass : s.SignalPasses p r.d (s.leaves p)) :
    s.signalWork p r = ((s.leaves p).foldl (signalStep r.d) (0, s)).2.finish p r
      { st := .ok, r0 := sat32 ((s.leaves p).foldl (signalStep r.d) (0, s)).1, r1 := s.waitUs p r } := by
  obtain ⟨hfold, hsame⟩ := signalAcc_passes hpass (s.leaves p) (fun _ h => h) (0, s) (.refl s)
  have hwork : s.signalWork p r = match (s.leaves p).foldl (signalAcc p r.d) (.ok, 0, s) with
    | (st, v, t) => if st = .ok then t.finish p r { st := .ok, r0 := sat32 v, r1 := t.waitUs p r }
      else if st = .poison then t.finishPoison p r [] else t.finish p r { st := st, byte := 0xFF } := rfl
  rw [hwork, hfold]
  exact (if_pos rfl).trans (by rw [hsame.waitUs])

/-- Settles O40: an update is one stored number, and the checks of a SIGNAL pass leaf after leaf. -/
theorem signalUpdatesCounter : Obligations.SignalUpdatesCounter := by
  unfold Obligations.SignalUpdatesCounter
  refine ⟨?update, ?command, fun s d pos => rfl⟩
  case update =>
    intro s pos off mode v _ hv hwf
    refine ⟨fun hbad => by rw [State.signalAt, hbad]; rfl, fun hclean => ?_⟩
    intro x
    have hx : x = (.ok, s.st (scr pos off) 8 (signalVal mode (s.ld (scr pos off) 8) v)) := State.signalAt_clean hclean mode v
    rw [hx]
    refine ⟨rfl, ?_, fun a ha => State.byte_st_out s _ _ _ ha, (s.sameChecks_st _ _ _).regs, State.st_wf s _ _ _ hwf⟩
    rw [State.ld_st, signalVal_eq (s.ld_lt (scr pos off) 8) hv]
  case command =>
    intro s p r htile hp us own at_ off hrun hclean hpeer one x
    have hpass : s.entry.SignalPasses p r.d (s.entry.leaves p) := ⟨hclean, hpeer⟩
    have hone : one = signalStep r.d := by
      funext y pos
      by_cases hown : own
      · simp only [one, signalStep, addUpdate, State.signalClean, at_, if_pos hown, show dfld r.d 18 0 9 = 0x1FF from hown, if_true]
      · simp only [one, signalStep, addUpdate, State.signalClean, at_, if_neg hown, show ¬ dfld r.d 18 0 9 = 0x1FF from hown, if_false]
    rw [exec_work (c := .syncSignal p) (if_pos htile) hp hrun]
    refine congrArg _ (State.ran_congr ((State.signalWork_passes hpass).trans ?_))
    rw [← hone]
    rfl

end Sys2Proof.Machine
end

section
/-! PROOFS. Memory and the mover (R13, R110, R132, R133, R547): bytes that are written read back, and the rows of a MOV are moved one after
another, for its checks see no more poison after a row than before the command. -/

namespace Sys2Proof.Machine

/-! ### Bytes -/

/-- Byte `i` of a list that is read from memory. -/
theorem State.nth_ldBytes (s : State) {a n i : Nat} (h : i < n) : nth 0 (s.ldBytes a n) i = s.byte (a + i) := by
  induction n generalizing a i with
  | zero => omega
  | succ n ih =>
    rw [State.ldBytes]
    cases i with
    | zero => rfl
    | succ i => rw [nth, ih (by omega), Nat.add_right_comm, Nat.add_assoc]

@[simp] theorem State.ldBytes_length (s : State) (a n : Nat) : (s.ldBytes a n).length = n := by
  induction n generalizing a with
  | zero => rfl
  | succ n ih => rw [State.ldBytes, List.length_cons, ih]

/-- Writing bytes and marking words leave the registers and the tiles. -/
theorem State.put_frame (s : State) (a : Nat) (bs : List Byte) : ∃ m q, s.put a bs = { s with mem := m, poison := q } := by
  have hst (u : State) (b : Nat) : ∃ m, u.stBytes b bs = { u with mem := m } := by
    induction bs generalizing u b with
    | nil => exact ⟨u.mem, rfl⟩
    | cons x t ih =>
      obtain ⟨m, h⟩ := ih (u.setByte b x) (b + 1)
      exact ⟨m, by rw [State.stBytes, h, State.setByte]⟩
  have hmark (u : State) (w n : Nat) : ∃ q, u.mark false w n = { u with poison := q } := by
    induction n generalizing u w with
    | zero => exact ⟨u.poison, rfl⟩
    | succ n ih =>
      obtain ⟨q, h⟩ := ih { u with poison := tblSet (fun _ => false) u.poison w false } (w + 1)
      exact ⟨q, by rw [State.mark, h]⟩
  obtain ⟨m, hm⟩ := hst s a
  rw [State.put, hm]
  obtain ⟨q, hq⟩ := hmark { s with mem := m } ((a + 31) / 32) ((a + bs.length) / 32 - (a + 31) / 32)
  exact ⟨m, q, hq⟩

theorem State.sameChecks_put (s : State) (a : Nat) (bs : List Byte) : s.SameChecks (s.put a bs) := by
  have hclean (w : Nat) : s.isPoison w = false → (s.put a bs).isPoison w = false := State.isPoison_put
  obtain ⟨m, q, h⟩ := s.put_frame a bs
  rw [h] at hclean ⊢
  exact ⟨rfl, rfl, fun _ => rfl, hclean⟩

/-- Changing granules leaves the regions. -/
theorem State.sameChecks_mapGran (s : State) (pos off len : Nat) (f : Gran → Gran) : s.SameChecks (s.mapGran pos off len f) :=
  .forEach (fun k u => u.setTl pos ((u.tl pos).setGran k (f ((u.tl pos).granule k)))) (fun _ u => u.sameChecks_setTl rfl) _ s

/-- A write that labels its granules leaves the regions. -/
theorem State.sameChecks_granWrite (s : State) (pos off len : Nat) (label : Option Nat) : s.SameChecks (s.granWrite pos off len label) := by
  rw [State.granWrite]
  generalize s.windowPart pos off len = part
  exact (s.sameChecks_mapGran pos part.1 part.2 _).trans (State.sameChecks_mapGran _ pos part.1 part.2 _)

theorem State.sameChecks_putRow (s : State) (pos off : Nat) (bs : List Byte) (label : Option Nat) : s.SameChecks (s.putRow pos off bs label) :=
  (s.sameChecks_put _ _).trans (State.sameChecks_granWrite _ _ _ _ _)

/-- A row that is copied. -/
theorem State.sameChecks_copyRow (s : State) (d : Nat) (src : Nat → Nat) (pos i : Nat) : s.SameChecks (s.copyRow d src pos i) := by
  rw [State.copyRow]
  split
  · exact s.sameChecks_putRow _ _ _ _
  · exact (s.sameChecks_hopsDone _ _).trans (State.sameChecks_putRow _ _ _ _ _)

/-! ### Rows one after another -/

/-- Rows whose move passes in every state that the checks see alike are all moved. -/
theorem moveRows_all {s : State} {f : Nat × Nat → State → Status × State} {g : Nat × Nat → State → State} (rows : List (Nat × Nat))
    (hf : ∀ x ∈ rows, ∀ t, s.SameChecks t → f x t = (.ok, g x t)) (hg : ∀ (x : Nat × Nat) (t : State), t.SameChecks (g x t)) (n : Nat) (t : State)
    (ht : s.SameChecks t) : moveRows f rows n t = (.ok, n + rows.length, forEach rows g t) := by
  induction rows generalizing n t with
  | nil => rfl
  | cons x rows ih =>
    rw [moveRows, hf x List.mem_cons_self t ht]
    dsimp only
    rw [ih (fun y hy => hf y (List.mem_cons_of_mem _ hy)) (n + 1) (g x t) (ht.trans (hg x t)), forEach_cons, List.length_cons,
      Nat.add_right_comm, Nat.add_assoc]

/-- MOV completes OK with its rows moved. -/
theorem State.movEnd_ok (s : State) (p : Nat) (r : Run) (rows reason : Nat) : s.movEnd p r .ok rows reason = s.finish p r (movRes r.d rows) := by
  rw [State.movEnd, if_pos rfl]

/-- The move of rows that all pass completes the command. -/
theorem moveRows_finish {s : State} {p : Nat} {r : Run} {f : Nat × Nat → State → Status × State} {g : Nat × Nat → State → State}
    {rows : List (Nat × Nat)} (reason : Status → Nat) (hf : ∀ x ∈ rows, ∀ t, s.SameChecks t → f x t = (.ok, g x t))
    (hg : ∀ (x : Nat × Nat) (t : State), t.SameChecks (g x t)) :
    (match moveRows f rows 0 s with | (st, n, t) => t.movEnd p r st n (reason st)) = (forEach rows g s).finish p r (movRes r.d rows.length) := by
  rw [moveRows_all rows hf hg 0 s (.refl s), Nat.zero_add]
  exact State.movEnd_ok _ p r _ _

/-- One row of a COPY or BCAST: a poisoned word ends the command. -/
def copyStep (d : Nat) (src : Nat → Nat) : Nat × Nat → State → Status × State := fun (pos, i) s =>
  if s.anyPoison (scr (src pos) (movSrc d i)) (dfld d 32 0 32) then (.poison, s) else (.ok, s.copyRow d src pos i)

/-- COPY and BCAST wait, or move their rows. -/
theorem State.copyRows_eq (s : State) (p : Nat) (r : Run) (src : Nat → Nat) :
    s.copyRows p r src = if s.movWaits p r.d then s else
      match moveRows (copyStep r.d src) (s.movRows p r.d) 0 s with | (st, n, t) => t.movEnd p r st n 0x00 := rfl

/-- COPY and BCAST where no row that is read holds a poisoned word. -/
theorem State.copyRows_clean {s : State} {p : Nat} {r : Run} {src : Nat → Nat} (hw : s.movWaits p r.d = false)
    (hclean : ∀ x ∈ s.movRows p r.d, s.anyPoison (scr (src x.1) (movSrc r.d x.2)) (dfld r.d 32 0 32) = false) :
    s.copyRows p r src =
      (forEach (s.movRows p r.d) (fun x v => v.copyRow r.d src x.1 x.2) s).finish p r (movRes r.d (s.movRows p r.d).length) := by
  rw [State.copyRows_eq, hw, if_neg Bool.false_ne_true]
  refine moveRows_finish (fun _ => 0x00) (fun x hx t ht => ?_) fun x t => t.sameChecks_copyRow _ _ _ _
  exact if_neg (by rw [ht.anyPoison (hclean x hx)]; exact Bool.false_ne_true)

/-- FILL waits, or fills every row. -/
theorem State.fillWork_eq (s : State) (p : Nat) (r : Run) :
    s.fillWork p r = if s.movWaits p r.d then s else
      (forEach (s.movRows p r.d) (fun x v => v.fillRow r.d x.1 x.2) s).finish p r (movRes r.d (s.movRows p r.d).length) := by
  have hwork : s.fillWork p r = if s.movWaits p r.d then s else
      match moveRows (fun x t => (.ok, t.fillRow r.d x.1 x.2)) (s.movRows p r.d) 0 s with | (st, n, t) => t.movEnd p r st n 0x00 := rfl
  rw [hwork, moveRows_finish (g := fun x v => v.fillRow r.d x.1 x.2) (fun _ => 0x00) (fun _ _ _ _ => rfl) fun x t => t.sameChecks_putRow _ _ _ _]

/-- A row of a MESH_PUT at a peer that accepts it. -/
def State.meshPutRow (s : State) (d pos i : Nat) : State :=
  (s.hopsDone pos (dfld d 38 0 9)).put (scr (dfld d 38 0 9) (movDst d i)) (s.ldBytes (scr pos (movSrc d i)) (dfld d 32 0 32))

/-- MESH_PUT where no row holds a poisoned word and the peer accepts each. -/
theorem State.meshPutWork_clean {s : State} {p : Nat} {r : Run}
    (hclean : ∀ x ∈ s.movRows p r.d, s.anyPoison (scr x.1 (movSrc r.d x.2)) (dfld r.d 32 0 32) = false ∧
      s.meshFail p r.d (dfld r.d 38 0 9) (movDst r.d x.2) (dfld r.d 32 0 32) = none) :
    s.meshPutWork p r =
      (forEach (s.movRows p r.d) (fun x v => v.meshPutRow r.d x.1 x.2) s).finish p r (movRes r.d (s.movRows p r.d).length) := by
  refine moveRows_finish (f := State.meshRow p r.d) (fun _ => 0x00) (fun x hx t ht => ?_)
    fun x t => (t.sameChecks_hopsDone _ _).trans (State.sameChecks_put _ _ _)
  obtain ⟨hpoison, hpeer⟩ := hclean x hx
  have hhop := ht.trans (t.sameChecks_hopsDone x.1 (dfld r.d 38 0 9))
  have hmesh : (t.hopsDone x.1 (dfld r.d 38 0 9)).meshFail p r.d (dfld r.d 38 0 9) (movDst r.d x.2)
      (t.ldBytes (scr x.1 (movSrc r.d x.2)) (dfld r.d 32 0 32)).length = none := by rw [State.ldBytes_length, hhop.meshFail, hpeer]
  rw [State.meshRow, ht.anyPoison hpoison, State.meshWrite, hmesh]
  rfl

/-- LOAD waits, or reads its rows; without a failure it completes OK. -/
theorem State.loadWork_eq (s : State) (p : Nat) (es : List MemErr) (r : Run) :
    s.loadWork p es r = if s.loadWaits p r.d then s else
      match loadRows (State.loadRow r.d (s.clsOf p) es) (s.movRows p r.d) none 0 s with
      | (st, stopped, n, t) => if st = some .poison && !stopped then t.finishPoison p r [] else t.movEnd p r (st.getD .ok) n 0x00 := rfl

/-- STORE waits, or writes its rows. -/
theorem State.storeWork_eq (s : State) (p : Nat) (es : List MemErr) (r : Run) :
    s.storeWork p es r = if s.storeWaits p r.d then s else
      match moveRows (State.storeRow p r.d es) (s.movRows p r.d) 0 s with
      | (st, n, t) => t.movEnd p r st n (if st = .perm then 0x09 else 0x00) := rfl

/-- Settles O41: each MOV waits for its granules or its memory, or moves its rows one after another. -/
theorem memoryWriteFrame : Obligations.MemoryWriteFrame := by
  unfold Obligations.MemoryWriteFrame
  refine ⟨fun s a bs => ⟨fun i hi => ?byte, fun b hb => State.byte_put_out s a bs hb, ?regs, State.put_wf s a bs⟩, ?mov⟩
  case byte =>
    have h := State.nth_ldBytes (s.put a bs) (a := a) hi
    rw [State.ldBytes_put] at h
    exact h.symm
  case regs => exact (s.sameChecks_put a bs).regs
  intro s p r htile hp d u rows len
  refine ⟨?copy, ?bcast, ?fill, ?mesh, ?load, ?store⟩
  case copy =>
    intro hrun
    refine ⟨fun hw => exec_work_id (c := .movCopy p) (if_pos htile) hp hrun ?_, fun hw hclean => ?_⟩
    · rw [State.copyWork, State.copyRows_eq]; exact if_pos hw
    · rw [exec_work (c := .movCopy p) (if_pos htile) hp hrun]
      exact congrArg _ (State.ran_congr (State.copyRows_clean hw hclean))
  case bcast =>
    intro hrun
    refine ⟨fun hw => exec_work_id (c := .movBcast p) (if_pos htile) hp hrun ?_, fun hw hclean => ?_⟩
    · rw [State.bcastWork, State.copyRows_eq]; exact if_pos hw
    · rw [exec_work (c := .movBcast p) (if_pos htile) hp hrun]
      exact congrArg _ (State.ran_congr (State.copyRows_clean hw hclean))
  case fill =>
    intro hrun
    refine ⟨fun hw => exec_work_id (c := .movFill p) (if_pos htile) hp hrun ?_, fun hw => ?_⟩
    · rw [State.fillWork_eq]; exact if_pos hw
    · rw [exec_work (c := .movFill p) (if_pos htile) hp hrun]
      refine congrArg _ (State.ran_congr ?_)
      rw [State.fillWork_eq]
      exact if_neg (by rw [Bool.not_eq_true]; exact hw)
  case mesh =>
    intro hrun hclean
    rw [exec_work (c := .movMeshPut p) (if_pos htile) hp hrun]
    exact congrArg _ (State.ran_congr (State.meshPutWork_clean hclean))
  case load =>
    intro es hrun
    refine ⟨fun hw => exec_work_id (c := .movLoad p es) (if_pos htile) hp hrun ?_, fun n v hw hrows => ?_⟩
    · rw [State.loadWork_eq]; exact if_pos hw
    · rw [exec_work (c := .movLoad p es) (if_pos htile) hp hrun]
      refine congrArg _ (State.ran_congr ?_)
      rw [State.loadWork_eq, hrows]
      exact (if_neg (by rw [Bool.not_eq_true]; exact hw)).trans (v.movEnd_ok p r n 0x00)
  case store =>
    intro es hrun
    refine ⟨fun hw => exec_work_id (c := .movStore p es) (if_pos htile) hp hrun ?_, fun n v hw hrows => ?_⟩
    · rw [State.storeWork_eq]; exact if_pos hw
    · rw [exec_work (c := .movStore p es) (if_pos htile) hp hrun]
      refine congrArg _ (State.ran_congr ?_)
      rw [State.storeWork_eq, hrows]
      exact (if_neg (by rw [Bool.not_eq_true]; exact hw)).trans (v.movEnd_ok p r n 0x00)

end Sys2Proof.Machine
end

section
/-! PROOFS. The work of the tile commands (03 to 05 and 13 of the spec): where no check stops it, a command that makes its outputs in one piece
completes with them, and a FETCH or EXCH sends its requests. -/

namespace Sys2Proof.Machine

/-! ### Commands that make their outputs in one piece -/

/-- A command whose writes met no poisoned word in part completes OK. -/
theorem Made.finish_done {m : Made} (h : m.bad = false) (p : Nat) (r : Run) : m.finish p r = m.done p r := by
  rw [Made.finish, h]; rfl

section
variable {s : State} {p : Nat} {r : Run} {m : Made}

/-- What is made where a test does not stop it. -/
theorem eq_of_unstopped {b : Bool} {x : Made} (h : (if b then none else some x) = some m) : b = false ∧ x = m := by
  cases b
  · exact ⟨rfl, Option.some.inj h⟩
  · exact absurd h nofun
/-- What is made where nothing that may stop it does. -/
theorem eq_of_none {α : Type} {o : Option α} {x : Made} (h : (if o.isNone then some x else none) = some m) : o = none ∧ x = m := by
  cases o with
  | none => exact ⟨rfl, Option.some.inj h⟩
  | some a => exact absurd h nofun

theorem State.vecWork_made (h : (if s.poisonIn (s.vecReads p r.d) then none else some (s.vecMade p r.d)) = some m) :
    s.vecWork p r = m.finish p r := by
  obtain ⟨hclean, rfl⟩ := eq_of_unstopped h
  rw [State.vecWork, hclean]
  rfl
theorem State.topkWork_made (h : (if s.poisonIn (s.topkInputs p r.d) then none else some (s.topkMade p r.d)) = some m) :
    s.topkWork p r = m.finish p r := by
  obtain ⟨hclean, rfl⟩ := eq_of_unstopped h
  rw [State.topkWork, hclean]
  rfl
theorem State.dequantWork_made (h : (if s.poisonIn (s.qntReads p r.d) then none else some (s.dequantMade p r.d)) = some m) :
    s.dequantWork p r = m.finish p r := by
  obtain ⟨hclean, rfl⟩ := eq_of_unstopped h
  rw [State.dequantWork, hclean]
  rfl
theorem State.quantWork_made (h : (if (s.quantStops p r.d).isNone then some (s.quantMade p r.d) else none) = some m) :
    s.quantWork p r = m.finish p r := by
  obtain ⟨hgo, rfl⟩ := eq_of_none h
  rw [State.quantWork, hgo]
theorem State.sampleWork_made (h : (if (s.sampleStops p r.d).isNone then some (s.sampleMade p r.d) else none) = some m) :
    s.sampleWork p r = m.finish p r := by
  obtain ⟨hgo, rfl⟩ := eq_of_none h
  rw [State.sampleWork, hgo]
theorem State.attnWork_made (h : (if (s.attnStops p r.d).isNone then some (s.attnMade p r.d) else none) = some m) :
    s.attnWork p r = m.finish p r := by
  obtain ⟨hgo, rfl⟩ := eq_of_none h
  rw [State.attnWork, hgo]
theorem State.gradWork_made
    (h : ((fmtOf (dfld r.d 16 0 4)).bind fun f => if s.poisonIn (s.gradReads p r.d f) then none else some (s.gradMade p r.d f)) = some m) :
    s.gradWork p r = m.finish p r := by
  obtain ⟨f, hf, h⟩ := Option.bind_eq_some_iff.1 h
  obtain ⟨hclean, rfl⟩ := eq_of_unstopped h
  rw [State.gradWork, hf]
  exact if_neg (by rw [hclean]; exact Bool.false_ne_true)
theorem State.denseWork_made {tr : Bool}
    (h : ((s.modeOf p r.d).bind fun f => if (s.denseStop p r.d f tr).isNone then some (s.denseMade p r.d f tr) else none) = some m) :
    s.denseWork p tr r = m.finish p r := by
  obtain ⟨f, hf, h⟩ := Option.bind_eq_some_iff.1 h
  obtain ⟨hgo, rfl⟩ := eq_of_none h
  rw [State.denseWork, hf]
  dsimp only
  rw [hgo]
  rfl
theorem State.groupedWork_made
    (h : ((s.modeOf p r.d).bind fun f => if (s.groupedStop p r.d f).isNone then some (s.groupedMade p r.d f) else none) = some m) :
    s.groupedWork p r = m.finish p r := by
  obtain ⟨f, hf, h⟩ := Option.bind_eq_some_iff.1 h
  obtain ⟨hgo, rfl⟩ := eq_of_none h
  rw [State.groupedWork, hf]
  dsimp only
  rw [hgo]
  rfl

end

/-- Each command that makes its outputs in one piece finishes with what `workMade` says. -/
theorem work_made {c : Instr} {s : State} {p cls op : Nat} {work : Run → State → State} {r : Run} {m : Made}
    (hform : workForm c = some (p, cls, op, work)) (hmade : workMade c s r = some m) : work r s = m.finish p r := by
  cases c <;> simp only [workForm, Option.ite_none_right_eq_some, Option.some.injEq, reduceCtorEq] at hform
  all_goals simp only [workMade, reduceCtorEq] at hmade
  all_goals
    obtain ⟨-, hrow⟩ := hform
    cases hrow
  case mmaDense | tmma => exact State.denseWork_made hmade
  case mmaGrouped => exact State.groupedWork_made hmade
  case attn => exact State.attnWork_made hmade
  case vecTopk => exact State.topkWork_made hmade
  case qntQuant => exact State.quantWork_made hmade
  case qntDequant => exact State.dequantWork_made hmade
  case sample => exact State.sampleWork_made hmade
  case tgrad => exact State.gradWork_made hmade
  all_goals exact State.vecWork_made hmade


/-! ### Commands that send requests -/

section
variable {s : State} {p : Nat} {r : Run}

/-- What a list command reads where a check stops it. -/
theorem listOk_eq_some {d w : Nat} {ys : List Xfer} (h : listOk s p d w = some ys) :
    ∃ xs, s.listXfers p d = some xs ∧ s.xferFail p w [1, 2, 3] xs = none ∧ ys = xs.filter fun x => x.len != 0 := by
  obtain ⟨xs, hxs, h⟩ := Option.bind_eq_some_iff.1 h
  cases hf : s.xferFail p w [1, 2, 3] xs with
  | none => rw [hf] at h; exact ⟨xs, hxs, hf, (Option.some.inj h).symm⟩
  | some st => rw [hf] at h; exact absurd h nofun

theorem State.fetchSingle_sends (hfresh : r.issued = false) :
    s.fetchSingle p r = s.sendAll p r (s.fetchPkts p r.d (s.oneXfers p r.d)) { st := .ok } := by
  rw [State.fetchSingle, hfresh]
  rfl

theorem State.fetchList_sends {xs : List Xfer} (hfresh : r.issued = false) (h : listOk s p r.d 64 = some xs) :
    s.fetchList p r = s.sendAll p r (s.fetchPkts p r.d xs) { st := .ok } := by
  obtain ⟨ys, hys, hpass, rfl⟩ := listOk_eq_some h
  rw [State.fetchList, hfresh, if_neg Bool.false_ne_true, hys]
  dsimp only
  rw [hpass]
  rfl

/-- The transfers of a PUT or an atomic that no check stops: none of its list's entries goes to tile scratch, and none is poisoned. -/
theorem exchOk_eq_some {d w : Nat} {zs : List Xfer} (h : exchOk s p d w = some zs) :
    ∃ xs, (if dfld d 38 0 1 = 1 then s.listXfers p d = some xs ∧ s.xferFail p w [1, 2, 3] xs = none else xs = s.oneXfers p d) ∧
      zs = (xs.filter fun x => x.len != 0) ∧ (xs.find? fun x => x.len != 0 && inScratch (x.addr % 2 ^ 45)) = none ∧ s.xferPoison zs = false := by
  obtain ⟨ys, hys, h⟩ := Option.bind_eq_some_iff.1 h
  have hgo : ((ys.any fun x => inScratch (x.addr % 2 ^ 45)) || s.xferPoison ys) = false := by
    by_contra hc
    rw [Bool.not_eq_false] at hc
    rw [if_pos hc] at h
    exact absurd h nofun
  rw [hgo] at h
  obtain rfl : ys = zs := Option.some.inj h
  obtain ⟨hhome, hclean⟩ := Bool.or_eq_false_iff.1 hgo
  have hfind (xs : List Xfer) (hx : ys = xs.filter fun x => x.len != 0) :
      (xs.find? fun x => x.len != 0 && inScratch (x.addr % 2 ^ 45)) = none := by
    rw [List.find?_eq_none]
    intro x hmem hbad
    rw [Bool.and_eq_true] at hbad
    exact Bool.false_ne_true (hhome.symm.trans (List.any_eq_true.2 ⟨x, hx ▸ List.mem_filter.2 ⟨hmem, hbad.1⟩, hbad.2⟩))
  by_cases hl : dfld d 38 0 1 = 1
  · rw [if_pos hl] at hys
    obtain ⟨xs, hxs, hpass, rfl⟩ := listOk_eq_some hys
    exact ⟨xs, by rw [if_pos hl]; exact ⟨hxs, hpass⟩, rfl, hfind xs rfl, hclean⟩
  · rw [if_neg hl] at hys
    cases hys
    exact ⟨_, by rw [if_neg hl], rfl, hfind _ rfl, hclean⟩

theorem State.exchWork_sends {op w : Nat} {xs : List Xfer} (hfresh : r.issued = false) (h : exchOk s p r.d w = some xs) :
    s.exchWork p op w r = s.sendAll p r (s.exchPkts p r.d op xs) { st := .ok } := by
  obtain ⟨ys, hread, rfl, hhome, hclean⟩ := exchOk_eq_some h
  have hsend : s.exchXfers p r op (ys.filter fun x => x.len != 0) =
      s.sendAll p r (s.exchPkts p r.d op (ys.filter fun x => x.len != 0)) { st := .ok } := by
    rw [State.exchXfers, hclean, if_neg Bool.false_ne_true]
  rw [State.exchWork, hfresh, if_neg Bool.false_ne_true, ← hsend]
  by_cases hl : dfld r.d 38 0 1 = 1
  · rw [if_pos hl] at hread
    obtain ⟨hys, hpass⟩ := hread
    dsimp only
    rw [if_pos hl, hys]
    dsimp only
    rw [hpass]
    dsimp only
    rw [hhome]
  · rw [if_neg hl] at hread
    dsimp only
    rw [if_neg hl, ← hread, hhome]

theorem State.sendWork_sends {xs : List Xfer} (hfresh : r.issued = false)
    (h : (if dfld r.d 38 0 1 = 1 then sendListOk s p r.d else sendOk s p r.d) = some xs) :
    s.sendWork p r = s.sendAll p r (s.sendPkts p r.d xs) { st := .ok } := by
  rw [State.sendWork, hfresh, if_neg Bool.false_ne_true]
  by_cases hl : dfld r.d 38 0 1 = 1
  · rw [if_pos hl] at h
    obtain ⟨ys, hys, h⟩ := Option.bind_eq_some_iff.1 h
    dsimp only at h ⊢
    rw [if_pos hl, hys]
    dsimp only
    split at h
    · exact absurd h nofun
    · next hgo =>
      cases h
      simp only [Bool.or_eq_true, not_or, Bool.not_eq_true, Option.isSome_eq_false_iff, Option.isNone_iff_eq_none] at hgo
      obtain ⟨⟨haddr, hpass⟩, hclean⟩ := hgo
      rw [haddr, if_neg Bool.false_ne_true, hpass]
      dsimp only
      rw [hclean, if_neg Bool.false_ne_true]
  · rw [if_neg hl] at h
    rw [sendOk] at h
    dsimp only at h ⊢
    rw [if_neg hl]
    split at h
    · exact absurd h nofun
    · next hgo =>
      cases h
      rw [Bool.not_eq_true, Bool.or_eq_false_iff] at hgo
      obtain ⟨haddr, hclean⟩ := hgo
      exact (if_neg (ne_true_of_eq_false haddr)).trans (if_neg (ne_true_of_eq_false hclean))

end

/-- Each FETCH and EXCH that no check stops sends the requests that `workSends` says. -/
theorem work_sends {c : Instr} {s : State} {p cls op : Nat} {work : Run → State → State} {r : Run} {ps : List Sending}
    (hform : workForm c = some (p, cls, op, work)) (hfresh : r.issued = false) (hsends : workSends c s r = some ps) :
    work r s = s.sendAll p r ps { st := .ok } := by
  cases c <;> simp only [workForm, Option.ite_none_right_eq_some, Option.some.injEq, reduceCtorEq] at hform
  all_goals simp only [workSends, Option.some.injEq, Option.map_eq_some_iff, reduceCtorEq] at hsends
  all_goals
    obtain ⟨-, hrow⟩ := hform
    cases hrow
  case fetchSingle => exact hsends ▸ State.fetchSingle_sends hfresh
  case fetchList =>
    obtain ⟨xs, hxs, rfl⟩ := hsends
    exact State.fetchList_sends hfresh hxs
  case exchSend =>
    obtain ⟨xs, hxs, rfl⟩ := hsends
    exact State.sendWork_sends hfresh hxs
  all_goals
    obtain ⟨xs, hxs, rfl⟩ := hsends
    exact State.exchWork_sends hfresh hxs

/-- The last answer of a command none of whose entries failed completes it, but for a SEND whose marks still have to go out. -/
theorem State.answered_ok {s : State} {p : Nat} {r : Run} {op : Nat} (h : r.failed = none) :
    (dClass r.d = 0x31 → s.answered p r op = s.finish p r { st := .ok, r0 := r.got, r1 := r.okEnts }) ∧
    (dClass r.d = 0x32 → (dOp r.d = 4 → dfld r.d 40 0 32 = 0xFFFFFFFF ∨ op = 0x41) →
      s.answered p r op = s.finish p r { st := .ok, r0 := r.acked, r1 := r.acked }) := by
  rw [State.answered, h]
  dsimp only
  refine ⟨fun hc => if_pos (beq_iff_eq.2 hc), fun hc hmarks => ?_⟩
  have hfetch : ¬ (dClass r.d == 0x31) = true := by rw [hc]; decide
  have hdone : ¬ (dClass r.d == 0x32 && dOp r.d == 4 && dfld r.d 40 0 32 != 0xFFFFFFFF && op == 0x40) = true := by
    simp only [Bool.and_eq_true, beq_iff_eq, bne_iff_ne]
    rintro ⟨⟨⟨-, hop⟩, hmark⟩, hgo⟩
    rcases hmarks hop with hnone | hsent
    · exact hmark hnone
    · omega
  rw [if_neg hfetch, if_neg hdone]

/-! ### HALO commands -/

/-- A write that covers no poisoned word in part is written whole. -/
theorem State.putOut_whole {s : State} {a : Nat} {bs : List Byte} (hpos : bs ≠ []) (hhead : s.headBad a = false)
    (htail : s.headBad (a + bs.length) = false) : s.putOut a bs = (s.put a bs, false) := by
  have hlen : 0 < bs.length := List.length_pos_iff.2 hpos
  rw [State.putOut, State.trim, hhead, htail]
  simp [hlen]

/-- Where a state's words are clean, so are the ends of a range. -/
theorem State.SameChecks.headBad {s t : State} (h : s.SameChecks t) {a : Nat} (hc : s.headBad a = false) : t.headBad a = false := by
  rw [State.headBad, Bool.and_eq_false_iff] at hc ⊢
  exact hc.imp id (h.clean _)

/-- What a FLUSH adds at a leaf: the statistics of its watch point, and whether they met a poisoned word in part. -/
def flushStep (s : State) (d : Nat) : State × Bool → ORange → State × Bool
  | (t, b), (pos, off, n) =>
    ((t.putOut (scr pos off) ((s.watchStat pos (dWatchId d)).image n)).1, b || (t.putOut (scr pos off) ((s.watchStat pos (dWatchId d)).image n)).2)

/-- The statistics of a leaf's watch point, written to its scratch. -/
def State.flushLeaf (s : State) (d pos : Nat) (u : State) : State := u.put (scr pos (dfld d 32 0 27)) ((s.watchStat pos (dWatchId d)).image 40)

/-- The leaves' statistics, one after another, where none meets a poisoned word in part. -/
theorem foldl_flushStep {s : State} {d : Nat} (l : List Nat)
    (hl : ∀ pos ∈ l, s.headBad (scr pos (dfld d 32 0 27)) = false ∧ s.headBad (scr pos (dfld d 32 0 27) + 40) = false)
    (t : State) (ht : s.SameChecks t) :
    (l.map fun pos => ((pos, dfld d 32 0 27, 40) : ORange)).foldl (flushStep s d) (t, false) = (forEach l (s.flushLeaf d) t, false) := by
  induction l generalizing t with
  | nil => rfl
  | cons pos l ih =>
    obtain ⟨hhead, htail⟩ := hl pos List.mem_cons_self
    have hlen : ((s.watchStat pos (dWatchId d)).image 40).length = 40 := by rw [HStat.image, List.length_map, List.length_range]
    have hput : t.putOut (scr pos (dfld d 32 0 27)) ((s.watchStat pos (dWatchId d)).image 40) = (s.flushLeaf d pos t, false) :=
      State.putOut_whole (List.ne_nil_of_length_pos (by rw [hlen]; decide)) (ht.headBad hhead) (by rw [hlen]; exact ht.headBad htail)
    have hstep : flushStep s d (t, false) (pos, dfld d 32 0 27, 40) = (s.flushLeaf d pos t, false) := by
      rw [flushStep, hput, Bool.or_self]
    rw [List.map_cons, List.foldl_cons, hstep, forEach_cons]
    exact ih (fun q hq => hl q (List.mem_cons_of_mem _ hq)) _ (ht.trans (t.sameChecks_put _ _))

/-- A FLUSH that meets no poisoned word in part (R138, R144). -/
theorem State.flushWork_clean {s : State} {p : Nat} {r : Run} (h : ∀ pos ∈ s.leaves p,
      s.headBad (scr pos (dfld r.d 32 0 27)) = false ∧ s.headBad (scr pos (dfld r.d 32 0 27) + 40) = false) :
    s.flushWork p r = (forEach (s.leaves p) (s.flushLeaf r.d) s).finish p r
      { st := .ok, r0 := sat32 (((s.leaves p).map fun pos => (s.watchStat pos (dWatchId r.d)).count).sum) } := by
  have hfold : (s.flushOuts p r.d).foldl (flushStep s r.d) (s, false) = (forEach (s.leaves p) (s.flushLeaf r.d) s, false) :=
    foldl_flushStep _ h s (.refl s)
  have hwork : s.flushWork p r = match (s.flushOuts p r.d).foldl (flushStep s r.d) (s, false) with
      | (t, bad) => if bad then t.finishPoison p r []
        else t.finish p r { st := .ok, r0 := sat32 (((s.leaves p).map fun pos => (s.watchStat pos (dWatchId r.d)).count).sum) } := rfl
  rw [hwork, hfold]
  exact if_neg Bool.false_ne_true

/-- A CHECK whose rows hold no poisoned word (R138). -/
theorem State.checkWork_clean {s : State} {p : Nat} {r : Run} (h : s.poisonIn (s.checkReads p r.d) = false) :
    s.checkWork p r = s.finish p r
      { st := .ok, r0 := sat32 (dfld r.d 18 0 16 * dfld r.d 20 0 32 * (s.leaves p).length), stats := s.segStats (s.checkSegs p r.d) } := by
  rw [State.checkWork]
  dsimp only
  rw [h, if_neg Bool.false_ne_true]

/-! ### The obligation -/

section
variable {s : State} {p : Nat} {r : Run}

theorem exec_haloCheck (htile : isTile p = true) (hp : s.powered = true) (hrun : s.running p 0x02 0 = some r)
    (hclean : s.poisonIn (s.checkReads p r.d) = false) :
    exec (.haloCheck p) s = .next (s.ran fun t => t.finish p r
      { st := .ok, r0 := sat32 (dfld r.d 18 0 16 * dfld r.d 20 0 32 * (s.leaves p).length), stats := s.segStats (s.checkSegs p r.d) }) := by
  rw [exec_work (c := .haloCheck p) (if_pos htile) hp hrun]
  exact congrArg _ (State.ran_congr (State.checkWork_clean (s := s.entry) hclean))

theorem exec_haloFlush (htile : isTile p = true) (hp : s.powered = true) (hrun : s.running p 0x02 1 = some r)
    (hclean : ∀ pos ∈ s.leaves p, s.headBad (scr pos (dfld r.d 32 0 27)) = false ∧ s.headBad (scr pos (dfld r.d 32 0 27) + 40) = false) :
    exec (.haloFlush p) s = .next (s.ran fun t => (forEach (s.leaves p) (s.flushLeaf r.d) t).finish p r
      { st := .ok, r0 := sat32 ((s.leaves p).map fun pos => (s.watchStat pos (dWatchId r.d)).count).sum }) := by
  have hleaves : s.entry.leaves p = s.leaves p := rfl
  have hstat (pos id : Nat) : s.entry.watchStat pos id = s.watchStat pos id := rfl
  have hleaf : s.entry.flushLeaf r.d = s.flushLeaf r.d := by
    funext pos u
    rw [State.flushLeaf, hstat, ← State.flushLeaf]
  have hwork := State.flushWork_clean (s := s.entry) (p := p) (r := r) hclean
  rw [hleaves, hleaf] at hwork
  simp only [hstat] at hwork
  rw [exec_work (c := .haloFlush p) (if_pos htile) hp hrun]
  exact congrArg _ (State.ran_congr hwork)

theorem exec_haloClear (htile : isTile p = true) (hp : s.powered = true) (hrun : s.running p 0x02 2 = some r) :
    exec (.haloClear p) s = .next (s.ran fun t =>
      (forEach (s.leaves p) (fun pos u => u.setWatch pos (dWatchId r.d) HStat.zero') t).finish p r { st := .ok }) := by
  have hleaves : s.entry.leaves p = s.leaves p := rfl
  have hwork : s.entry.clearWork p r =
      (forEach (s.leaves p) (fun pos u => u.setWatch pos (dWatchId r.d) HStat.zero') s.entry).finish p r { st := .ok } := by
    rw [State.clearWork, hleaves]
  rw [exec_work (c := .haloClear p) (if_pos htile) hp hrun]
  exact congrArg _ (State.ran_congr hwork)

end

/-- Settles O12: each row of `workForm` runs its work, and what that work does where no check stops it is said above, form by form. -/
theorem tileWorkCompletes : Obligations.TileWorkCompletes := by
  unfold Obligations.TileWorkCompletes
  refine ⟨?rows, fun s p r op hfailed => State.answered_ok hfailed, fun s p r htile hp =>
    ⟨exec_haloCheck htile hp, exec_haloFlush htile hp, exec_haloClear htile hp⟩⟩
  intro c s p cls op work hform hp
  refine ⟨fun r hrun => exec_work hform hp hrun, fun hnone => ?idle, fun r m hrun hmade hgood => ?made, fun r ps hrun hfresh hsends => ?sends⟩
  case idle =>
    have hentry : s.entry.running p cls op = none := hnone
    rw [exec_workForm hform hp]
    exact congrArg _ (State.ran_congr (by rw [State.work, hentry]; rfl))
  case made =>
    refine ⟨?_, rfl, rfl, rfl⟩
    rw [exec_work hform hp hrun]
    exact congrArg _ (State.ran_congr ((work_made hform hmade).trans (Made.finish_done hgood p r)))
  case sends =>
    have hwork := work_sends hform hfresh hsends
    rw [exec_work hform hp hrun]
    refine ⟨fun hnil => ?_, fun hsome => ?_⟩
    · refine congrArg _ (State.ran_congr (hwork.trans ?_))
      rw [State.sendAll, hnil]
      rfl
    · refine congrArg _ (State.ran_congr (hwork.trans ?_))
      rw [State.sendAll, if_neg (by rwa [List.isEmpty_iff])]

end Sys2Proof.Machine
end
